-- ==== Sys2Proof/Word.lean ====
section
/-! DEFINITION. Sys2Proof/Word.lean: the bit widths the manual gives as bits. Quantities the manual only counts,
adds or compares as numbers (scores, seconds, metres) are Nat or Int where they are used. -/

namespace Sys2Proof

/-- One byte of a link frame or of a table entry. -/
abbrev Byte := BitVec 8

/-- A two-byte field of a frame or a table entry, and the CHECK register (R7). -/
abbrev Half := BitVec 16

/-- A value of the corridor clock: 0.1 s units, 32 bits, wrapping (R74). -/
abbrev Time := BitVec 32

/-- A signal index, 0 to 15. -/
abbrev SignalId := Fin 16

/-- A slot of the request table, 0 to 39 (R55). -/
abbrev SlotId := Fin 40

end Sys2Proof
end

