-- ==== Sys2Proof/Syntax.lean ====
section
/-! DEFINITION. Sys2Proof/Syntax.lean: the commands of the CP16, one constructor per row of spec/opcode_table.json,
with the operands each command brings from outside the part. -/

namespace Sys2Proof

/-- The two corridor link ports. -/
inductive PortId where
  | west | east
deriving DecidableEq, Repr

/-- The port opposite to a port, through which a frame is repeated (R10). -/
def PortId.opposite : PortId → PortId
  | .west => .east
  | .east => .west

/-- The four line rates of section 1.2, in bit/s. -/
inductive Rate where
  | r19200 | r38400 | r57600 | r115200
deriving DecidableEq, Repr

/-- The link parity setting (R1, R2). -/
inductive Parity where
  | noParity | even | odd
deriving DecidableEq, Repr

/-- A direction of travel: A toward increasing position, B toward decreasing position. -/
inductive Direction where
  | a | b
deriving DecidableEq, Repr

/-- One character as it arrives on a port's RXD line (R1): its eight data bits, its parity bit, whether its stop bit is
at the idle level, and the parity setting it began under. `parityBit` is disregarded under parity NONE.
`begunUnder` is `none` for a character that began under the setting now in effect, and names the earlier setting for
a character that began before a change of parity (R2). -/
structure LineChar where
  data : Byte
  parityBit : Bool
  stopIdle : Bool
  begunUnder : Option Parity
deriving DecidableEq, Repr

/-- The payload of a BUS REPORT frame, LEN 13, as received (R185). -/
structure BusReport where
  bus : Half
  route : Half
  position : Half
  heading : Byte
  speed : Half
  lateness : Half
  occupancy : Byte
  flags : Byte
deriving DecidableEq, Repr

/-- The payload of a SIGNAL STATUS frame, LEN 5, as received (R185). -/
structure SignalStatus where
  planSelect : Byte
  position : Half
  flags : Byte
  service : Byte
deriving DecidableEq, Repr

/-- The commands, one constructor per row of the opcode table. A command is an event at the part's pins, the arrival
of an accepted frame of one kind on a port, or a timer of the part reaching its time. In the management requests `p` is
the arrival port, `src` the frame's SRC byte and `payload` its LEN payload bytes. -/
inductive Instr where
  /-- POWER_ON: power is applied, with this level on the straps ADDR[5:0]. -/
  | powerOn (straps : BitVec 6)
  /-- RESETN_ASSERT: the RESETn pin goes low. -/
  | resetnAssert
  /-- RESETN_RELEASE: the RESETn pin goes high, with this level on the straps ADDR[5:0]. -/
  | resetnRelease (straps : BitVec 6)
  /-- CLEAN_SYNC_LEARNED: characters that complete at one moment at a port's candidate rates. -/
  | cleanSyncLearned (p : PortId) (seen : List (Rate × LineChar))
  /-- FRAME_ENDING_GAP: an idle period of 16 bit-times completes after a run of characters. `idleBefore` says that
  the line had been idle for 16 bit-times before the first of them (assumptions 12 and 13). -/
  | frameEndingGap (p : PortId) (idleBefore : Bool) (chars : List LineChar)
  /-- RETURN_TO_LEARNING: the port's consecutive-bad count has reached 8. -/
  | returnToLearning (p : PortId)
  /-- BAD_KIND: a request of KIND 0x6B + code addressed to the part. -/
  | badKind (p : PortId) (src : Byte) (code : Fin 5)
  /-- BUS_REPORT: a BUS REPORT of LEN 13 accepted on a port is handed to the approach locator. -/
  | busReport (p : PortId) (report : BusReport)
  /-- SIGNAL_STATUS: a SIGNAL STATUS of LEN 5 from `src`, accepted on a port, is handed on. -/
  | signalStatus (p : PortId) (src : Byte) (status : SignalStatus)
  /-- FRESHNESS_EXPIRY: the freshness expiry time of a signal's context. -/
  | freshnessExpiry (k : SignalId)
  /-- HORIZON_ENTRY: the horizon entry time of the record in a slot. -/
  | horizonEntry (i : SlotId)
  /-- AGE_EXPIRY: the age expiry time of the record in a slot. -/
  | ageExpiry (i : SlotId)
  /-- PROJECTION_EXPIRY: the projection expiry time of the record in a slot. -/
  | projectionExpiry (i : SlotId)
  /-- REFRESH_EXPIRY: the refresh timer of a signal's context. -/
  | refreshExpiry (k : SignalId)
  /-- TRANSMIT_GAP_END: the 20 bit-time gap after the frame a port was sending has ended. -/
  | transmitGapEnd (p : PortId)
  | queryStatus (p : PortId) (src : Byte) (payload : List Byte)
  | querySignal (p : PortId) (src : Byte) (payload : List Byte)
  | queryRequests (p : PortId) (src : Byte) (payload : List Byte)
  | readReports (p : PortId) (src : Byte) (payload : List Byte)
  /-- DISABLE: CONTROL, LEN 2, subcommand 1; `signal` is its second payload byte. -/
  | disable (p : PortId) (src : Byte) (signal : Byte)
  /-- ENABLE: CONTROL, LEN 2, subcommand 2; `signal` is its second payload byte. -/
  | enable (p : PortId) (src : Byte) (signal : Byte)
  /-- OBSERVE_ON: CONTROL, LEN 2, subcommand 3; the second payload byte is disregarded (R186). -/
  | observeOn (p : PortId) (src : Byte)
  /-- OBSERVE_OFF: CONTROL, LEN 2, subcommand 4; the second payload byte is disregarded (R186). -/
  | observeOff (p : PortId) (src : Byte)
  /-- CORRIDOR_RESET: CONTROL, LEN 2, subcommand 5; the second payload byte is disregarded (R186). -/
  | corridorReset (p : PortId) (src : Byte)
  | tableOpen (p : PortId) (src : Byte) (payload : List Byte)
  | tableWrite (p : PortId) (src : Byte) (payload : List Byte)
  | tableSeek (p : PortId) (src : Byte) (payload : List Byte)
  | tableClose (p : PortId) (src : Byte) (payload : List Byte)
  | tableAbandon (p : PortId) (src : Byte) (payload : List Byte)
  | tableRead (p : PortId) (src : Byte) (payload : List Byte)
  /-- CONTROL: any CONTROL request, KIND 0x64, with its whole payload (R178). -/
  | control (p : PortId) (src : Byte) (payload : List Byte)
deriving DecidableEq, Repr

end Sys2Proof
end

