-- ==== Sys2Proof/Decode.lean ====
section
/-! DEFINITION. Sys2Proof/Decode.lean: the commands that a word spells by the bits of spec/opcode_table.json. No row
of the table has bits: its rows are events and requests, and a request arrives as a link frame, which FRAME_ENDING_GAP
reads (Machine/Link.lean). So no word spells a command. -/

namespace Sys2Proof

/-- The command a word of `nbits` bits spells: none, for every word, since the table gives no row any bits. -/
def decodeTableWord (_nbits _w : Nat) : Option Instr :=
  none

end Sys2Proof
end

