-- ==== Sys2Proof/Config.lean ====
section
/-! DEFINITION. Sys2Proof/Config.lean: what one part fixes from outside, and the free values: what the manual leaves
open while the part goes on. The opaque constants have no body, so nothing can be proved of their values. -/

namespace Sys2Proof.Config

/-- DESIGN CHOICE (unsafe, assumption 1): the level of the straps ADDR[5:0] that State.reset has read. The straps are
board wiring, and the manual gives them no value; POWER_ON and RESETN_RELEASE bring any other. -/
def resetStraps : BitVec 6 := 1

/-- Free value (safe, assumption 2): the order in which one bus report's evaluations fill new call slots of one port.
R37 leaves it open. The first argument counts the choices made so far. -/
opaque slotOrderKey : Nat → SignalId → Nat

/-- Free value (safe, assumption 3): which of several timers reached at one corridor time is taken next. R76, R79 and
R120 leave it open. The argument counts the choices made so far. -/
opaque dueChoice : Nat → Nat

/-- Free value (safe, assumption 4): the cycle estimate of R106 when the PLAN entry in effect, in use and not yet
checked, holds a cycle length of 0, for which x mod C is not defined. The argument is p + elapsed. The value is below
0xFFFF, since no present value takes its absence code (R184). -/
opaque estimateWithoutCycle : Nat → Fin 0xFFFF

/-- Free value (safe, assumption 20): how many further characters of the frame in flight have begun when the link parity
changes, cut to the characters that are left. R2 and R19 give the change its place between two characters, and the
commands do not say which two. The argument counts the choices made so far. -/
opaque charactersBegun : Nat → Nat

end Sys2Proof.Config
end

