-- ==== Sys2Proof/Machine/State.lean ====
section
/-! DEFINITION. Sys2Proof/Machine/State.lean: everything the manual gives the CP16 to hold, as plain data, its value
after reset, and the reasons a command could stop. -/

namespace Sys2Proof.Machine

/-! ## Link ports (chapter 1) -/

/-- Port state (section 1.2). -/
inductive PortState where
  | learning | running
deriving DecidableEq, Repr

/-- The receive assembly buffer and its marks (R6): at most 63 bytes; `bad` after a parity or framing error, `tooLong`
after a character beyond the 63rd. -/
structure RxBuffer where
  bytes : List Byte
  bad : Bool
  tooLong : Bool
deriving DecidableEq, Repr

/-- The action of a CALL (R144, R146). -/
inductive CallAction where
  | extend | early | cancel
deriving DecidableEq, Repr

/-- The direction a CALL names (R145). -/
inductive CallDirection where
  | a | b | both
deriving DecidableEq, Repr

/-- The content of a call (R144), less its signal index. -/
structure CallContent where
  action : CallAction
  amount : Nat
  direction : CallDirection
  route : Half
  bus : Half
  score : Nat
  partialFlag : Bool
deriving DecidableEq, Repr

/-- One slot of a call queue: the whole content of one CALL, with its DEST fixed when it was filled (R15). -/
structure CallSlot where
  signal : SignalId
  dest : Byte
  content : CallContent
deriving DecidableEq, Repr

/-- The content of a reply slot: an ACCEPT or a REFUSE with its DEST and payload (R17). -/
structure Reply where
  dest : Byte
  accept : Bool
  payload : List Byte
deriving DecidableEq, Repr

/-- A frame in flight: all its bytes and the rate its transmission began at (R19). -/
structure TxFrame where
  bytes : List Byte
  rate : Rate
deriving DecidableEq, Repr

/-- One corridor link port. `rate` is the learned rate, or the last rate while LEARNING (R5, R20). `awaitingIdle` says
that the receiver has learned a rate and still waits for the line to fall idle (R4). `tx` is the frame being sent or
in its transmit gap; `none` is an idle transmitter (R18). `txd` is what the TXD pin has carried of the frame whose
transmission began last: its characters that have begun, each as its bits under the setting it began with (R1, R2). -/
structure Port where
  state : PortState
  rate : Option Rate
  hasRun : Bool
  awaitingIdle : Bool
  rx : RxBuffer
  consecutiveBad : Nat
  badFrames : Nat
  repeatDrops : Nat
  repeatQueue : List (List Byte)
  callQueue : List CallSlot
  reply : Option Reply
  tx : Option TxFrame
  txd : List (List Bool)
deriving DecidableEq, Repr

/-- An empty receive assembly buffer. -/
def RxBuffer.empty : RxBuffer :=
  { bytes := [], bad := false, tooLong := false }

/-- A port after power-on and RESETn (R20). -/
def Port.reset : Port :=
  { state := .learning, rate := none, hasRun := false, awaitingIdle := false, rx := .empty,
    consecutiveBad := 0, badFrames := 0, repeatDrops := 0, repeatQueue := [], callQueue := [],
    reply := none, tx := none, txd := [] }

/-! ## The table store (R157, R158, R187). The fields of an entry hold the stored bytes, codes without a meaning
included; what they mean is read in Machine/Entries.lean. -/

/-- The GLOBAL entry, 11 bytes. -/
structure GlobalEntry where
  inUse : Byte
  speedFloor : Byte
  statusTimeout : Byte
  holdTime : Byte
  holdMargin : Byte
  points0 : Byte
  points1 : Byte
  points2 : Byte
  points3 : Byte
  parity : Byte
  alertLevel : Byte
deriving DecidableEq, Repr

/-- A SIGNAL entry, 10 bytes. -/
structure SignalEntry where
  inUse : Byte
  cabinet : Byte
  port : Byte
  stopBarA : Half
  stopBarB : Half
  projectionEnables : Byte
  projectionPenalty : Byte
  projectionGrace : Byte
deriving DecidableEq, Repr

/-- A PLAN entry, 22 bytes. -/
structure PlanEntry where
  inUse : Byte
  shared : Byte
  cycle : Half
  greenStartA : Half
  greenLengthA : Half
  greenStartB : Half
  greenLengthB : Half
  margin : Byte
  xmax : Byte
  emax : Byte
  budget : Byte
  lockoutCycles : Byte
  horizon : Byte
  delayCode : Byte
  periodA : Byte
  periodB : Byte
  maxRefreshes : Byte
deriving DecidableEq, Repr

/-- A ZONE entry, 12 bytes. -/
structure ZoneEntry where
  inUse : Byte
  direction : Byte
  start : Half
  length : Half
  kind : Byte
  signal : Byte
  nominalSpeed : Half
  stopDwell : Half
deriving DecidableEq, Repr

/-- A ROUTE entry, 9 bytes. -/
structure RouteEntry where
  inUse : Byte
  number : Half
  baseScore : Byte
  latenessOffset : Byte
  latenessGain : Byte
  earlyCutoff : Half
  head : Byte
deriving DecidableEq, Repr

/-- A SEGMENT entry, 9 bytes. -/
structure SegmentEntry where
  inUse : Byte
  signal : Byte
  direction : Byte
  travel : Half
  dwell : Half
  ends : Byte
  next : Byte
deriving DecidableEq, Repr

/-- Every field of every entry is 0 at power-on and RESETn (R157). -/
def GlobalEntry.zero : GlobalEntry := ⟨0, 0, 0, 0, 0, 0, 0, 0, 0, 0, 0⟩
def SignalEntry.zero : SignalEntry := ⟨0, 0, 0, 0, 0, 0, 0, 0⟩
def PlanEntry.zero : PlanEntry := ⟨0, 0, 0, 0, 0, 0, 0, 0, 0, 0, 0, 0, 0, 0, 0, 0, 0⟩
def ZoneEntry.zero : ZoneEntry := ⟨0, 0, 0, 0, 0, 0, 0, 0⟩
def RouteEntry.zero : RouteEntry := ⟨0, 0, 0, 0, 0, 0, 0⟩
def SegmentEntry.zero : SegmentEntry := ⟨0, 0, 0, 0, 0, 0, 0⟩

/-- The six configuration tables at their fixed sizes (R157). PLAN entry 2k + p is plan p of signal k. -/
structure TableStore where
  global : GlobalEntry
  signal : Vector SignalEntry 16
  plan : Vector PlanEntry 32
  zone : Vector ZoneEntry 64
  route : Vector RouteEntry 32
  segment : Vector SegmentEntry 128
deriving DecidableEq, Repr

/-- The table store after power-on and RESETn (R157). -/
def TableStore.reset : TableStore :=
  { global := .zero, signal := Vector.replicate 16 .zero, plan := Vector.replicate 32 .zero,
    zone := Vector.replicate 64 .zero, route := Vector.replicate 32 .zero,
    segment := Vector.replicate 128 .zero }

/-- The names of the six tables. -/
inductive TableId where
  | global | signal | plan | zone | route | segment
deriving DecidableEq, Repr

/-- The validity of a table (R159). -/
inductive Validity where
  | invalid | valid | reloading
deriving DecidableEq, Repr

/-- The validity of each table. -/
structure Validities where
  global : Validity
  signal : Validity
  plan : Validity
  zone : Validity
  route : Validity
  segment : Validity
deriving DecidableEq, Repr

/-- Every table is INVALID after power-on and RESETn (R159). -/
def Validities.reset : Validities :=
  ⟨.invalid, .invalid, .invalid, .invalid, .invalid, .invalid⟩

/-- The load context (R160). `written` holds its indices in rising order, without repeats. -/
structure LoadContext where
  table : TableId
  start : Nat
  rangeEnd : Nat
  expected : Nat
  writeIndex : Nat
  written : List Nat
  buffer : List Byte
  port : PortId
deriving DecidableEq, Repr

/-- The corridor mode (R172). -/
inductive CorridorMode where
  | unconfigured | loading | active
deriving DecidableEq, Repr

/-! ## Request records (chapter 4) -/

/-- The state of a record (section 4.2). The origin of a record is PROJECTED in state PROJECTED and CHECK_IN in every
other state (section 4.2, R184), so it is not held a second time (assumption 10). -/
inductive RecordState where
  | projected | armed | waiting | holding
deriving DecidableEq, Repr

/-- The reason of a DEFER (R136). -/
inductive DeferReason where
  | outOfReach | budget | lockout | disabled | noStatus | inhibited
deriving DecidableEq, Repr

/-- The outcome of the service decision (R136). -/
inductive ServiceOutcome where
  | clear
  | extend (seconds : Nat)
  | early (seconds : Nat)
  | defer (reason : DeferReason)
deriving DecidableEq, Repr

/-- A request record (R56, R57, R58); its slot is its place in State.slots. `latenessSec` is `none` when unknown, and
`lastCall` holds the action, EXTEND or EARLY, and the amount. -/
structure RequestRecord where
  bus : Half
  routeIndex : Fin 32
  routeNumber : Half
  signal : SignalId
  direction : Direction
  cursor : Option (Fin 128)
  position : Half
  speed : Nat
  latenessSec : Option Int
  occupancy : Fin 4
  nominalSpeed : Nat
  stopDwell : Nat
  arrival : Time
  score : Nat
  ageExpiry : Time
  horizonEntry : Option Time
  projectionExpiry : Option Time
  state : RecordState
  stopPending : Bool
  doorsOpen : Bool
  lapsed : Bool
  served : Bool
  lastOutcome : Option ServiceOutcome
  partialFlag : Bool
  committed : Nat
  refreshCount : Nat
  lastCall : Option (CallAction × Nat)
deriving DecidableEq, Repr

/-! ## Signal contexts (chapter 6) -/

/-- Whether the controller has been heard from (R102). -/
inductive Freshness where
  | never
  | fresh (expiry : Time)
  | stale
deriving DecidableEq, Repr

/-- The two timing plans of a signal. -/
inductive PlanId where
  | a | b
deriving DecidableEq, Repr

/-- The service in effect a status frame reports (R110). -/
inductive ServiceInEffect where
  | noService | extending | early | unknown
deriving DecidableEq, Repr

/-- The service state of a signal (R111). -/
inductive ServiceState where
  | unconfigured | suspended | disabled | noStatus | inhibited | lockout | ready
deriving DecidableEq, Repr

/-- A signal context (R99). `taken` holds the taken position and taken time, present or absent together. `call` is the
call content while the call-active flag is set, and `none` while it is clear (R146 removes the content with it). -/
structure SignalContext where
  freshness : Freshness
  plan : PlanId
  taken : Option (Half × Time)
  accepting : Bool
  service : ServiceInEffect
  state : ServiceState
  lockout : Nat
  spent : Nat
  holder : Option SlotId
  call : Option CallContent
  refreshTimer : Option Time
  refreshCount : Nat
deriving DecidableEq, Repr

/-- A context after power-on and RESETn (R117). -/
def SignalContext.reset : SignalContext :=
  { freshness := .never, plan := .a, taken := none, accepting := false, service := .noService,
    state := .unconfigured, lockout := 0, spent := 0, holder := none, call := none,
    refreshTimer := none, refreshCount := 0 }

/-! ## Reports (section 10.4) -/

/-- Why a record closed (R77). -/
inductive ClosureReason where
  | checkedOut | inferredOut | canceled | expired | projectionLapsed | displaced | suspended
deriving DecidableEq, Repr

/-- The service part of a REQUEST_CLOSED report (R80). -/
structure ServicePart where
  action : CallAction
  amount : Nat
  refreshCount : Nat
  served : Bool
deriving DecidableEq, Repr

/-- The fields of a report after its kind and time (section 10.4). -/
inductive ReportBody where
  | requestClosed (slot : SlotId) (bus route : Half) (signal : SignalId) (direction : Direction)
      (state : RecordState) (reason : ClosureReason) (score : Nat) (service : Option ServicePart)
  | tableFull (bus route : Half) (signal : SignalId) (direction : Direction) (score lowest : Nat)
  | signalState (signal : SignalId) (old new : ServiceState)
  | link (port : PortId) (state : PortState) (rate : Option Rate) (badFrames : Nat)
  | ready (port : PortId) (rate : Rate)
  | overrun (lost : Nat)
deriving DecidableEq, Repr

/-- A record of the report queue. -/
structure Report where
  time : Time
  body : ReportBody
deriving DecidableEq, Repr

/-! ## The machine -/

/-- The whole part. `pending` is the model's queue of commands, first in, first out. `resetHeld` is the RESETn pin at
its asserted level. `ownAddress` is `none` in NO-ADDRESS (R9). `disabled` and `observe` are the corridor control flags
of the management responder, `alert` the ALERT pin (R182). `freeCount` is the model's own: the number of free choices
made so far (assumptions 2, 3 and 20). -/
structure State where
  pending : List Instr
  resetHeld : Bool
  clock : Time
  ownAddress : Option (BitVec 6)
  parity : Parity
  west : Port
  east : Port
  tables : TableStore
  validity : Validities
  load : Option LoadContext
  mode : CorridorMode
  slots : Vector (Option RequestRecord) 40
  ctxs : Vector SignalContext 16
  disabled : Vector Bool 16
  observe : Bool
  reports : List Report
  alert : Bool
  freeCount : Nat
deriving DecidableEq, Repr

/-- The machine right after power-on or RESETn, with its own address read from straps at `Config.resetStraps`
(R20, R74, R81, R117, R157, R159, R160, R172, R179, R180, R182). -/
def State.reset : State :=
  { pending := [], resetHeld := false, clock := 0, ownAddress := some Config.resetStraps,
    parity := .noParity, west := .reset, east := .reset, tables := .reset, validity := .reset,
    load := none, mode := .unconfigured, slots := Vector.replicate 40 none,
    ctxs := Vector.replicate 16 .reset, disabled := Vector.replicate 16 false, observe := false,
    reports := [], alert := true, freeCount := 0 }

/-- The reasons a command stops the part. There is none: the manual gives every command an effect, a refusal frame
(R174) or no effect, and no command a stop (safe: the type is empty, so no run can end in one). -/
inductive Fault where
deriving DecidableEq, Repr

/-- The reasons the model gives a command no meaning. -/
inductive Refusal where
  /-- Raised by exec's arm for a command that has no meaning yet (safe: the run stops). No arm raises it. -/
  | notModelled (mnemonic : String)
deriving DecidableEq, Repr

end Sys2Proof.Machine
end

