-- ==== Sys2Proof/Machine/Entries.lean ====
section
/-! DEFINITION. Sys2Proof/Machine/Entries.lean: byte order, the layouts of table entries (R187), how their coded fields
are read (R184), and reading and storing an entry of the table store (R157). -/

namespace Sys2Proof.Machine

/-! ## Bytes. Multi-byte fields are most significant byte first (Conventions, R187). -/

/-- The byte at an offset; a byte beyond the end reads as 0. -/
def byteAt (l : List Byte) (i : Nat) : Byte := l.getD i 0

/-- The two-byte field at an offset. -/
def halfAt (l : List Byte) (i : Nat) : Half := byteAt l i ++ byteAt l (i + 1)

/-- The bytes of a two-byte field. -/
def halfBytes (h : Half) : List Byte := [h.extractLsb' 8 8, h.extractLsb' 0 8]

/-- The bytes of a corridor time. -/
def timeBytes (t : Time) : List Byte :=
  [t.extractLsb' 24 8, t.extractLsb' 16 8, t.extractLsb' 8 8, t.extractLsb' 0 8]

/-- A number in a one-byte field. -/
def byteOf (n : Nat) : Byte := BitVec.ofNat 8 n

/-- A flag written by the part: 1 or 0 (R184). -/
def flagByte (b : Bool) : Byte := if b then 1 else 0

/-- A flag byte is set when it is not 0 (R184). -/
def flagSet (b : Byte) : Bool := b != 0

/-- An optional one-byte field: 0xFF when absent (R184). -/
def optByte {α : Type} (f : α → Byte) : Option α → Byte
  | none => 0xFF
  | some x => f x

/-- A number as an index below a bound, when it is one. -/
def indexBelow (n i : Nat) : Option (Fin n) := if h : i < n then some ⟨i, h⟩ else none

/-! ## Codes (R184) -/

/-- The codes of a direction. -/
def directionCode : Direction → Byte
  | .a => 0
  | .b => 1

/-- The direction a code names, when it names one. -/
def directionOf (b : Byte) : Option Direction :=
  if b = 0 then some .a else if b = 1 then some .b else none

/-- The codes of a port. -/
def portCode : PortId → Byte
  | .west => 0
  | .east => 1

/-- The port a code names, when it names one. -/
def portOf (b : Byte) : Option PortId :=
  if b = 0 then some .west else if b = 1 then some .east else none

/-- The parity a code names, when it names one. -/
def parityOf (b : Byte) : Option Parity :=
  if b = 0 then some .noParity else if b = 1 then some .even else if b = 2 then some .odd else none

/-- The codes of the tables. -/
def TableId.code : TableId → Byte
  | .global => 0
  | .signal => 1
  | .plan => 2
  | .zone => 3
  | .route => 4
  | .segment => 5

/-- The table a code names, when it names one. -/
def tableOf (b : Byte) : Option TableId :=
  if b = 0 then some .global else if b = 1 then some .signal else if b = 2 then some .plan
  else if b = 3 then some .zone else if b = 4 then some .route else if b = 5 then some .segment else none

/-! ## Sizes (R157, R187) -/

/-- The number of entries of a table. -/
def TableId.entries : TableId → Nat
  | .global => 1
  | .signal => 16
  | .plan => 32
  | .zone => 64
  | .route => 32
  | .segment => 128

/-- The size of an entry of a table, in bytes. -/
def TableId.entrySize : TableId → Nat
  | .global => 11
  | .signal => 10
  | .plan => 22
  | .zone => 12
  | .route => 9
  | .segment => 9

/-! ## Entry layouts (R187): an entry from its bytes, and its bytes again -/

/-- A GLOBAL entry from its 11 bytes. -/
def GlobalEntry.ofBytes (l : List Byte) : GlobalEntry :=
  { inUse := byteAt l 0, speedFloor := byteAt l 1, statusTimeout := byteAt l 2, holdTime := byteAt l 3,
    holdMargin := byteAt l 4, points0 := byteAt l 5, points1 := byteAt l 6, points2 := byteAt l 7,
    points3 := byteAt l 8, parity := byteAt l 9, alertLevel := byteAt l 10 }

/-- The 11 bytes of a GLOBAL entry. -/
def GlobalEntry.bytes (e : GlobalEntry) : List Byte :=
  [e.inUse, e.speedFloor, e.statusTimeout, e.holdTime, e.holdMargin, e.points0, e.points1, e.points2,
    e.points3, e.parity, e.alertLevel]

/-- A SIGNAL entry from its 10 bytes. -/
def SignalEntry.ofBytes (l : List Byte) : SignalEntry :=
  { inUse := byteAt l 0, cabinet := byteAt l 1, port := byteAt l 2, stopBarA := halfAt l 3,
    stopBarB := halfAt l 5, projectionEnables := byteAt l 7, projectionPenalty := byteAt l 8,
    projectionGrace := byteAt l 9 }

/-- The 10 bytes of a SIGNAL entry. -/
def SignalEntry.bytes (e : SignalEntry) : List Byte :=
  [e.inUse, e.cabinet, e.port] ++ halfBytes e.stopBarA ++ halfBytes e.stopBarB ++
    [e.projectionEnables, e.projectionPenalty, e.projectionGrace]

/-- A PLAN entry from its 22 bytes. -/
def PlanEntry.ofBytes (l : List Byte) : PlanEntry :=
  { inUse := byteAt l 0, shared := byteAt l 1, cycle := halfAt l 2, greenStartA := halfAt l 4,
    greenLengthA := halfAt l 6, greenStartB := halfAt l 8, greenLengthB := halfAt l 10,
    margin := byteAt l 12, xmax := byteAt l 13, emax := byteAt l 14, budget := byteAt l 15,
    lockoutCycles := byteAt l 16, horizon := byteAt l 17, delayCode := byteAt l 18,
    periodA := byteAt l 19, periodB := byteAt l 20, maxRefreshes := byteAt l 21 }

/-- The 22 bytes of a PLAN entry. -/
def PlanEntry.bytes (e : PlanEntry) : List Byte :=
  [e.inUse, e.shared] ++ halfBytes e.cycle ++ halfBytes e.greenStartA ++ halfBytes e.greenLengthA ++
    halfBytes e.greenStartB ++ halfBytes e.greenLengthB ++
    [e.margin, e.xmax, e.emax, e.budget, e.lockoutCycles, e.horizon, e.delayCode, e.periodA,
      e.periodB, e.maxRefreshes]

/-- A ZONE entry from its 12 bytes. -/
def ZoneEntry.ofBytes (l : List Byte) : ZoneEntry :=
  { inUse := byteAt l 0, direction := byteAt l 1, start := halfAt l 2, length := halfAt l 4,
    kind := byteAt l 6, signal := byteAt l 7, nominalSpeed := halfAt l 8, stopDwell := halfAt l 10 }

/-- The 12 bytes of a ZONE entry. -/
def ZoneEntry.bytes (e : ZoneEntry) : List Byte :=
  [e.inUse, e.direction] ++ halfBytes e.start ++ halfBytes e.length ++ [e.kind, e.signal] ++
    halfBytes e.nominalSpeed ++ halfBytes e.stopDwell

/-- A ROUTE entry from its 9 bytes. -/
def RouteEntry.ofBytes (l : List Byte) : RouteEntry :=
  { inUse := byteAt l 0, number := halfAt l 1, baseScore := byteAt l 3, latenessOffset := byteAt l 4,
    latenessGain := byteAt l 5, earlyCutoff := halfAt l 6, head := byteAt l 8 }

/-- The 9 bytes of a ROUTE entry. -/
def RouteEntry.bytes (e : RouteEntry) : List Byte :=
  [e.inUse] ++ halfBytes e.number ++ [e.baseScore, e.latenessOffset, e.latenessGain] ++
    halfBytes e.earlyCutoff ++ [e.head]

/-- A SEGMENT entry from its 9 bytes. -/
def SegmentEntry.ofBytes (l : List Byte) : SegmentEntry :=
  { inUse := byteAt l 0, signal := byteAt l 1, direction := byteAt l 2, travel := halfAt l 3,
    dwell := halfAt l 5, ends := byteAt l 7, next := byteAt l 8 }

/-- The 9 bytes of a SEGMENT entry. -/
def SegmentEntry.bytes (e : SegmentEntry) : List Byte :=
  [e.inUse, e.signal, e.direction] ++ halfBytes e.travel ++ halfBytes e.dwell ++ [e.ends, e.next]

/-! ## Reading an entry's fields -/

/-- The points of an occupancy level (R93, R158). -/
def GlobalEntry.points (e : GlobalEntry) (level : Fin 4) : Nat :=
  (match level with
    | 0 => e.points0
    | 1 => e.points1
    | 2 => e.points2
    | 3 => e.points3).toNat

/-- The stop bar of a direction (R23, R56). -/
def SignalEntry.stopBar (e : SignalEntry) : Direction → Half
  | .a => e.stopBarA
  | .b => e.stopBarB

/-- Whether projection is enabled in a direction: bit 0 for A, bit 1 for B (R187). -/
def SignalEntry.projects (e : SignalEntry) : Direction → Bool
  | .a => e.projectionEnables.getLsbD 0
  | .b => e.projectionEnables.getLsbD 1

/-- The port a SIGNAL entry configures its signal on: an entry in use that names a port (R14). -/
def SignalEntry.configuredPort (e : SignalEntry) : Option PortId :=
  if flagSet e.inUse then portOf e.port else none

/-- The green window of a direction: window A serves both when SHARED is set (R127). -/
def PlanEntry.greenWindow (e : PlanEntry) (d : Direction) : Nat × Nat :=
  match flagSet e.shared, d with
  | false, .b => (e.greenStartB.toNat, e.greenLengthB.toNat)
  | _, _ => (e.greenStartA.toNat, e.greenLengthA.toNat)

/-- The horizon boundary 10·H in 0.1 s units (R60). -/
def PlanEntry.horizonUnits (e : PlanEntry) : Nat := 10 * e.horizon.toNat

/-- The refresh delay, (1 + d) × 5 (R149). -/
def PlanEntry.refreshDelay (e : PlanEntry) : Nat := (1 + e.delayCode.toNat) * 5

/-- The refresh period, (2 + a) × 2^b × 5 (R149). -/
def PlanEntry.refreshPeriod (e : PlanEntry) : Nat :=
  (2 + e.periodA.toNat) * 2 ^ e.periodB.toNat * 5

/-- The last position of a zone's span (R22). -/
def ZoneEntry.last (e : ZoneEntry) : Nat := e.start.toNat + e.length.toNat - 1

/-- A zone's span contains a position (R22). -/
def ZoneEntry.contains (e : ZoneEntry) (position : Half) : Bool :=
  e.start.toNat ≤ position.toNat && position.toNat < e.start.toNat + e.length.toNat

/-! ## The table store by table and index -/

/-- The place of a plan of a signal in the PLAN table: signal × 2 + plan (R157). -/
def planIndex (k : SignalId) : PlanId → Fin 32
  | .a => ⟨2 * k.val, by omega⟩
  | .b => ⟨2 * k.val + 1, by omega⟩

/-- The PLAN entry of a plan of a signal. -/
def TableStore.planEntry (t : TableStore) (k : SignalId) (p : PlanId) : PlanEntry :=
  t.plan[planIndex k p]

/-- The bytes of the entry at an index, as TABLE READ returns them; no bytes outside the table (R171). -/
def TableStore.entryBytes (t : TableStore) (id : TableId) (i : Nat) : List Byte :=
  match id with
  | .global => if i = 0 then t.global.bytes else []
  | .signal => ((t.signal[i]?).map SignalEntry.bytes).getD []
  | .plan => ((t.plan[i]?).map PlanEntry.bytes).getD []
  | .zone => ((t.zone[i]?).map ZoneEntry.bytes).getD []
  | .route => ((t.route[i]?).map RouteEntry.bytes).getD []
  | .segment => ((t.segment[i]?).map SegmentEntry.bytes).getD []

/-- The table store with the entry at an index replaced whole by the one its bytes make (R165); unchanged for an index
outside the table. -/
def TableStore.storeEntry (t : TableStore) (id : TableId) (i : Nat) (l : List Byte) : TableStore :=
  match id with
  | .global => if i = 0 then { t with global := .ofBytes l } else t
  | .signal => { t with signal := t.signal.setIfInBounds i (.ofBytes l) }
  | .plan => { t with plan := t.plan.setIfInBounds i (.ofBytes l) }
  | .zone => { t with zone := t.zone.setIfInBounds i (.ofBytes l) }
  | .route => { t with route := t.route.setIfInBounds i (.ofBytes l) }
  | .segment => { t with segment := t.segment.setIfInBounds i (.ofBytes l) }

/-- The validity of a table. -/
def Validities.get (v : Validities) : TableId → Validity
  | .global => v.global
  | .signal => v.signal
  | .plan => v.plan
  | .zone => v.zone
  | .route => v.route
  | .segment => v.segment

/-- The validities with one table's changed. -/
def Validities.set (v : Validities) (id : TableId) (x : Validity) : Validities :=
  match id with
  | .global => { v with global := x }
  | .signal => { v with signal := x }
  | .plan => { v with plan := x }
  | .zone => { v with zone := x }
  | .route => { v with route := x }
  | .segment => { v with segment := x }

end Sys2Proof.Machine
end

