-- ==== Sys2Proof/Machine/Ops.lean ====
section
/-! DEFINITION. Sys2Proof/Machine/Ops.lean: the named operations over the machine's state that every command is built
from: corridor time, the parts of State, the report queue, the outgoing holding areas, characters and frames on the
line, the transmit arbiter and the link parity. -/

namespace Sys2Proof.Machine

/-! ## Corridor time (R74) -/

/-- The difference t − u of two corridor times, modulo 2^32 and read as a signed number. -/
def timeDiff (t u : Time) : Int := (t - u).toInt

/-- A time is reached when the current time minus it, so read, is zero or positive. -/
def reached (now t : Time) : Bool := decide (0 ≤ timeDiff now t)

/-- A corridor time later by a number of 0.1 s units. -/
def later (t : Time) (n : Nat) : Time := t + BitVec.ofNat 32 n

/-- The remaining time to an arrival: the signed difference, taken as 0 when negative (R88). -/
def remaining (now arrival : Time) : Nat := (timeDiff arrival now).toNat

/-! ## Parts of the state -/

/-- All signal indices, ascending. -/
def allSignals : List SignalId := List.finRange 16

/-- All slots of the request table, ascending. -/
def allSlots : List SlotId := List.finRange 40

/-- The port of a name. -/
def State.port (s : State) : PortId → Port
  | .west => s.west
  | .east => s.east

/-- The state with one port replaced. -/
def State.setPort (s : State) (p : PortId) (q : Port) : State :=
  match p with
  | .west => { s with west := q }
  | .east => { s with east := q }

/-- The context of a signal. -/
def State.ctx (s : State) (k : SignalId) : SignalContext := s.ctxs[k]

/-- The state with one signal's context replaced. -/
def State.setCtx (s : State) (k : SignalId) (c : SignalContext) : State :=
  { s with ctxs := s.ctxs.set k c }

/-- The record in a slot, if the slot holds one (R55). -/
def State.record (s : State) (i : SlotId) : Option RequestRecord := s.slots[i]

/-- The state with one slot's content replaced. -/
def State.setRecord (s : State) (i : SlotId) (r : Option RequestRecord) : State :=
  { s with slots := s.slots.set i r }

/-- The state with a change made to the record in a slot; unchanged when the slot is free. -/
def State.modRecord (s : State) (i : SlotId) (f : RequestRecord → RequestRecord) : State :=
  s.setRecord i ((s.record i).map f)

/-- The DISABLE flag of a signal (R114). -/
def State.isDisabled (s : State) (k : SignalId) : Bool := s.disabled[k]

/-- The state with a signal's DISABLE flag written. -/
def State.setDisabled (s : State) (k : SignalId) (b : Bool) : State :=
  { s with disabled := s.disabled.set k b }

/-- The state with the report queue replaced. -/
def State.setReports (s : State) (l : List Report) : State := { s with reports := l }

/-- The SIGNAL entry of a signal. -/
def State.signalEntry (s : State) (k : SignalId) : SignalEntry := s.tables.signal[k]

/-- The PLAN entry of the plan in effect at a signal (R104). -/
def State.planInEffect (s : State) (k : SignalId) : PlanEntry := s.tables.planEntry k (s.ctx k).plan

/-- The plan in effect, or plan A when the plan in effect's entry is not in use: the plan whose horizon (R60) and
lockout cycles (R109) apply. -/
def State.fallbackPlan (s : State) (k : SignalId) : PlanEntry :=
  if flagSet (s.planInEffect k).inUse then s.planInEffect k else s.tables.planEntry k .a

/-- The horizon boundary 10·H at a signal (R60). -/
def State.horizonUnits (s : State) (k : SignalId) : Nat := (s.fallbackPlan k).horizonUnits

/-- The occupied slots in ascending order, with their records. -/
def State.records (s : State) : List (SlotId × RequestRecord) :=
  allSlots.filterMap fun i => (s.record i).map fun r => (i, r)

/-- The lowest-numbered free slot (R55). -/
def State.freeSlot (s : State) : Option SlotId :=
  allSlots.find? fun i => (s.record i).isNone

/-- The slot of the record of a bus at a signal (R55: at most one). -/
def State.findRecord (s : State) (bus : Half) (k : SignalId) : Option (SlotId × RequestRecord) :=
  s.records.find? fun x => x.2.bus == bus && x.2.signal == k

/-! ## The report queue (section 10.4) -/

/-- The number of records the report queue can hold. -/
def reportCapacity : Nat := 32

/-- The newest record's lost count raised by 1 unless it is already 255 (R180). -/
def bumpOverrun : List Report → List Report
  | [] => []
  | [r] =>
    match r.body with
    | .overrun n => [{ r with body := .overrun (if n < 255 then n + 1 else n) }]
    | _ => [r]
  | r :: l => r :: bumpOverrun l

/-- Storing a record written at a time in a queue (R180). -/
def storeReport (now : Time) (b : ReportBody) (l : List Report) : List Report :=
  if l.length + 1 < reportCapacity then l ++ [{ time := now, body := b }]
  else if l.length < reportCapacity then l ++ [{ time := now, body := .overrun 1 }]
  else bumpOverrun l

/-- A block writes a report: its time is the corridor time of the event (section 10.4). -/
def writeReport (b : ReportBody) (s : State) : State :=
  s.setReports (storeReport s.clock b s.reports)

/-! ## Characters on the line (R1) -/

/-- The eight data bits of a byte, least significant first. -/
def dataBits (b : Byte) : List Bool := (List.range 8).map b.getLsbD

/-- A run of bits holds an odd number of ones. -/
def oddOnes (l : List Bool) : Bool := l.foldl xor false

/-- The parity bit of a data byte under a setting, when the setting has one (R1). -/
def parityBitFor : Parity → Byte → Option Bool
  | .noParity, _ => none
  | .even, b => some (oddOnes (dataBits b))
  | .odd, b => some (!oddOnes (dataBits b))

/-- A character as the part sends it under a setting: start bit, data bits with the least significant first, the
parity bit when there is one, stop bit (R1). The idle level is `true`. -/
def sentBits (setting : Parity) (b : Byte) : List Bool :=
  [false] ++ dataBits b ++ (parityBitFor setting b).toList ++ [true]

/-! ## Frames on the line (R7, R183) -/

/-- One step of the CHECK register for one bit fed, after the bit has been added in at the top. -/
def checkShift (c : Half) : Half := if c.msb then (c <<< 1) ^^^ 0x1021#16 else c <<< 1

/-- The CHECK register after one byte, most significant bit first. -/
def checkByte (c : Half) (b : Byte) : Half :=
  checkShift (checkShift (checkShift (checkShift (checkShift (checkShift (checkShift (checkShift
    (c ^^^ (b.zeroExtend 16 <<< 8)))))))))

/-- The CHECK of a run of bytes: the register starts at 0xFFFF, and its final value is the CHECK (R7). -/
def frameCheck (l : List Byte) : Half := l.foldl checkByte 0xFFFF#16

/-- The SYNC byte. -/
def syncByte : Byte := 0xD3

/-- A whole frame: SYNC, DEST, SRC, KIND, LEN, payload and CHECK (section 11.1). -/
def buildFrame (dest src kind : Byte) (payload : List Byte) : List Byte :=
  let body := [dest, src, kind, byteOf payload.length] ++ payload
  [syncByte] ++ body ++ halfBytes (frameCheck body)

/-- The own address as the SRC of a frame the part originates (R9). -/
def State.srcByte (s : State) : Byte := (s.ownAddress.getD 0).zeroExtend 8

/-- A DEST byte equals the own address; never in NO-ADDRESS (R9, R10). -/
def State.isOwn (s : State) (dest : Byte) : Bool :=
  match s.ownAddress with
  | none => false
  | some a => a.zeroExtend 8 == dest

/-- The codes of a call action (R184). -/
def CallAction.code : CallAction → Byte
  | .extend => 1
  | .early => 2
  | .cancel => 3

/-- The codes of a call's direction (R184). -/
def CallDirection.code : CallDirection → Byte
  | .a => 0
  | .b => 1
  | .both => 2

/-- CALL payload offsets 1 to 9 (R185). -/
def CallContent.bytes (c : CallContent) : List Byte :=
  [c.action.code, byteOf c.amount, c.direction.code] ++ halfBytes c.route ++ halfBytes c.bus ++
    [byteOf c.score, flagByte c.partialFlag]

/-- The CALL frame of a call slot (R15). -/
def CallSlot.frame (src : Byte) (c : CallSlot) : List Byte :=
  buildFrame c.dest src 0x41 ([byteOf c.signal.val] ++ c.content.bytes)

/-- The ACCEPT or REFUSE frame of a reply slot (R17). -/
def Reply.frame (src : Byte) (r : Reply) : List Byte :=
  buildFrame r.dest src (if r.accept then 0x70 else 0x71) r.payload

/-! ## Outgoing holding areas (section 1.6) -/

/-- The number of frames a repeat queue can hold (R13). -/
def repeatCapacity : Nat := 4

/-- A 16-bit count raised by 1 unless it is already 65,535 (R8, R13). -/
def countUp (n : Nat) : Nat := if n < 65535 then n + 1 else n

/-- A frame is offered to a port's repeat queue (R13). -/
def Port.offerRepeat (q : Port) (frame : List Byte) : Port :=
  if q.repeatQueue.length < repeatCapacity then { q with repeatQueue := q.repeatQueue ++ [frame] }
  else { q with repeatDrops := countUp q.repeatDrops }

/-- A frame accepted on a port is repeated out of the opposite one (R10, R13). -/
def repeatFrame (arrival : PortId) (frame : List Byte) (s : State) : State :=
  s.setPort arrival.opposite ((s.port arrival.opposite).offerRepeat frame)

/-- The signal's slot in a call queue replaced in its place (R14). -/
def replaceCall (c : CallSlot) (l : List CallSlot) : List CallSlot :=
  l.map fun d => if d.signal = c.signal then c else d

/-- A call enters a call queue: in its signal's slot when there is one, at the tail otherwise (R14). -/
def placeInQueue (c : CallSlot) (l : List CallSlot) : List CallSlot :=
  if l.any (fun d => d.signal == c.signal) then replaceCall c l else l ++ [c]

/-- A port's call queue without a signal's slot, the other slots in their order (R16). -/
def Port.dropCall (q : Port) (k : SignalId) : Port :=
  { q with callQueue := q.callQueue.filter fun d => d.signal != k }

/-- A signal generates a call: the port its signal is configured on places it, with DEST the cabinet address of the
SIGNAL entry at that moment (R14, R15). A signal configured on no port has no call queue. -/
def placeCall (k : SignalId) (c : CallContent) (s : State) : State :=
  match (s.signalEntry k).configuredPort with
  | none => s
  | some p =>
    s.setPort p { s.port p with
      callQueue := placeInQueue { signal := k, dest := (s.signalEntry k).cabinet, content := c }
        (s.port p).callQueue }

/-! ## The transmit arbiter (R18, R19) -/

/-- The next frame a port's arbiter takes, with the port after the holding place has given it up: the oldest call,
otherwise the head of the repeat queue, otherwise the reply (R18). -/
def Port.nextFrame (q : Port) (src : Byte) : Option (List Byte × Port) :=
  match q.callQueue, q.repeatQueue, q.reply with
  | c :: l, _, _ => some (c.frame src, { q with callQueue := l })
  | [], f :: l, _ => some (f, { q with repeatQueue := l })
  | [], [], some r => some (r.frame src, { q with reply := none })
  | [], [], none => none

/-- The next characters of the frame in flight begin, at most `n` of them, each under the parity setting in effect
(R1, R19). -/
def Port.sendOn (q : Port) (setting : Parity) (n : Nat) : Port :=
  match q.tx with
  | none => q
  | some f => { q with txd := q.txd ++ ((f.bytes.drop q.txd.length).take n).map (sentBits setting) }

/-- A frame's transmission begins with its first character (R19). -/
def Port.beginFrame (q : Port) (setting : Parity) (bytes : List Byte) (r : Rate) : Port :=
  ({ q with tx := some { bytes := bytes, rate := r }, txd := [] } : Port).sendOn setting 1

/-- The frame in flight has been sent whole, and its transmit gap is over: the characters that were left have begun under
the parity setting in effect, and the transmitter is idle (R18, R19). -/
def Port.endFrame (q : Port) (setting : Parity) : Port :=
  match q.tx with
  | none => q
  | some f => { q.sendOn setting f.bytes.length with tx := none }

/-- A port that is RUNNING with an idle transmitter begins the next frame, at its learned rate (R4, R18, R19). -/
def Port.transmit (q : Port) (setting : Parity) (src : Byte) : Port :=
  match q.state, q.rate, q.tx with
  | .running, some r, none =>
    match q.nextFrame src with
    | some (f, q') => q'.beginFrame setting f r
    | none => q
  | _, _, _ => q

/-- Both ports' arbiters choose. -/
def arbitrate (s : State) : State :=
  let s1 := s.setPort .west (s.west.transmit s.parity s.srcByte)
  s1.setPort .east (s1.east.transmit s1.parity s1.srcByte)

/-! ## The link parity in effect (R2) -/

/-- The link parity in effect changes: what has begun of a frame in flight keeps the old setting, and the characters that
begin afterwards have the new one (R2, R19). How much of a frame has begun is free (assumption 20). -/
def setParity (v : Parity) (s : State) : State :=
  if v = s.parity then s
  else
    let s1 := s.setPort .west (s.west.sendOn s.parity (Config.charactersBegun s.freeCount))
    let s2 := s1.setPort .east (s1.east.sendOn s.parity (Config.charactersBegun (s.freeCount + 1)))
    { s2 with parity := v, freeCount := s.freeCount + 2 }

end Sys2Proof.Machine
end

