-- ==== Sys2Proof/Machine/Operands.lean ====
section
/-! DEFINITION. Sys2Proof/Machine/Operands.lean: every operand form: received characters (R1, R3, R6), frames and
their acceptance (R8), and the fields of BUS REPORT and SIGNAL STATUS frames as taken (R26, R27, R100, R110). -/

namespace Sys2Proof.Machine

/-! ## Received characters (R1) -/

/-- The setting a character is judged under: the one it began with (R2). -/
def charSetting (now : Parity) (c : LineChar) : Parity := c.begunUnder.getD now

/-- A character has a parity error (R1). -/
def parityError (setting : Parity) (c : LineChar) : Bool :=
  match parityBitFor setting c.data with
  | none => false
  | some bit => c.parityBit != bit

/-- A character has a parity or a framing error (R1). -/
def charError (now : Parity) (c : LineChar) : Bool :=
  parityError (charSetting now c) c || !c.stopIdle

/-- A clean sync character (R3). -/
def cleanSync (now : Parity) (c : LineChar) : Bool := c.data == syncByte && !charError now c

/-- The higher of two rates. -/
def rateRank : Rate → Nat
  | .r19200 => 0
  | .r38400 => 1
  | .r57600 => 2
  | .r115200 => 3

/-- The rate learned from characters that complete at the same moment: the highest rate with a clean sync (R3). -/
def learnedRate (now : Parity) (seen : List (Rate × LineChar)) : Option Rate :=
  (seen.filter fun x => cleanSync now x.2).foldl
    (fun best x =>
      match best with
      | none => some x.1
      | some r => if rateRank r < rateRank x.1 then some x.1 else some r) none

/-! ## Assembly and acceptance (R6, R8) -/

/-- The largest frame the link carries (R6). -/
def largestFrame : Nat := 63

/-- One character enters the receive assembly buffer (R6). -/
def RxBuffer.push (now : Parity) (x : RxBuffer) (c : LineChar) : RxBuffer :=
  { bytes := if x.bytes.length < largestFrame then x.bytes ++ [c.data] else x.bytes
    bad := x.bad || charError now c
    tooLong := x.tooLong || decide (largestFrame ≤ x.bytes.length) }

/-- A run of characters enters the receive assembly buffer. -/
def RxBuffer.pushAll (now : Parity) (x : RxBuffer) (l : List LineChar) : RxBuffer :=
  l.foldl (RxBuffer.push now) x

/-- The fields of a link frame (section 11.1), with the whole frame as received. -/
structure Frame where
  dest : Byte
  src : Byte
  kind : Byte
  payload : List Byte
  raw : List Byte
deriving DecidableEq, Repr

/-- The CHECK of a received frame is correct: computed over DEST through the last payload byte (R7). -/
def checkCorrect (bytes : List Byte) (len : Nat) : Bool :=
  halfAt bytes (5 + len) == frameCheck ((bytes.drop 1).take (4 + len))

/-- The frame in a buffer at its ending gap, when the port accepts it (R8). -/
def acceptedFrame (x : RxBuffer) : Option Frame :=
  let b := x.bytes
  let len := (byteAt b 4).toNat
  if byteAt b 0 = syncByte ∧ 5 ≤ b.length ∧ len ≤ 56 ∧ b.length = 7 + len ∧ x.tooLong = false ∧
      checkCorrect b len ∧ x.bad = false then
    some { dest := byteAt b 1, src := byteAt b 2, kind := byteAt b 3, payload := (b.drop 5).take len,
           raw := b }
  else none

/-! ## BUS REPORT (R26, R27, R185) -/

/-- The payload of a BUS REPORT from its 13 bytes. -/
def busReportOf (l : List Byte) : BusReport :=
  { bus := halfAt l 0, route := halfAt l 2, position := halfAt l 4, heading := byteAt l 6,
    speed := halfAt l 7, lateness := halfAt l 9, occupancy := byteAt l 11, flags := byteAt l 12 }

/-- A bus report's fields as taken (R27). -/
structure TakenReport where
  bus : Half
  route : Half
  position : Half
  heading : Direction
  speed : Nat
  latenessSec : Option Int
  occupancy : Fin 4
  cancel : Bool
  doorsOpen : Bool
deriving DecidableEq, Repr

/-- Speed as taken: at most 400 (R27). -/
def takenSpeed (v : Half) : Nat := min v.toNat 400

/-- Lateness as taken: −1000 is unknown, other values are held to −999 to +999 (R27). -/
def takenLateness (v : Half) : Option Int :=
  if v.toInt = -1000 then none else some (max (-999) (min 999 v.toInt))

/-- Occupancy level as taken: at most 3 (R27). -/
def takenOccupancy (b : Byte) : Fin 4 := ⟨min b.toNat 3, by omega⟩

/-- The report as taken, unless R26 ignores it. -/
def taken (r : BusReport) : Option TakenReport :=
  match directionOf r.heading with
  | none => none
  | some d =>
    if r.bus = 0 ∨ 9999 < r.route.toNat then none
    else some { bus := r.bus, route := r.route, position := r.position, heading := d,
                speed := takenSpeed r.speed, latenessSec := takenLateness r.lateness,
                occupancy := takenOccupancy r.occupancy, cancel := r.flags.getLsbD 0,
                doorsOpen := r.flags.getLsbD 1 }

/-! ## SIGNAL STATUS (R100, R110, R185) -/

/-- The payload of a SIGNAL STATUS from its 5 bytes. -/
def signalStatusOf (l : List Byte) : SignalStatus :=
  { planSelect := byteAt l 0, position := halfAt l 1, flags := byteAt l 3, service := byteAt l 4 }

/-- The plan a plan select names, when it names one (R100). -/
def planOf (b : Byte) : Option PlanId := if b = 0 then some .a else if b = 1 then some .b else none

/-- The service in effect a status frame's byte is held as (R110). -/
def serviceOf (b : Byte) : ServiceInEffect :=
  if b = 0 then .noService else if b = 1 then .extending else if b = 2 then .early else .unknown

end Sys2Proof.Machine
end

