-- ==== Sys2Proof/Machine/Arith.lean ====
section
/-! DEFINITION. Sys2Proof/Machine/Arith.lean: arrival time, score and rank (chapter 5), and the placing of an arrival
in the cycle (section 7.5). Every quantity is an exact integer. -/

namespace Sys2Proof.Machine

/-- The quotient rounded toward positive infinity (Conventions); 0 for a divisor of 0 (assumption 17). -/
def ceilDiv (a b : Nat) : Nat := (a + b - 1) / b

/-! ## Arrival time (section 5.1) -/

/-- The signed distance to a stop bar (R23). -/
def distance (e : SignalEntry) (d : Direction) (position : Half) : Int :=
  match d with
  | .a => (e.stopBarA.toNat : Int) - position.toNat
  | .b => (position.toNat : Int) - e.stopBarB.toNat

/-- The effective speed of a record (R84). -/
def effectiveSpeed (g : GlobalEntry) (r : RequestRecord) : Nat :=
  if r.doorsOpen then r.nominalSpeed
  else if g.speedFloor.toNat ≤ r.speed then r.speed
  else r.nominalSpeed

/-- The furthest an arrival lies ahead of its report: one hour in 0.1 s units (R87, R46). -/
def arrivalCap : Nat := 36000

/-- The travel sum of a record (R83 to R87). -/
def travelSum (g : GlobalEntry) (e : SignalEntry) (r : RequestRecord) : Nat :=
  let d := distance e r.direction r.position
  if d ≤ 0 then 0
  else
    min arrivalCap
      (ceilDiv (100 * d.toNat) (effectiveSpeed g r) + (if r.stopPending then r.stopDwell else 0))

/-- The arrival time of a record of origin CHECK_IN from a report at a time (R82, R87). -/
def arrivalTime (s : State) (r : RequestRecord) : Time :=
  later s.clock (travelSum s.tables.global (s.signalEntry r.signal) r)

/-- The arrival time of a projected record from the arrival at the preceding signal and its own segment, held to one
hour after the report time (R46, R48). -/
def projectedArrival (now preceding : Time) (g : SegmentEntry) : Time :=
  let sum := later preceding (g.travel.toNat + g.dwell.toNat)
  if (arrivalCap : Int) < timeDiff sum now then later now arrivalCap else sum

/-! ## Score (section 5.2) -/

/-- The lateness points (R91). -/
def latenessPoints (e : RouteEntry) (lateness : Option Int) : Nat :=
  match lateness with
  | none => 0
  | some l => min 127 ((l - e.latenessOffset.toInt).toNat * e.latenessGain.toNat / 16)

/-- The score is 0 by the early cutoff (R92). -/
def tooEarly (e : RouteEntry) (lateness : Option Int) : Bool :=
  match lateness with
  | none => false
  | some l => decide (l < -(e.earlyCutoff.toNat : Int))

/-- The score of a record of origin CHECK_IN (R91 to R93). -/
def baseScore (g : GlobalEntry) (e : RouteEntry) (lateness : Option Int) (level : Fin 4) : Nat :=
  if tooEarly e lateness then 0
  else e.baseScore.toNat + latenessPoints e lateness + g.points level

/-- The score of a record, with the projection penalty of its signal while it is PROJECTED (R90, R94). -/
def recordScore (s : State) (r : RequestRecord) : Nat :=
  let base := baseScore s.tables.global s.tables.route[r.routeIndex] r.latenessSec r.occupancy
  if r.state = .projected then base - (s.signalEntry r.signal).projectionPenalty.toNat else base

/-! ## Rank (section 5.3) -/

/-- The first record ranks above the second: higher score, then earlier arrival, then lower slot (R96, R97). -/
def ranksAbove (x y : SlotId × RequestRecord) : Bool :=
  decide (y.2.score < x.2.score) ||
    (x.2.score == y.2.score &&
      (decide (timeDiff x.2.arrival y.2.arrival < 0) ||
        (x.2.arrival == y.2.arrival && decide (x.1 < y.1))))

/-- The first-ranked of a list of records. -/
def topRanked (l : List (SlotId × RequestRecord)) : Option (SlotId × RequestRecord) :=
  l.foldl
    (fun best x =>
      match best with
      | none => some x
      | some y => if ranksAbove x y then some x else some y) none

/-- The record with the lowest score, ties going to the highest slot (R66, R67), of a list in ascending order of
slot. -/
def lowestScored (l : List (SlotId × RequestRecord)) : Option (SlotId × RequestRecord) :=
  l.foldl
    (fun low x =>
      match low with
      | none => some x
      | some y => if x.2.score ≤ y.2.score then some x else some y) none

/-! ## The cycle (R106, R127 to R133) -/

/-- x mod C for a cycle estimate; a free value for a stored cycle length of 0 (assumption 4). -/
def cycleMod (x cycle : Nat) : Nat :=
  if cycle = 0 then (Config.estimateWithoutCycle x).val else x % cycle

/-- The cycle estimate of a signal, when one is formed (R106). -/
def cycleEstimate (k : SignalId) (s : State) : Option Nat :=
  match (s.ctx k).freshness, (s.ctx k).taken with
  | .never, _ => none
  | _, none => none
  | _, some (p, t) =>
    if flagSet (s.planInEffect k).inUse then
      some (cycleMod (p.toNat + (s.clock - t).toNat) (s.planInEffect k).cycle.toNat)
    else none

/-- The place of an arrival in the green window: u = (a − gs) mod C with a = (c + e) mod C (R128). -/
def windowPlace (cycle greenStart c e : Nat) : Nat :=
  ((((c + e) % cycle : Nat) : Int) - greenStart).emod cycle |>.toNat

/-- The outcome in READY before the budget, with its PARTIAL flag (R129 to R132). -/
def cycleOutcome (plan : PlanEntry) (d : Direction) (c e : Nat) : ServiceOutcome × Bool :=
  let cycle := plan.cycle.toNat
  let g := (plan.greenWindow d).2
  let m := plan.margin.toNat
  let u := windowPlace cycle (plan.greenWindow d).1 c e
  let xd := u + m - g
  let early := ceilDiv (cycle - u) 10
  if u + m ≤ g then (.clear, false)
  else if (u : Int) - g < e ∧ xd ≤ 10 * plan.xmax.toNat then (.extend (ceilDiv xd 10), false)
  else if g ≤ u ∧ 0 < plan.emax.toNat then
    if early ≤ plan.emax.toNat then (.early early, false) else (.early plan.emax.toNat, true)
  else (.defer .outOfReach, false)

/-- A projected holder's outcome: EXTEND becomes DEFER with reason OUT_OF_REACH (R133). -/
def projectedOutcome (o : ServiceOutcome × Bool) : ServiceOutcome × Bool :=
  match o.1 with
  | .extend _ => (.defer .outOfReach, false)
  | .clear => o
  | .early _ => o
  | .defer _ => o

/-- An amount held against what is allowed (R134): the outcome, whether it is clipped, and PARTIAL. -/
def clip (mk : Nat → ServiceOutcome) (amount allowed : Nat) (wasPartial : Bool) : ServiceOutcome × Bool :=
  if min amount allowed = 0 then (.defer .budget, false)
  else (mk (min amount allowed), wasPartial || decide (allowed < amount))

/-- The outcome after the budget: budget Bc, seconds spent S and the holder's committed value (R134). -/
def budgeted (budget spent committed : Nat) (o : ServiceOutcome × Bool) : ServiceOutcome × Bool :=
  match o.1 with
  | .extend n => clip .extend n (budget + committed - spent) o.2
  | .early n => clip .early n (budget + committed - spent) o.2
  | .clear => o
  | .defer _ => o

end Sys2Proof.Machine
end

