-- ==== Sys2Proof/Machine/Flags.lean ====
section
/-! DEFINITION. Sys2Proof/Machine/Flags.lean: the values the part derives from the rest of its state and holds as
recomputed: the service state of a signal (R111 to R113), the corridor mode (R172) and ALERT (R182); the scope of a
load (R162); and the frame of every event. -/

namespace Sys2Proof.Machine

/-! ## The scope of a load -/

/-- A load covers a signal (R162). -/
def LoadContext.covers (l : LoadContext) (k : SignalId) : Bool :=
  match l.table with
  | .signal => l.start ≤ k.val && k.val ≤ l.rangeEnd
  | .plan => l.start / 2 ≤ k.val && k.val ≤ l.rangeEnd / 2
  | .global => true
  | .zone => true
  | .route => true
  | .segment => true

/-- An open load covers a signal. -/
def State.covered (s : State) (k : SignalId) : Bool :=
  match s.load with
  | none => false
  | some l => l.covers k

/-! ## Service state -/

/-- Some table is INVALID (R111, row 1). -/
def Validities.anyInvalid (v : Validities) : Bool :=
  v.global == .invalid || v.signal == .invalid || v.plan == .invalid || v.zone == .invalid ||
    v.route == .invalid || v.segment == .invalid

/-- Freshness is FRESH (R102). -/
def Freshness.isFresh : Freshness → Bool
  | .fresh _ => true
  | .never => false
  | .stale => false

/-- The service state of a signal by R111: the first row whose condition holds. -/
def serviceState (k : SignalId) (s : State) : ServiceState :=
  if !flagSet (s.signalEntry k).inUse || !flagSet (s.tables.planEntry k .a).inUse ||
      s.validity.anyInvalid then .unconfigured
  else if s.covered k then .suspended
  else if s.isDisabled k then .disabled
  else if !(s.ctx k).freshness.isFresh then .noStatus
  else if !(s.ctx k).accepting || !flagSet (s.planInEffect k).inUse then .inhibited
  else if 0 < (s.ctx k).lockout then .lockout
  else .ready

/-- A change of service state that writes a SIGNAL_STATE report (R113). -/
def reportsStateChange (old new : ServiceState) : Bool :=
  old != new && (old == .noStatus || old == .inhibited || new == .noStatus || new == .inhibited)

/-- A signal's service state is recomputed, with the report R113 requires (R112). -/
def recompute (k : SignalId) (s : State) : State :=
  let old := (s.ctx k).state
  let new := serviceState k s
  let s1 := s.setCtx k { s.ctx k with state := new }
  if reportsStateChange old new then writeReport (.signalState k old new) s1 else s1

/-- A signal's service state is recomputed without a report (R117). -/
def recomputeSilently (k : SignalId) (s : State) : State :=
  s.setCtx k { s.ctx k with state := serviceState k s }

/-! ## Corridor mode -/

/-- A load context exists for the GLOBAL, ZONE, ROUTE or SEGMENT table (R172). -/
def State.corridorLoad (s : State) : Bool :=
  match s.load with
  | none => false
  | some l => l.table != .signal && l.table != .plan

/-- The corridor mode by R172. -/
def corridorMode (s : State) : CorridorMode :=
  if s.ownAddress.isNone || s.validity.global == .invalid || s.validity.zone == .invalid ||
      s.validity.route == .invalid || s.validity.segment == .invalid then .unconfigured
  else if s.corridorLoad then .loading
  else .active

/-- The corridor mode is recomputed (R172). -/
def updateMode (s : State) : State := { s with mode := corridorMode s }

/-! ## ALERT -/

/-- The alert level: the GLOBAL field while the table is VALID, and 32 otherwise (R182). -/
def alertLevel (s : State) : Nat :=
  if s.validity.global == .valid then s.tables.global.alertLevel.toNat else 32

/-- The level of ALERT by R182. -/
def alertValue (s : State) : Bool :=
  alertLevel s ≤ s.reports.length || s.mode != .active

/-- ALERT follows its conditions (R182). -/
def updateAlert (s : State) : State := { s with alert := alertValue s }

/-! ## Events -/

/-- The end of every event: ALERT has its level within the event (R182), and an idle transmitter of a RUNNING port
begins a frame that has been placed (R18). DEDUCED (assumption 5): the arbiters choose once, when the event is whole. -/
def finish (s : State) : State := arbitrate (updateAlert s)

/-- An event of the running part. While RESETn is asserted no character is received, no frame is handled and no timer
runs, so nothing happens (R20). -/
def event (f : State → State) (s : State) : State := if s.resetHeld then s else finish (f s)

/-- An event that a frame accepted on a port brings: a LEARNING port accepts none, so nothing is acted on (R3). -/
def onArrival (p : PortId) (f : State → State) (s : State) : State :=
  event (fun t => if (t.port p).state = .running then f t else t) s

/-- An event that a frame handed to a block on a port brings: in NO-ADDRESS no frame is handed to any block (R9). -/
def onHandOver (p : PortId) (f : State → State) (s : State) : State :=
  onArrival p (fun t => if t.ownAddress.isNone then t else f t) s

end Sys2Proof.Machine
end

