-- ==== Sys2Proof/Machine/Calls.lean ====
section
/-! DEFINITION. Sys2Proof/Machine/Calls.lean: the call in force (section 8.1), its withdrawal (8.2) and its refresh
(8.3); holding taken and given up (R63, R124). -/

namespace Sys2Proof.Machine

/-! ## CANCEL -/

/-- The content of the CANCEL that withdraws a call (R146). -/
def CallContent.cancelled (c : CallContent) : CallContent :=
  { c with action := .cancel, amount := 0, partialFlag := false }

/-- A context after a CANCEL: the call-active flag clear and its content removed, the refresh timer stopped, the
refresh count 0 (R146). -/
def SignalContext.withoutCall (c : SignalContext) : SignalContext :=
  { c with call := none, refreshTimer := none, refreshCount := 0 }

/-- A CANCEL is generated when the signal's call-active flag is set; nothing happens when it is clear (R146). -/
def generateCancel (k : SignalId) (s : State) : State :=
  match (s.ctx k).call with
  | none => s
  | some c => placeCall k c.cancelled (s.setCtx k (s.ctx k).withoutCall)

/-! ## EXTEND and EARLY calls -/

/-- The direction field of a call (R145). -/
def callDirection (plan : PlanEntry) (d : Direction) : CallDirection :=
  if flagSet plan.shared then .both
  else match d with
    | .a => .a
    | .b => .b

/-- The content of an EXTEND or EARLY call (R144). -/
def callContent (plan : PlanEntry) (r : RequestRecord) (action : CallAction) (amount : Nat) (pf : Bool) :
    CallContent :=
  { action := action, amount := amount, direction := callDirection plan r.direction,
    route := r.routeNumber, bus := r.bus, score := r.score, partialFlag := pf }

/-- The context after a call is generated: S charged, the content set, the refresh count 0 and the timer started
(R135, R143, R149). -/
def SignalContext.withCall (c : SignalContext) (content : CallContent) (charge : Nat) (timer : Time) :
    SignalContext :=
  { c with spent := c.spent + charge, call := some content, refreshTimer := some timer, refreshCount := 0 }

/-- The holder's record after a call is generated for it (R135, R143). -/
def RequestRecord.withCall (r : RequestRecord) (action : CallAction) (amount : Nat) : RequestRecord :=
  { r with committed := max r.committed amount, lastCall := some (action, amount), refreshCount := 0 }

/-- An EXTEND or EARLY call is generated for the record in a slot (R143). -/
def generateCall (k : SignalId) (i : SlotId) (r : RequestRecord) (action : CallAction) (amount : Nat) (pf : Bool)
    (s : State) : State :=
  let plan := s.planInEffect k
  let content := callContent plan r action amount pf
  let s1 := s.setCtx k ((s.ctx k).withCall content (amount - r.committed) (later s.clock plan.refreshDelay))
  let s2 := s1.modRecord i fun q => q.withCall action amount
  placeCall k content s2

/-- A refresh copy of the call in force (R151), with the timer set to the refresh period (R149, R150). -/
def refreshCopy (k : SignalId) (s : State) : State :=
  match (s.ctx k).call with
  | none => s
  | some c =>
    let s1 := s.setCtx k { s.ctx k with
      refreshCount := (s.ctx k).refreshCount + 1
      refreshTimer := some (later s.clock (s.planInEffect k).refreshPeriod) }
    let s2 :=
      match (s.ctx k).holder with
      | none => s1
      | some i => s1.modRecord i fun r => { r with refreshCount := r.refreshCount + 1 }
    placeCall k c s2

/-! ## Record state and holding -/

/-- A record of origin CHECK_IN placed by its remaining time against the horizon: ARMED with its horizon entry time,
or WAITING without one (R59, R60, R61, R63). -/
def RequestRecord.byHorizon (r : RequestRecord) (now : Time) (horizon : Nat) : RequestRecord :=
  if horizon < remaining now r.arrival then
    { r with state := .armed, horizonEntry := some (r.arrival - BitVec.ofNat 32 horizon) }
  else { r with state := .waiting, horizonEntry := none }

/-- A record that gives up holding (R63): a PROJECTED record keeps its state. -/
def RequestRecord.released (r : RequestRecord) (now : Time) (horizon : Nat) : RequestRecord :=
  if r.state = .projected then r else r.byHorizon now horizon

/-- A record re-examined after its arrival time or its signal's horizon has changed (R61). -/
def RequestRecord.reexamined (r : RequestRecord) (now : Time) (horizon : Nat) : RequestRecord :=
  match r.state with
  | .armed => r.byHorizon now horizon
  | .waiting => r.byHorizon now horizon
  | .holding => r
  | .projected => r

/-- A record that becomes holder (R63): a PROJECTED record keeps its state. -/
def RequestRecord.held (r : RequestRecord) : RequestRecord :=
  if r.state = .projected then r else { r with state := .holding, horizonEntry := none }

/-- The present holder of a signal with its record. -/
def State.holderOf (s : State) (k : SignalId) : Option (SlotId × RequestRecord) :=
  match (s.ctx k).holder with
  | none => none
  | some i => (s.record i).map fun r => (i, r)

/-- A signal's holder gives up holding: its call is withdrawn first, then its state is set (R124). -/
def giveUp (k : SignalId) (s : State) : State :=
  let s1 := generateCancel k s
  match (s1.ctx k).holder with
  | none => s1
  | some i =>
    (s1.modRecord i fun r => r.released s1.clock (s1.horizonUnits k)).setCtx k
      { s1.ctx k with holder := none }

/-- The record in a slot becomes holder of a signal (R63, R123). -/
def takeHolding (k : SignalId) (i : SlotId) (s : State) : State :=
  (s.modRecord i RequestRecord.held).setCtx k { s.ctx k with holder := some i }

end Sys2Proof.Machine
end

