-- ==== Sys2Proof/Machine/Decision.lean ====
section
/-! DEFINITION. Sys2Proof/Machine/Decision.lean: the service decision (chapter 7): the eligible set, the holder, its
outcome and budget, what an evaluation records and generates; and lapse (section 8.4). -/

namespace Sys2Proof.Machine

/-- A record at a signal is eligible (R121, R122). -/
def eligible (k : SignalId) (s : State) (r : RequestRecord) : Bool :=
  (s.ctx k).state != .unconfigured && (s.ctx k).state != .suspended &&
    r.signal == k &&
    (r.state != .projected || (s.signalEntry k).projects r.direction) &&
    decide (0 < r.score) &&
    decide (remaining s.clock r.arrival ≤ s.horizonUnits k) &&
    !r.doorsOpen && !r.lapsed

/-- The candidate of a signal: its first-ranked eligible record (R123). -/
def candidate (k : SignalId) (s : State) : Option (SlotId × RequestRecord) :=
  topRanked (s.records.filter fun x => eligible k s x.2)

/-- The candidate, if there is one, becomes holder. -/
def takeCandidate (k : SignalId) (c : Option (SlotId × RequestRecord)) (s : State) : State :=
  match c with
  | none => s
  | some x => takeHolding k x.1 s

/-- The holder of a signal is settled from the candidate, the present holder and the call-active flag (R123, R125). -/
def settleHolder (k : SignalId) (s : State) : State :=
  let c := candidate k s
  match s.holderOf k with
  | none => takeCandidate k c s
  | some (i, r) =>
    if !eligible k s r then takeCandidate k c (giveUp k s)
    else match c with
      | none => s
      | some (j, q) =>
        if j = i then s
        else if (s.ctx k).call.isNone then takeHolding k j (giveUp k s)
        else if r.score + s.tables.global.holdMargin.toNat < q.score then takeHolding k j (giveUp k s)
        else s

/-- The outcome in READY, after the budget (R127 to R134). -/
def readyOutcome (k : SignalId) (r : RequestRecord) (s : State) : Option (ServiceOutcome × Bool) :=
  (cycleEstimate k s).map fun c =>
    let plan := s.planInEffect k
    let o := cycleOutcome plan r.direction c (remaining s.clock r.arrival)
    budgeted plan.budget.toNat (s.ctx k).spent r.committed
      (if r.state = .projected then projectedOutcome o else o)

/-- The outcome of a signal's holder by its service state (R126, R127). UNCONFIGURED and SUSPENDED signals have no
holder, and no outcome. -/
def holderOutcome (k : SignalId) (r : RequestRecord) (s : State) : Option (ServiceOutcome × Bool) :=
  match (s.ctx k).state with
  | .unconfigured => none
  | .suspended => none
  | .disabled => some (.defer .disabled, false)
  | .noStatus => some (.defer .noStatus, false)
  | .inhibited => some (.defer .inhibited, false)
  | .lockout => some (.defer .lockout, false)
  | .ready => readyOutcome k r s

/-- The action and amount of an outcome that asks for a call. -/
def ServiceOutcome.asks : ServiceOutcome → Option (CallAction × Nat)
  | .extend n => some (.extend, n)
  | .early n => some (.early, n)
  | .clear => none
  | .defer _ => none

/-- The call in force carries an action and an amount (R137). -/
def callCarries (c : Option CallContent) (action : CallAction) (amount : Nat) : Bool :=
  match c with
  | none => false
  | some x => x.action == action && x.amount == amount

/-- An outcome is written into the holder's record (R136). -/
def recordOutcome (i : SlotId) (o : ServiceOutcome × Bool) (s : State) : State :=
  s.modRecord i fun r => { r with lastOutcome := some o.1, partialFlag := o.2 }

/-- An outcome is acted on: a call, a CANCEL or nothing (R137); no call under OBSERVE (R138). -/
def actOnOutcome (k : SignalId) (i : SlotId) (r : RequestRecord) (o : ServiceOutcome × Bool) (s : State) :
    State :=
  match o.1.asks with
  | none => generateCancel k s
  | some (action, amount) =>
    if s.observe || callCarries (s.ctx k).call action amount then s
    else generateCall k i r action amount o.2 s

/-- The holder's outcome is computed, recorded and acted on (R126 to R138). -/
def serveHolder (k : SignalId) (s : State) : State :=
  match s.holderOf k with
  | none => s
  | some (i, r) =>
    match holderOutcome k r s with
    | none => s
    | some o => actOnOutcome k i r o (recordOutcome i o s)

/-- An evaluation of a signal (R120). -/
def evaluate (k : SignalId) (s : State) : State := serveHolder k (settleHolder k s)

/-- Several signals evaluate, one after another. -/
def evaluateAll (l : List SignalId) (s : State) : State := l.foldl (fun t k => evaluate k t) s

/-- An evaluation has left the call in force unchanged: the call-active flag set, the same holder and the same content
(R150, R153). -/
def callUnchanged (k : SignalId) (before after : State) : Bool :=
  (after.ctx k).call.isSome && (after.ctx k).call == (before.ctx k).call &&
    (after.ctx k).holder == (before.ctx k).holder

/-- The call in force lapses: a CANCEL, LAPSED set in the holder, which gives up holding, and a second evaluation
(R152). -/
def lapse (k : SignalId) (s : State) : State :=
  let s1 := generateCancel k s
  let s2 :=
    match (s1.ctx k).holder with
    | none => s1
    | some i => s1.modRecord i fun r => { r with lapsed := true }
  evaluate k (giveUp k s2)

/-- The refresh timer of a signal is reached: an evaluation, then a refresh copy or a lapse of an unchanged call
(R150). -/
def refreshOrLapse (k : SignalId) (s : State) : State :=
  let s1 := evaluate k s
  if callUnchanged k s s1 then
    if (s1.ctx k).refreshCount < (s1.planInEffect k).maxRefreshes.toNat then refreshCopy k s1
    else lapse k s1
  else s1

end Sys2Proof.Machine
end

