-- ==== Sys2Proof/Machine/Contexts.lean ====
section
/-! DEFINITION. Sys2Proof/Machine/Contexts.lean: the signal contexts (chapter 6): taking a status frame, freshness, and
the refresh timer's meaning. -/

namespace Sys2Proof.Machine

/-! ## Taking a status frame (section 6.2) -/

/-- The two tests of R100, with the plan the frame selects. -/
def statusAccepted (k : SignalId) (f : SignalStatus) (s : State) : Option PlanId :=
  match planOf f.planSelect with
  | none => none
  | some p =>
    let e := s.tables.planEntry k p
    if !flagSet e.inUse || decide (f.position.toNat < e.cycle.toNat) then some p else none

/-- The status timeout: the GLOBAL field while the table is VALID, and 100 otherwise (R102). -/
def statusTimeout (s : State) : Nat :=
  if s.validity.global = .valid then s.tables.global.statusTimeout.toNat else 100

/-- What the comparison of a status frame with the context's previous values gives (R101 step 2). -/
inductive StatusChange where
  | neither | planSelect | cycleBoundary
deriving DecidableEq, Repr

/-- The comparison of R101 step 2: a plan select change (R105), a cycle boundary (R107), or neither; neither when
freshness was NEVER. -/
def statusChange (c : SignalContext) (p : PlanId) (position : Half) : StatusChange :=
  match c.freshness, c.taken with
  | .never, _ => .neither
  | _, none => .neither
  | _, some (q, _) =>
    if p ≠ c.plan then .planSelect
    else if position.toNat < q.toNat then .cycleBoundary
    else .neither

/-- The budget and lockout of a context after a plan select change (R105) or a cycle boundary (R107, R109). -/
def SignalContext.afterChange (c : SignalContext) : StatusChange → SignalContext
  | .neither => c
  | .planSelect => { c with spent := 0 }
  | .cycleBoundary => { c with spent := 0, lockout := c.lockout - 1 }

/-- A change made to every record of a signal. -/
def changeRecordsAt (k : SignalId) (f : RequestRecord → RequestRecord) (s : State) : State :=
  allSlots.foldl
    (fun u i => u.modRecord i fun r => if r.signal = k then f r else r) s

/-- The committed-this-cycle values of a signal's records are cleared by a change (R105, R107). -/
def clearCommitted (k : SignalId) (ch : StatusChange) (s : State) : State :=
  match ch with
  | .neither => s
  | .planSelect => changeRecordsAt k (fun r => { r with committed := 0 }) s
  | .cycleBoundary => changeRecordsAt k (fun r => { r with committed := 0 }) s

/-- The context's own values from a taken frame (R101 steps 1, 3, 4 and 5). -/
def SignalContext.withStatus (c : SignalContext) (ch : StatusChange) (f : SignalStatus) (p : PlanId) (now : Time)
    (timeout : Nat) : SignalContext :=
  { c.afterChange ch with
    freshness := .fresh (later now timeout)
    plan := p
    taken := some (f.position, now)
    accepting := f.flags.getLsbD 0
    service := serviceOf f.service }

/-- A signal's records are re-examined against its horizon when its plan in effect has changed (R61, R101 step 4,
R105). -/
def reexamineRecords (k : SignalId) (planChanged : Bool) (s : State) : State :=
  if planChanged then changeRecordsAt k (fun r => r.reexamined s.clock (s.horizonUnits k)) s else s

/-- Service in effect credits the holder that has an active call (R110). -/
def creditService (k : SignalId) (s : State) : State :=
  match (s.ctx k).holder with
  | none => s
  | some i =>
    if (s.ctx k).service ≠ .noService ∧ (s.ctx k).call.isSome then
      s.modRecord i fun r => { r with served := true }
    else s

/-- A plan select change that leaves the call in force unchanged with a refresh count above the new plan's N makes it
lapse (R153). -/
def lapseAboveLimit (k : SignalId) (ch : StatusChange) (before after : State) : State :=
  if ch = .planSelect ∧ callUnchanged k before after = true ∧
      (after.planInEffect k).maxRefreshes.toNat < (after.ctx k).refreshCount then lapse k after
  else after

/-- A status frame that passes R100 is taken (R101, R153). -/
def takeStatus (k : SignalId) (p : PlanId) (f : SignalStatus) (s : State) : State :=
  let c := s.ctx k
  let ch := statusChange c p f.position
  let s1 := clearCommitted k ch (s.setCtx k (c.withStatus ch f p s.clock (statusTimeout s)))
  let s2 := reexamineRecords k (decide (p ≠ c.plan)) s1
  let s3 := recompute k (creditService k s2)
  lapseAboveLimit k ch s3 (evaluate k s3)

/-- A context is handed a status frame: it takes it or leaves everything as it is (R100). -/
def offerStatus (k : SignalId) (f : SignalStatus) (s : State) : State :=
  match statusAccepted k f s with
  | none => s
  | some p => takeStatus k p f s

/-- A SIGNAL entry matches a status frame: in use, with the frame's SRC as cabinet address and its arrival port
(R11). -/
def statusMatches (p : PortId) (src : Byte) (e : SignalEntry) : Bool :=
  flagSet e.inUse && e.cabinet == src && portOf e.port == some p

/-- A status frame is handed to each matching context, in ascending order of signal index (R11, R113, R165;
assumption 18). -/
def handStatus (p : PortId) (src : Byte) (f : SignalStatus) (s : State) : State :=
  (allSignals.filter fun k => statusMatches p src (s.signalEntry k)).foldl
    (fun u k => offerStatus k f u) s

/-! ## Timers of a context -/

/-- A freshness expiry is due (R103). -/
def freshnessDue (s : State) (k : SignalId) : Bool :=
  match (s.ctx k).freshness with
  | .fresh t => reached s.clock t
  | .never => false
  | .stale => false

/-- The freshness expiry of a context, when it is due (R103). -/
def takeFreshnessExpiry (k : SignalId) (s : State) : State :=
  if freshnessDue s k then evaluate k (recompute k (s.setCtx k { s.ctx k with freshness := .stale }))
  else s

/-- A refresh expiry is due (R149, R150). -/
def refreshDue (s : State) (k : SignalId) : Bool := (s.ctx k).refreshTimer.any (reached s.clock)

/-- The refresh expiry of a signal, when it is due (R150). -/
def takeRefreshExpiry (k : SignalId) (s : State) : State :=
  if refreshDue s k then refreshOrLapse k s else s

/-! ## Meanings -/

/-- SIGNAL_STATUS. -/
def execSignalStatus (p : PortId) (src : Byte) (f : SignalStatus) (s : State) :
    Host.Outcome State Fault Refusal :=
  .next (onHandOver p (handStatus p src f) s)

/-- FRESHNESS_EXPIRY. -/
def execFreshnessExpiry (k : SignalId) (s : State) : Host.Outcome State Fault Refusal :=
  .next (event (takeFreshnessExpiry k) s)

/-- REFRESH_EXPIRY. -/
def execRefreshExpiry (k : SignalId) (s : State) : Host.Outcome State Fault Refusal :=
  .next (event (takeRefreshExpiry k) s)

end Sys2Proof.Machine
end

