-- ==== Sys2Proof/Machine/Chains.lean ====
section
/-! DEFINITION. Sys2Proof/Machine/Chains.lean: route resolution (R41), the walk of a route's chain (R40), the chain
cursor (R42, R43) and the segment before a cursor (R48). -/

namespace Sys2Proof.Machine

/-- An index into the SEGMENT table from a stored byte, when it is one. -/
def segmentIndex (b : Byte) : Option (Fin 128) := indexBelow 128 b.toNat

/-- The route entry a report's route number resolves to: the in-use entry of that number, otherwise the default route
(R41). -/
def resolveRoute (t : TableStore) (number : Half) : Option (Fin 32) :=
  let find := fun (n : Half) =>
    (List.finRange 32).find? fun i => flagSet t.route[i].inUse && t.route[i].number == n
  (find number).or (find 0)

/-- The next segment after a segment: absent when END is set (R39). -/
def nextSegment (t : TableStore) (i : Fin 128) : Option (Fin 128) :=
  if flagSet t.segment[i].ends then none else segmentIndex t.segment[i].next

/-- A walk from a segment: at most `fuel` segments (R40). -/
def walkFrom (t : TableStore) : Nat → Fin 128 → List (Fin 128)
  | 0, _ => []
  | fuel + 1, i =>
    i :: match nextSegment t i with
      | none => []
      | some j => walkFrom t fuel j

/-- The largest number of segments of a chain (R40). -/
def chainLimit : Nat := 16

/-- The chain of a route entry: empty when its head is NONE (R38, R40). -/
def chain (t : TableStore) (e : RouteEntry) : List (Fin 128) :=
  match segmentIndex e.head with
  | none => []
  | some i => walkFrom t chainLimit i

/-- A segment names a signal and a direction. -/
def SegmentEntry.names (g : SegmentEntry) (k : SignalId) (d : Direction) : Bool :=
  g.signal.toNat == k.val && directionOf g.direction == some d

/-- The chain cursor placed by a walk: the first segment naming the signal and direction (R42). -/
def placeCursor (t : TableStore) (route : Fin 32) (k : SignalId) (d : Direction) : Option (Fin 128) :=
  (chain t t.route[route]).find? fun i => t.segment[i].names k d

/-- The cursor of a converted record: kept when it names the signal and the direction of the check-in, placed afresh
otherwise (R43). -/
def settleCursor (t : TableStore) (route : Fin 32) (cursor : Option (Fin 128)) (k : SignalId) (d : Direction) :
    Option (Fin 128) :=
  match cursor with
  | some i => if t.segment[i].names k d then some i else placeCursor t route k d
  | none => placeCursor t route k d

/-- The segment of a route's chain whose next segment is a cursor (R48). -/
def precedingSegment (t : TableStore) (route : Fin 32) (cursor : Fin 128) : Option (Fin 128) :=
  (chain t t.route[route]).find? fun i => nextSegment t i == some cursor

end Sys2Proof.Machine
end

