-- ==== Sys2Proof/Machine/Records.lean ====
section
/-! DEFINITION. Sys2Proof/Machine/Records.lean: the life of request records (chapters 3 and 4): closure, creation,
conversion, projection, displacement, update and re-estimation; and the record timers' meanings. -/

namespace Sys2Proof.Machine

/-! ## Closure (section 4.8) -/

/-- The service part of a closing record, present when its last call is (R80). -/
def RequestRecord.servicePart (r : RequestRecord) : Option ServicePart :=
  r.lastCall.map fun c =>
    { action := c.1, amount := c.2, refreshCount := r.refreshCount, served := r.served }

/-- The REQUEST_CLOSED report of a record (R80). -/
def RequestRecord.closedReport (r : RequestRecord) (i : SlotId) (reason : ClosureReason) : ReportBody :=
  .requestClosed i r.bus r.routeNumber r.signal r.direction r.state reason r.score r.servicePart

/-- A closure reason that counts as a completed passage (R109). -/
def ClosureReason.isPassage : ClosureReason → Bool
  | .checkedOut => true
  | .inferredOut => true
  | .canceled => false
  | .expired => false
  | .projectionLapsed => false
  | .displaced => false
  | .suspended => false

/-- The lockout count a closure notice leaves: L for a served holder's passage when L is above 0 (R109). -/
def lockoutAfter (count cycles : Nat) (reason : ClosureReason) (wasHolder served : Bool) : Nat :=
  if wasHolder && served && reason.isPassage && decide (0 < cycles) then cycles else count

/-- The signal context is told of a closure: a closed holder leaves the signal without one, a lockout can begin, and
the service state is recomputed (R78 step 4, R109, R112). -/
def closureNotice (k : SignalId) (reason : ClosureReason) (wasHolder served : Bool) (s : State) : State :=
  let c := s.ctx k
  recompute k (s.setCtx k { c with
    holder := if wasHolder then none else c.holder
    lockout := lockoutAfter c.lockout (s.fallbackPlan k).lockoutCycles.toNat reason wasHolder served })

/-- The record in a slot closes: steps 1 to 4 of R78. Nothing happens when the slot is free (R77). -/
def closeRecord (i : SlotId) (reason : ClosureReason) (s : State) : State :=
  match s.record i with
  | none => s
  | some r =>
    let wasHolder := decide ((s.ctx r.signal).holder = some i)
    let s1 := if wasHolder then generateCancel r.signal s else s
    let s2 := s1.setRecord i none
    let s3 := writeReport (r.closedReport i reason) s2
    closureNotice r.signal reason wasHolder r.served s3

/-- Several records close, one after another (R79). -/
def closeAll (l : List SlotId) (reason : ClosureReason) (s : State) : State :=
  l.foldl (fun t i => closeRecord i reason t) s

/-! ## Fields taken from a report -/

/-- The age expiry time set by a report (R57, R75). -/
def ageExpiryTime (s : State) : Time := later s.clock (10 * s.tables.global.holdTime.toNat)

/-- The flag changes of a report (R71). -/
def RequestRecord.withDoors (r : RequestRecord) (doors : Bool) : RequestRecord :=
  { r with doorsOpen := doors, stopPending := if doors then false else r.stopPending }

/-- A record of origin CHECK_IN takes a report's values, its flag changes, its arrival time, its score and its age
expiry time (R70, R82, R90). -/
def RequestRecord.withReport (r : RequestRecord) (t : TakenReport) (s : State) : RequestRecord :=
  let r1 := ({ r with position := t.position, speed := t.speed, latenessSec := t.latenessSec,
                      occupancy := t.occupancy }).withDoors t.doorsOpen
  { r1 with arrival := arrivalTime s r1, score := recordScore s r1, ageExpiry := ageExpiryTime s }

/-! ## Creation and conversion (section 4.3) -/

/-- A record created by check-in, before its report's values (R56, R58, R64). -/
def newRecord (t : TakenReport) (k : SignalId) (z : ZoneEntry) (route : Fin 32) (s : State) : RequestRecord :=
  { bus := t.bus, routeIndex := route, routeNumber := t.route, signal := k, direction := t.heading,
    cursor := placeCursor s.tables route k t.heading, position := t.position, speed := t.speed,
    latenessSec := t.latenessSec, occupancy := t.occupancy, nominalSpeed := z.nominalSpeed.toNat,
    stopDwell := z.stopDwell.toNat, arrival := s.clock, score := 0, ageExpiry := s.clock,
    horizonEntry := none, projectionExpiry := none, state := .waiting,
    stopPending := decide (0 < z.stopDwell.toNat), doorsOpen := false, lapsed := false, served := false,
    lastOutcome := none, partialFlag := false, committed := 0, refreshCount := 0, lastCall := none }

/-- A record is created by check-in in a slot (R59, R64). -/
def createRecord (i : SlotId) (t : TakenReport) (k : SignalId) (z : ZoneEntry) (route : Fin 32) (s : State) : State :=
  s.setRecord i
    (some (((newRecord t k z route s).withReport t s).byHorizon s.clock (s.horizonUnits k)))

/-- A PROJECTED record converted by a check-in, before its state is set (R65). -/
def RequestRecord.converted (r : RequestRecord) (t : TakenReport) (z : ZoneEntry) (s : State) : RequestRecord :=
  ({ r with
      state := .waiting, direction := t.heading, nominalSpeed := z.nominalSpeed.toNat,
      stopDwell := z.stopDwell.toNat, stopPending := decide (0 < z.stopDwell.toNat),
      cursor := settleCursor s.tables r.routeIndex r.cursor r.signal t.heading,
      projectionExpiry := none }).withReport t s

/-- The PROJECTED record in a slot is converted by a check-in: HOLDING when it was its signal's holder, placed by the
horizon otherwise (R50, R59, R65). -/
def convertRecord (i : SlotId) (r : RequestRecord) (t : TakenReport) (z : ZoneEntry) (s : State) : State :=
  let q := r.converted t z s
  s.setRecord i (some
    (if (s.ctx r.signal).holder = some i then q.held else q.byHorizon s.clock (s.horizonUnits r.signal)))

/-! ## Projection (section 3.5) -/

/-- The projection expiry time: the arrival time plus the grace of the record's signal (R47). -/
def projectionExpiryTime (s : State) (k : SignalId) (arrival : Time) : Time :=
  later arrival (10 * (s.signalEntry k).projectionGrace.toNat)

/-- A projected record made by the record at the preceding signal (R45). -/
def projectedRecord (r : RequestRecord) (next : Fin 128) (k : SignalId) (d : Direction) (doors : Bool) (s : State) :
    RequestRecord :=
  let arrival := projectedArrival s.clock r.arrival s.tables.segment[next]
  let q : RequestRecord :=
    { bus := r.bus, routeIndex := r.routeIndex, routeNumber := r.routeNumber, signal := k, direction := d,
      cursor := some next, position := r.position, speed := r.speed, latenessSec := r.latenessSec,
      occupancy := r.occupancy, nominalSpeed := r.nominalSpeed, stopDwell := r.stopDwell,
      arrival := arrival, score := 0, ageExpiry := ageExpiryTime s, horizonEntry := none,
      projectionExpiry := some (projectionExpiryTime s k arrival), state := .projected,
      stopPending := false, doorsOpen := doors, lapsed := false, served := false, lastOutcome := none,
      partialFlag := false, committed := 0, refreshCount := 0, lastCall := none }
  { q with score := recordScore s q }

/-- The signal and direction a segment names, when its stored codes name them. -/
def SegmentEntry.target (g : SegmentEntry) : Option (SignalId × Direction) :=
  match indexBelow 16 g.signal.toNat, directionOf g.direction with
  | some k, some d => some (k, d)
  | _, _ => none

/-- A service state that accepts check-ins and projections (R32, R44). -/
def ServiceState.admits : ServiceState → Bool
  | .unconfigured => false
  | .suspended => false
  | .disabled => true
  | .noStatus => true
  | .inhibited => true
  | .lockout => true
  | .ready => true

/-- The projection attempt of the record in a slot (R44), with the signals it touches. -/
def attemptProjection (i : SlotId) (doors : Bool) (s : State) : State × List SignalId :=
  match s.record i with
  | none => (s, [])
  | some r =>
    match r.cursor.bind (nextSegment s.tables) with
    | none => (s, [])
    | some next =>
      match s.tables.segment[next].target, s.freeSlot with
      | some (k, d), some j =>
        if flagSet (s.signalEntry k).inUse && (s.signalEntry k).projects d &&
            (s.ctx k).state.admits && (s.findRecord r.bus k).isNone then
          (s.setRecord j (some (projectedRecord r next k d doors s)), [k])
        else (s, [])
      | _, _ => (s, [])

/-! ## Check-in (sections 4.3 and 4.4) -/

/-- The records in state PROJECTED. -/
def State.projectedRecords (s : State) : List (SlotId × RequestRecord) :=
  s.records.filter fun x => x.2.state == .projected

/-- The records that are not their signal's holder (R67). -/
def State.nonHolders (s : State) : List (SlotId × RequestRecord) :=
  s.records.filter fun x => (s.ctx x.2.signal).holder != some x.1

/-- A record is created in a slot and makes its projection attempt (R64). -/
def createAndProject (i : SlotId) (t : TakenReport) (k : SignalId) (z : ZoneEntry) (route : Fin 32) (s : State) :
    State × List SignalId :=
  let x := attemptProjection i t.doorsOpen (createRecord i t k z route s)
  (x.1, k :: x.2)

/-- The record in a slot is displaced and the newcomer created in its place (R66, R67). -/
def displaceAndCreate (x : SlotId × RequestRecord) (t : TakenReport) (k : SignalId) (z : ZoneEntry)
    (route : Fin 32) (s : State) : State × List SignalId :=
  let y := createAndProject x.1 t k z route (closeRecord x.1 .displaced s)
  (y.1, x.2.signal :: y.2)

/-- The score a newcomer is compared with (R67, R90). -/
def newcomerScore (t : TakenReport) (route : Fin 32) (s : State) : Nat :=
  baseScore s.tables.global s.tables.route[route] t.latenessSec t.occupancy

/-- A check-in against a full table (R66, R67, R68). -/
def checkInFull (t : TakenReport) (k : SignalId) (z : ZoneEntry) (route : Fin 32) (s : State) :
    State × List SignalId :=
  match lowestScored s.projectedRecords with
  | some x => displaceAndCreate x t k z route s
  | none =>
    match lowestScored s.nonHolders with
    | none => (s, [])
    | some x =>
      if x.2.score < newcomerScore t route s then displaceAndCreate x t k z route s
      else
        (writeReport (.tableFull t.bus t.route k t.heading (newcomerScore t route s) x.2.score) s, [])

/-- A check-in request (R35, R64), with the signals it touches. -/
def checkIn (t : TakenReport) (k : SignalId) (z : ZoneEntry) (route : Fin 32) (s : State) : State × List SignalId :=
  match s.findRecord t.bus k with
  | some (i, r) =>
    if r.state = .projected then
      let x := attemptProjection i t.doorsOpen (convertRecord i r t z s)
      (x.1, k :: x.2)
    else (s, [])
  | none =>
    match s.freeSlot with
    | some i => createAndProject i t k z route s
    | none => checkInFull t k z route s

/-! ## Update (section 4.5) -/

/-- A record of origin CHECK_IN refreshed by a report (R70). -/
def RequestRecord.refreshed (r : RequestRecord) (t : TakenReport) (s : State) : RequestRecord :=
  (r.withReport t s).reexamined s.clock (s.horizonUnits r.signal)

/-- The bus's record that stands behind a PROJECTED record in its chain (R48). -/
def precedingRecord (r : RequestRecord) (s : State) : Option RequestRecord :=
  match r.cursor.bind (precedingSegment s.tables r.routeIndex) with
  | none => none
  | some g =>
    match s.tables.segment[g].target with
    | none => none
    | some (p, d) =>
      match s.findRecord r.bus p with
      | none => none
      | some (_, q) => if q.state ≠ .projected ∧ q.direction = d then some q else none

/-- A PROJECTED record re-estimated from a preceding record, when there is one (R48). -/
def RequestRecord.movedBehind (r : RequestRecord) (preceding : Option RequestRecord) (s : State) : RequestRecord :=
  match preceding, r.cursor with
  | some q, some c =>
    let a := projectedArrival s.clock q.arrival s.tables.segment[c]
    { r with arrival := a, projectionExpiry := some (projectionExpiryTime s r.signal a) }
  | _, _ => r

/-- A PROJECTED record re-estimated by a report, with its score recomputed (R48) and its flag changes (R71). -/
def RequestRecord.reestimated (r : RequestRecord) (t : TakenReport) (s : State) : RequestRecord :=
  let q := (r.movedBehind (precedingRecord r s) s).withDoors t.doorsOpen
  { q with score := recordScore s q }

/-- Step 1 of the update: the bus's records of origin CHECK_IN in the report's heading are refreshed (R49, R69). -/
def refreshRecords (t : TakenReport) (s : State) : State × List SignalId :=
  let l := s.records.filter fun x =>
    x.2.bus == t.bus && x.2.state != .projected && x.2.direction == t.heading
  (l.foldl (fun u x => u.setRecord x.1 (some (x.2.refreshed t u))) s, l.map fun x => x.2.signal)

/-- Step 2 of the update: the bus's PROJECTED records are re-estimated; one whose arrival time or score has changed is
touched (R49, R69). -/
def reestimateRecords (t : TakenReport) (s : State) : State × List SignalId :=
  let l := s.records.filter fun x => x.2.bus == t.bus && x.2.state == .projected
  (l.foldl (fun u x => u.setRecord x.1 (some (x.2.reestimated t u))) s,
    (l.filter fun x =>
      (x.2.reestimated t s).arrival != x.2.arrival || (x.2.reestimated t s).score != x.2.score).map
      fun x => x.2.signal)

/-- The update a report makes to every open record of its bus (R34, R49, R69). -/
def updateRecords (t : TakenReport) (s : State) : State × List SignalId :=
  let x := refreshRecords t s
  let y := reestimateRecords t x.1
  (y.1, x.2 ++ y.2)

/-! ## Record timers (section 4.7) -/

/-- The horizon entry of the record in a slot, when it is due (R62). -/
def takeHorizonEntry (i : SlotId) (s : State) : State :=
  match s.record i with
  | none => s
  | some r =>
    if r.state = .armed ∧ (r.horizonEntry.any (reached s.clock)) then
      evaluate r.signal (s.setRecord i (some { r with state := .waiting, horizonEntry := none }))
    else s

/-- The age expiry of the record in a slot is due: never for a PROJECTED record (R75). -/
def ageDue (s : State) (r : RequestRecord) : Bool :=
  r.state != .projected && reached s.clock r.ageExpiry

/-- The age expiry of the record in a slot, when it is due (R75, R78). -/
def takeAgeExpiry (i : SlotId) (s : State) : State :=
  match s.record i with
  | none => s
  | some r => if ageDue s r then evaluate r.signal (closeRecord i .expired s) else s

/-- The projection expiry of the record in a slot is due (R47). -/
def projectionDue (s : State) (r : RequestRecord) : Bool :=
  r.state == .projected && r.projectionExpiry.any (reached s.clock)

/-- The projection expiry of the record in a slot, when it is due (R47, R75, R78). -/
def takeProjectionExpiry (i : SlotId) (s : State) : State :=
  match s.record i with
  | none => s
  | some r =>
    if projectionDue s r then evaluate r.signal (closeRecord i .projectionLapsed s) else s

/-! ## Meanings -/

/-- HORIZON_ENTRY. -/
def execHorizonEntry (i : SlotId) (s : State) : Host.Outcome State Fault Refusal :=
  .next (event (takeHorizonEntry i) s)

/-- AGE_EXPIRY. -/
def execAgeExpiry (i : SlotId) (s : State) : Host.Outcome State Fault Refusal :=
  .next (event (takeAgeExpiry i) s)

/-- PROJECTION_EXPIRY. -/
def execProjectionExpiry (i : SlotId) (s : State) : Host.Outcome State Fault Refusal :=
  .next (event (takeProjectionExpiry i) s)

end Sys2Proof.Machine
end

