-- ==== Sys2Proof/Machine/Locator.lean ====
section
/-! DEFINITION. Sys2Proof/Machine/Locator.lean: the approach locator (chapter 2): what one bus report asks of the
request table, in its order, and the evaluations that follow. -/

namespace Sys2Proof.Machine

/-! ## The evaluations of one report (R37) -/

/-- A call slot enters a list ordered by a key of its signal, after the slots with smaller keys. -/
def insertByKey (key : SignalId → Nat) (c : CallSlot) : List CallSlot → List CallSlot
  | [] => [c]
  | d :: l => if key c.signal ≤ key d.signal then c :: d :: l else d :: insertByKey key c l

/-- Call slots ordered by a key of their signals. -/
def sortByKey (key : SignalId → Nat) : List CallSlot → List CallSlot
  | [] => []
  | c :: l => insertByKey key c (sortByKey key l)

/-- The slots a queue gained at its tail put in the order of a key; the first `n` slots keep their places. -/
def reorderTail (key : SignalId → Nat) (n : Nat) (l : List CallSlot) : List CallSlot :=
  l.take n ++ sortByKey key (l.drop n)

/-- A port's new call slots put in the order of a key. -/
def reorderNew (key : SignalId → Nat) (before : State) (p : PortId) (s : State) : State :=
  s.setPort p { s.port p with
    callQueue := reorderTail key (before.port p).callQueue.length (s.port p).callQueue }

/-- The signals a report touched evaluate, once each (R37). The order in which their new call slots stand in a port's
queue is free (assumption 2). -/
def evaluateTouched (touched : List SignalId) (s : State) : State :=
  let key := Config.slotOrderKey s.freeCount
  let s1 := evaluateAll (allSignals.filter fun k => touched.contains k) s
  let s2 := reorderNew key s .east (reorderNew key s .west s1)
  { s2 with freeCount := s.freeCount + 1 }

/-! ## The requests of one report (R29 to R34) -/

/-- The in-use zone of a direction whose span contains a position (R30). -/
def zoneAt (t : TableStore) (d : Direction) (position : Half) : Option ZoneEntry :=
  ((List.finRange 64).find? fun i =>
    flagSet t.zone[i].inUse && directionOf t.zone[i].direction == some d &&
      t.zone[i].contains position).map fun i => t.zone[i]

/-- The slots of a bus's records. -/
def slotsOf (bus : Half) (s : State) : List SlotId :=
  (s.records.filter fun x => x.2.bus == bus).map Prod.fst

/-- The slots of a bus's records that it has passed, each by its own signal and direction (R33). -/
def passedSlots (t : TakenReport) (s : State) : List SlotId :=
  (s.records.filter fun x =>
    x.2.bus == t.bus &&
      decide (distance (s.signalEntry x.2.signal) x.2.direction t.position < 0)).map Prod.fst

/-- The signals of the records in some slots. -/
def signalsOf (l : List SlotId) (s : State) : List SignalId :=
  l.filterMap fun i => (s.record i).map fun r => r.signal

/-- The records in some slots close, with the signals this touches. -/
def closeTouching (l : List SlotId) (reason : ClosureReason) (s : State) : State × List SignalId :=
  (closeAll l reason s, signalsOf l s)

/-- The closure or check-in asked for inside a zone for a signal (R31, R32). -/
def inZone (t : TakenReport) (z : ZoneEntry) (k : SignalId) (route : Fin 32) (s : State) : State × List SignalId :=
  if z.kind = 1 then
    match s.findRecord t.bus k with
    | none => (s, [])
    | some (i, _) => closeTouching [i] .checkedOut s
  else if (s.ctx k).state.admits then checkIn t k z route s
  else (s, [])

/-- The closures or the check-in of a report without CANCEL (R30 to R33). -/
def matchZone (t : TakenReport) (route : Fin 32) (s : State) : State × List SignalId :=
  match zoneAt s.tables t.heading t.position with
  | none => closeTouching (passedSlots t s) .inferredOut s
  | some z =>
    match indexBelow 16 z.signal.toNat with
    | none => (s, [])
    | some k => inZone t z k route s

/-- The whole of a report's requests (R29 to R34), and then the evaluations (R37). -/
def actOnReport (t : TakenReport) (route : Fin 32) (s : State) : State :=
  if t.cancel then
    let x := closeTouching (slotsOf t.bus s) .canceled s
    evaluateTouched x.2 x.1
  else
    let x := matchZone t route s
    let y := updateRecords t x.1
    evaluateTouched (x.2 ++ y.2) y.1

/-- The approach locator takes a bus report: only in mode ACTIVE (R25), unless R26 or R28 ignores it. -/
def takeBusReport (r : BusReport) (s : State) : State :=
  if s.mode = .active then
    match taken r with
    | none => s
    | some t =>
      match resolveRoute s.tables t.route with
      | none => s
      | some route => actOnReport t route s
  else s

/-! ## Meanings -/

/-- BUS_REPORT. -/
def execBusReport (p : PortId) (r : BusReport) (s : State) : Host.Outcome State Fault Refusal :=
  .next (onHandOver p (takeBusReport r) s)

end Sys2Proof.Machine
end

