-- ==== Sys2Proof/Machine/Requests.lean ====
section
/-! DEFINITION. Sys2Proof/Machine/Requests.lean: how a management request meets its reply slot and is answered (R12,
R17, R174), and the codes replies are written with (R184, R186). -/

namespace Sys2Proof.Machine

/-! ## Answers -/

/-- The reason codes of a REFUSE (R174). -/
inductive RefusalReason where
  | badKind | badLength | badValue | alreadyOpen | notOpen | incomplete | count | checkFailed
deriving DecidableEq, Repr

/-- The codes of the refusal reasons (R184). -/
def RefusalReason.code : RefusalReason → Byte
  | .badKind => 1
  | .badLength => 2
  | .badValue => 3
  | .alreadyOpen => 4
  | .notOpen => 5
  | .incomplete => 6
  | .count => 7
  | .checkFailed => 8

/-- What a request is answered: ACCEPT or REFUSE, and the reply payload. -/
structure Answer where
  accept : Bool
  payload : List Byte
deriving DecidableEq, Repr

/-- An ACCEPT: the request's KIND echoed, then the data given with the request (R174). -/
def acceptWith (kind : Byte) (data : List Byte) : Answer := { accept := true, payload := kind :: data }

/-- A REFUSE: the request's KIND echoed, then the reason code (R174). -/
def refuseWith (kind : Byte) (reason : RefusalReason) : Answer :=
  { accept := false, payload := [kind, reason.code] }

/-- A REFUSE with CHECK_FAILED: the failing table and entry index follow (R174, R186). -/
def refuseCheck (kind : Byte) (id : TableId) (index : Nat) : Answer :=
  { accept := false, payload := [kind, RefusalReason.checkFailed.code, id.code, byteOf index] }

/-- A reply placed in the reply slot of the request's arrival port (R17). -/
def placeReply (p : PortId) (src : Byte) (a : Answer) (s : State) : State :=
  s.setPort p { s.port p with reply := some { dest := src, accept := a.accept, payload := a.payload } }

/-- A consumed management request: dropped when the reply slot of its arrival port is occupied, acted on and answered
otherwise (R12). The answer is placed after the request's effects. -/
def answerRequest (p : PortId) (src : Byte) (act : State → State × Answer) (s : State) : State :=
  if (s.port p).reply.isSome then s
  else placeReply p src (act s).2 (act s).1

/-- A request whose LEN must be the one its kind requires (R174 step 2, R183). -/
def needLength (kind : Byte) (n : Nat) (payload : List Byte) (act : State → State × Answer) (s : State) :
    State × Answer :=
  if payload.length = n then act s else (s, refuseWith kind .badLength)

/-- A request arriving on a port, as one event (R12). -/
def requestEvent (p : PortId) (src : Byte) (act : State → State × Answer) (s : State) : State :=
  onHandOver p (answerRequest p src act) s

/-! ## Codes (R184) -/

/-- The codes of a port state. -/
def PortState.code : PortState → Byte
  | .learning => 0
  | .running => 1

/-- The codes of a rate, 0 for none. -/
def rateCode : Option Rate → Byte
  | none => 0
  | some .r19200 => 1
  | some .r38400 => 2
  | some .r57600 => 3
  | some .r115200 => 4

/-- The codes of a validity. -/
def Validity.code : Validity → Byte
  | .invalid => 0
  | .valid => 1
  | .reloading => 2

/-- The codes of the corridor mode. -/
def CorridorMode.code : CorridorMode → Byte
  | .unconfigured => 0
  | .loading => 1
  | .active => 2

/-- The codes of a service state. -/
def ServiceState.code : ServiceState → Byte
  | .unconfigured => 0
  | .suspended => 1
  | .disabled => 2
  | .noStatus => 3
  | .inhibited => 4
  | .lockout => 5
  | .ready => 6

/-- The codes of freshness. -/
def Freshness.code : Freshness → Byte
  | .never => 0
  | .fresh _ => 1
  | .stale => 2

/-- The codes of the service in effect. -/
def ServiceInEffect.code : ServiceInEffect → Byte
  | .noService => 0
  | .extending => 1
  | .early => 2
  | .unknown => 3

/-- The codes of the plan in effect (R186). -/
def PlanId.code : PlanId → Byte
  | .a => 0
  | .b => 1

/-- The codes of a record state. -/
def RecordState.code : RecordState → Byte
  | .projected => 0
  | .armed => 1
  | .waiting => 2
  | .holding => 3

/-- The codes of a DEFER with its reason. -/
def DeferReason.code : DeferReason → Byte
  | .outOfReach => 2
  | .budget => 3
  | .lockout => 4
  | .disabled => 5
  | .noStatus => 6
  | .inhibited => 7

/-- The codes of an outcome, 0 when absent. -/
def outcomeCode : Option ServiceOutcome → Byte
  | none => 0
  | some .clear => 1
  | some (.defer r) => r.code
  | some (.extend n) => byteOf (64 + n)
  | some (.early n) => byteOf (128 + n)

/-- The codes of a last call, 0 when absent. -/
def lastCallCode : Option (CallAction × Nat) → Byte
  | none => 0
  | some (.extend, n) => byteOf (64 + n)
  | some (.early, n) => byteOf (128 + n)
  | some (.cancel, _) => 0

/-- The codes of a closure reason. -/
def ClosureReason.code : ClosureReason → Byte
  | .checkedOut => 1
  | .inferredOut => 2
  | .canceled => 3
  | .expired => 4
  | .projectionLapsed => 5
  | .displaced => 6
  | .suspended => 7

/-- A 16-bit mask of signals: bit k stands for signal k (R184). -/
def signalMask (f : SignalId → Bool) : Half :=
  BitVec.ofNat 16 (allSignals.foldl (fun n k => if f k then n + 2 ^ k.val else n) 0)

/-- Bytes followed by zeros up to a length (R184). -/
def padTo (n : Nat) (l : List Byte) : List Byte := l ++ List.replicate (n - l.length) 0

end Sys2Proof.Machine
end

