-- ==== Sys2Proof/Machine/Loading.lean ====
section
/-! DEFINITION. Sys2Proof/Machine/Loading.lean: table loading (chapter 9): the load context and its requests, the checks
made at CLOSE, suspension, and the effects of CLOSE and ABANDON. -/

namespace Sys2Proof.Machine

/-! ## Recomputing many signals -/

/-- The service state of each signal is recomputed, in ascending order, with the reports R113 requires. -/
def recomputeAll (l : List SignalId) (s : State) : State := l.foldl (fun t k => recompute k t) s

/-- Each signal's service state is recomputed, and then each signal whose state changed evaluates, in ascending order
(R168 steps 4 and 5, R170 step 5). -/
def recomputeAndEvaluate (s : State) : State :=
  let s1 := recomputeAll allSignals s
  evaluateAll (allSignals.filter fun k => (s1.ctx k).state != (s.ctx k).state) s1

/-- One signal's service state is recomputed, and it evaluates when the state changed (R112). -/
def recomputeOne (k : SignalId) (s : State) : State :=
  let s1 := recompute k s
  if (s1.ctx k).state = (s.ctx k).state then s1 else evaluate k s1

/-! ## Suspension (R116, R163) -/

/-- The signals an open load covers. -/
def State.scope (s : State) : List SignalId := allSignals.filter fun k => s.covered k

/-- A context's values cleared by suspension: S, the lockout count, the holder, the call and its refresh (R116 step
3). -/
def SignalContext.suspendedValues (c : SignalContext) : SignalContext :=
  { c.withoutCall with lockout := 0, spent := 0, holder := none }

/-- The slots of the records at covered signals. -/
def coveredSlots (s : State) : List SlotId :=
  (s.records.filter fun x => s.covered x.2.signal).map Prod.fst

/-- The signals of an open load's scope are suspended (R163). -/
def suspendScope (s : State) : State :=
  let s1 := recomputeAll s.scope s
  let s2 := closeAll (coveredSlots s1) .suspended s1
  let s3 := s.scope.foldl (fun t k => t.setCtx k (t.ctx k).suspendedValues) s2
  evaluateAll s.scope s3

/-! ## TABLE OPEN -/

/-- The range end of a load (R160). -/
def rangeEndOf (id : TableId) (start expected : Nat) : Nat :=
  if expected = 0 then id.entries - 1 else start + expected - 1

/-- The load context a TABLE OPEN creates (R161). -/
def openContext (id : TableId) (start expected : Nat) (p : PortId) : LoadContext :=
  { table := id, start := start, rangeEnd := rangeEndOf id start expected, expected := expected,
    writeIndex := start, written := [], buffer := [], port := p }

/-- The validity of a table after its TABLE OPEN (R159). -/
def openedValidity : Validity → Validity
  | .valid => .reloading
  | .invalid => .invalid
  | .reloading => .reloading

/-- The effects of a TABLE OPEN (R161 step 3). -/
def openLoad (id : TableId) (start expected : Nat) (p : PortId) (s : State) : State :=
  updateMode (suspendScope
    { s with
      load := some (openContext id start expected p)
      validity := s.validity.set id (openedValidity (s.validity.get id)) })

/-- A load of a table is corridor-wide (R162). -/
def TableId.corridorWide : TableId → Bool
  | .global => true
  | .signal => false
  | .plan => false
  | .zone => true
  | .route => true
  | .segment => true

/-- TABLE OPEN (R161). -/
def actTableOpen (p : PortId) (payload : List Byte) (s : State) : State × Answer :=
  needLength 0x65 3 payload (fun s =>
    if s.load.isSome then (s, refuseWith 0x65 .alreadyOpen)
    else
      let start := (byteAt payload 1).toNat
      let expected := (byteAt payload 2).toNat
      match tableOf (byteAt payload 0) with
      | none => (s, refuseWith 0x65 .badValue)
      | some id =>
        if id.entries ≤ start ∨ id.entries < start + expected then (s, refuseWith 0x65 .badValue)
        else
          let l := openContext id start expected p
          (openLoad id start expected p s,
            acceptWith 0x65 ([id.code, byteOf start, byteOf l.rangeEnd] ++ halfBytes (signalMask l.covers) ++
              [flagByte id.corridorWide]))) s

/-! ## TABLE WRITE -/

/-- A call slot of a signal leaves the port it was configured on before a new SIGNAL entry, when the entry no longer
configures it there (R16). -/
def dropMovedCall (k : SignalId) (before : Option PortId) (s : State) : State :=
  match before with
  | none => s
  | some p =>
    if (s.signalEntry k).configuredPort = some p then s else s.setPort p ((s.port p).dropCall k)

/-- A complete entry is stored at an index (R165), with the effects of a changed SIGNAL entry on the call queues (R16)
and of a changed SIGNAL or PLAN entry on its signal's service state (R112). -/
def storeEntry (id : TableId) (i : Nat) (l : List Byte) (s : State) : State :=
  let s1 := { s with tables := s.tables.storeEntry id i l }
  match id with
  | .signal =>
    match indexBelow 16 i with
    | none => s1
    | some k => recomputeOne k (dropMovedCall k (s.signalEntry k).configuredPort s1)
  | .plan =>
    match indexBelow 16 (i / 2) with
    | none => s1
    | some k => recomputeOne k s1
  | .global => s1
  | .zone => s1
  | .route => s1
  | .segment => s1

/-- An index joins a written set, held in rising order without repeats (R160). -/
def insertIndex (i : Nat) : List Nat → List Nat
  | [] => [i]
  | j :: l => if i < j then i :: j :: l else if i = j then j :: l else j :: insertIndex i l

/-- The context after an entry has been taken from its buffer and stored (R164 step 3). -/
def LoadContext.advanced (l : LoadContext) : LoadContext :=
  { l with
    buffer := l.buffer.drop l.table.entrySize
    writeIndex := l.writeIndex + 1
    written := insertIndex l.writeIndex l.written }

/-- Whole entries in the context's buffer are stored, one after another (R164 step 3). `fuel` bounds their number. -/
def assemble : Nat → LoadContext → State → State
  | 0, l, s => { s with load := some l }
  | fuel + 1, l, s =>
    if l.buffer.length < l.table.entrySize then { s with load := some l }
    else
      assemble fuel l.advanced
        (storeEntry l.table l.writeIndex (l.buffer.take l.table.entrySize) { s with load := some l })

/-- A WRITE would reach beyond the range (R164 step 2). -/
def LoadContext.overruns (l : LoadContext) (n : Nat) : Bool :=
  decide ((l.rangeEnd + 1 - l.writeIndex) * l.table.entrySize < l.buffer.length + n)

/-- The load context, when one exists and was opened from a port (R164, R166, R167). -/
def loadFrom (p : PortId) (s : State) : Option LoadContext :=
  match s.load with
  | none => none
  | some l => if l.port = p then some l else none

/-- The counts a WRITE's ACCEPT carries (R164). -/
def writeReply (s : State) : List Byte :=
  match s.load with
  | none => [0, 0, 0]
  | some l => [byteOf l.writeIndex, byteOf l.written.length, byteOf l.buffer.length]

/-- The effects of a WRITE taken (R164 step 3). -/
def appendBytes (l : LoadContext) (payload : List Byte) (s : State) : State :=
  assemble (l.buffer.length + payload.length) { l with buffer := l.buffer ++ payload } s

/-- TABLE WRITE (R164). -/
def actTableWrite (p : PortId) (payload : List Byte) (s : State) : State × Answer :=
  if 56 < payload.length then (s, refuseWith 0x66 .badLength)
  else
    match loadFrom p s with
    | none => (s, refuseWith 0x66 .notOpen)
    | some l =>
      if l.overruns payload.length then (s, refuseWith 0x66 .badValue)
      else
        let s1 := appendBytes l payload s
        (s1, acceptWith 0x66 (writeReply s1))

/-! ## TABLE SEEK -/

/-- TABLE SEEK (R166). -/
def actTableSeek (p : PortId) (payload : List Byte) (s : State) : State × Answer :=
  needLength 0x67 1 payload (fun s =>
    match loadFrom p s with
    | none => (s, refuseWith 0x67 .notOpen)
    | some l =>
      let i := (byteAt payload 0).toNat
      if i < l.start ∨ l.rangeEnd < i then (s, refuseWith 0x67 .badValue)
      else
        ({ s with load := some { l with writeIndex := i, buffer := [] } },
          acceptWith 0x67 [byteOf i, byteOf l.written.length])) s

/-! ## The checks made at CLOSE (R169). Each check answers the first failing entry index. -/

/-- A value lies in a range. -/
def inRange (lo hi n : Nat) : Bool := decide (lo ≤ n) && decide (n ≤ hi)

/-- Row 1. -/
def checkGlobal (t : TableStore) : Option Nat :=
  let g := t.global
  if flagSet g.inUse && inRange 10 100 g.speedFloor.toNat && inRange 10 100 g.statusTimeout.toNat &&
      inRange 10 255 g.holdTime.toNat && inRange 0 63 g.points0.toNat && inRange 0 63 g.points1.toNat &&
      inRange 0 63 g.points2.toNat && inRange 0 63 g.points3.toNat && (parityOf g.parity).isSome &&
      inRange 1 32 g.alertLevel.toNat then none
  else some 0

/-- The first index of a table of n entries whose in-use entry fails a test. -/
def firstFailure (n : Nat) (used ok : Fin n → Bool) : Option Nat :=
  ((List.finRange n).find? fun i => used i && !ok i).map Fin.val

/-- Row 2. -/
def checkSignalRanges (t : TableStore) : Option Nat :=
  firstFailure 16 (fun i => flagSet t.signal[i].inUse) fun i =>
    inRange 1 62 t.signal[i].cabinet.toNat && (portOf t.signal[i].port).isSome &&
      inRange 0 60 t.signal[i].projectionGrace.toNat

/-- Row 3. -/
def checkCabinets (own : Option (BitVec 6)) (t : TableStore) : Option Nat :=
  firstFailure 16 (fun i => flagSet t.signal[i].inUse) fun i =>
    !(own.any fun a => a.zeroExtend 8 == t.signal[i].cabinet) &&
      (List.finRange 16).all fun j =>
        !(decide (j < i) && flagSet t.signal[j].inUse && t.signal[j].cabinet == t.signal[i].cabinet)

/-- A green window's start and length lie in the ranges of row 4. -/
def windowOk (cycle start length : Nat) : Bool :=
  decide (start < cycle) && inRange 50 (cycle - 50) length

/-- The ranges of one PLAN entry in row 4. -/
def PlanEntry.rangesOk (e : PlanEntry) : Bool :=
  inRange 300 2400 e.cycle.toNat && windowOk e.cycle.toNat e.greenStartA.toNat e.greenLengthA.toNat &&
    (flagSet e.shared || windowOk e.cycle.toNat e.greenStartB.toNat e.greenLengthB.toNat) &&
    inRange 0 100 e.margin.toNat && inRange 0 40 e.xmax.toNat && inRange 0 40 e.emax.toNat &&
    inRange 0 60 e.budget.toNat && inRange 0 7 e.lockoutCycles.toNat && inRange 5 120 e.horizon.toNat &&
    decide (10 * e.horizon.toNat ≤ e.cycle.toNat) && inRange 0 3 e.delayCode.toNat &&
    inRange 0 3 e.periodA.toNat && inRange 0 3 e.periodB.toNat && inRange 1 255 e.maxRefreshes.toNat

/-- Row 4. -/
def checkPlanRanges (t : TableStore) : Option Nat :=
  firstFailure 32 (fun i => flagSet t.plan[i].inUse) fun i => t.plan[i].rangesOk

/-- Row 5: reported at the PLAN index signal × 2. -/
def checkPlanA (t : TableStore) : Option Nat :=
  (firstFailure 16 (fun i => flagSet t.signal[i].inUse) fun i =>
    flagSet (t.planEntry i .a).inUse).map fun i => 2 * i

/-- The ranges of one ZONE entry in row 6. -/
def ZoneEntry.rangesOk (e : ZoneEntry) : Bool :=
  (directionOf e.direction).isSome && inRange 1 4095 e.length.toNat &&
    decide (e.start.toNat + e.length.toNat ≤ 65536) && (e.kind == 0 || e.kind == 1) &&
    inRange 0 15 e.signal.toNat && inRange 20 300 e.nominalSpeed.toNat && inRange 0 600 e.stopDwell.toNat

/-- Row 6. -/
def checkZoneRanges (t : TableStore) : Option Nat :=
  firstFailure 64 (fun i => flagSet t.zone[i].inUse) fun i => t.zone[i].rangesOk

/-- Two zones share a position and a direction (row 7). -/
def ZoneEntry.overlaps (e f : ZoneEntry) : Bool :=
  e.direction == f.direction &&
    decide (max e.start.toNat f.start.toNat <
      min (e.start.toNat + e.length.toNat) (f.start.toNat + f.length.toNat))

/-- Row 7. -/
def checkZoneOverlaps (t : TableStore) : Option Nat :=
  firstFailure 64 (fun i => flagSet t.zone[i].inUse) fun i =>
    (List.finRange 64).all fun j =>
      !(decide (j < i) && flagSet t.zone[j].inUse && t.zone[j].overlaps t.zone[i])

/-- A zone lies on the side of its signal's stop bar that its kind and direction give (R24). -/
def placedRight (e : ZoneEntry) (g : SignalEntry) : Bool :=
  match directionOf e.direction with
  | none => false
  | some .a =>
    if e.kind = 0 then decide (e.start.toNat + e.length.toNat ≤ g.stopBarA.toNat)
    else decide (g.stopBarA.toNat ≤ e.start.toNat)
  | some .b =>
    if e.kind = 0 then decide (g.stopBarB.toNat < e.start.toNat)
    else decide (e.start.toNat + e.length.toNat ≤ g.stopBarB.toNat + 1)

/-- Row 8. -/
def checkZonePlacement (t : TableStore) : Option Nat :=
  firstFailure 64 (fun i => flagSet t.zone[i].inUse) fun i =>
    match indexBelow 16 t.zone[i].signal.toNat with
    | none => false
    | some k => flagSet t.signal[k].inUse && placedRight t.zone[i] t.signal[k]

/-- A head segment code: a segment or NONE (row 9). -/
def headOk (b : Byte) : Bool := decide (b.toNat < 128) || b == 0xFF

/-- Row 9. -/
def checkRoutes (t : TableStore) : Option Nat :=
  firstFailure 32 (fun i => flagSet t.route[i].inUse) fun i =>
    inRange 0 9999 t.route[i].number.toNat && inRange 0 63 t.route[i].baseScore.toNat &&
      decide (-120 ≤ t.route[i].latenessOffset.toInt) && decide (t.route[i].latenessOffset.toInt ≤ 120) &&
      inRange 0 600 t.route[i].earlyCutoff.toNat && headOk t.route[i].head &&
      (List.finRange 32).all fun j =>
        !(decide (j < i) && flagSet t.route[j].inUse && t.route[j].number == t.route[i].number)

/-- Row 10. -/
def checkSegments (t : TableStore) : Option Nat :=
  firstFailure 128 (fun i => flagSet t.segment[i].inUse) fun i =>
    inRange 0 15 t.segment[i].signal.toNat && (directionOf t.segment[i].direction).isSome &&
      inRange 0 6000 t.segment[i].travel.toNat && inRange 0 600 t.segment[i].dwell.toNat &&
      (flagSet t.segment[i].ends || decide (t.segment[i].next.toNat < 128))

/-- A walk visits in-use segments only, none twice, and ends at a segment with END set (row 11). -/
def walkOk (t : TableStore) (l : List (Fin 128)) : Bool :=
  l.all (fun i => flagSet t.segment[i].inUse) && decide l.Nodup &&
    match l.getLast? with
    | none => false
    | some i => flagSet t.segment[i].ends

/-- Row 11: a route whose head is NONE passes. -/
def checkWalks (t : TableStore) : Option Nat :=
  firstFailure 32 (fun i => flagSet t.route[i].inUse && t.route[i].head != 0xFF) fun i =>
    walkOk t (chain t t.route[i])

/-- One row of R169: the tables it concerns, the table it reports, and its result. -/
structure CheckRow where
  tables : List TableId
  reported : TableId
  failure : Option Nat
deriving DecidableEq, Repr

/-- The rows of R169 in their order, on the contents as stored. -/
def checkRows (own : Option (BitVec 6)) (t : TableStore) : List CheckRow :=
  [{ tables := [.global], reported := .global, failure := checkGlobal t },
   { tables := [.signal], reported := .signal, failure := checkSignalRanges t },
   { tables := [.signal], reported := .signal, failure := checkCabinets own t },
   { tables := [.plan], reported := .plan, failure := checkPlanRanges t },
   { tables := [.signal, .plan], reported := .plan, failure := checkPlanA t },
   { tables := [.zone], reported := .zone, failure := checkZoneRanges t },
   { tables := [.zone], reported := .zone, failure := checkZoneOverlaps t },
   { tables := [.zone, .signal], reported := .zone, failure := checkZonePlacement t },
   { tables := [.route], reported := .route, failure := checkRoutes t },
   { tables := [.segment], reported := .segment, failure := checkSegments t },
   { tables := [.route, .segment], reported := .route, failure := checkWalks t }]

/-- A row is made at the CLOSE of a table it concerns when every other table it concerns is VALID (section 9.5). -/
def CheckRow.applies (r : CheckRow) (closing : TableId) (v : Validities) : Bool :=
  r.tables.contains closing && r.tables.all fun id => id == closing || v.get id == .valid

/-- The first failing check at the CLOSE of a table: its table and entry index. -/
def firstFailedCheck (closing : TableId) (s : State) : Option (TableId × Nat) :=
  (checkRows s.ownAddress s.tables).findSome? fun r =>
    if r.applies closing s.validity then r.failure.map fun i => (r.reported, i) else none

/-! ## TABLE CLOSE -/

/-- The effects of a successful CLOSE (R168): validity and context, parity for GLOBAL (R2), mode, service states and
evaluations. -/
def closeLoad (id : TableId) (s : State) : State :=
  let parity := if id = .global then (parityOf s.tables.global.parity).getD s.parity else s.parity
  recomputeAndEvaluate (updateMode
    { setParity parity s with load := none, validity := s.validity.set id .valid })

/-- TABLE CLOSE (R167). -/
def actTableClose (p : PortId) (payload : List Byte) (s : State) : State × Answer :=
  needLength 0x68 0 payload (fun s =>
    match loadFrom p s with
    | none => (s, refuseWith 0x68 .notOpen)
    | some l =>
      if l.buffer ≠ [] then (s, refuseWith 0x68 .incomplete)
      else if 0 < l.expected ∧ l.written.length ≠ l.expected then (s, refuseWith 0x68 .count)
      else
        match firstFailedCheck l.table s with
        | some (id, i) => (s, refuseCheck 0x68 id i)
        | none => (closeLoad l.table s, acceptWith 0x68 [l.table.code, Validity.valid.code])) s

/-! ## TABLE ABANDON -/

/-- Steps 1 to 4 of an abandonment (R170): the context ends, the table becomes INVALID, the parity becomes NONE for
GLOBAL (R2), and the mode is recomputed. -/
def abandonLoad (id : TableId) (s : State) : State :=
  let parity := if id = .global then .noParity else s.parity
  updateMode { setParity parity s with load := none, validity := s.validity.set id .invalid }

/-- TABLE ABANDON (R170). -/
def actTableAbandon (payload : List Byte) (s : State) : State × Answer :=
  needLength 0x69 0 payload (fun s =>
    match s.load with
    | none => (s, refuseWith 0x69 .notOpen)
    | some l =>
      (recomputeAndEvaluate (abandonLoad l.table s),
        acceptWith 0x69 [l.table.code, Validity.invalid.code])) s

/-! ## TABLE READ -/

/-- The bytes of a reply payload left for entries after a READ's header (R188). -/
def readRoom : Nat := 51

/-- The number of entries a READ returns (R171, R188). -/
def readCount (id : TableId) (first count : Nat) : Nat :=
  min count (min (id.entries - first) (readRoom / id.entrySize))

/-- The entries a READ returns, in ascending order of index (R171). -/
def readEntries (t : TableStore) (id : TableId) (first : Nat) (n : Nat) : List Byte :=
  (List.range n).flatMap fun i => t.entryBytes id (first + i)

/-- TABLE READ (R171). -/
def actTableRead (payload : List Byte) (s : State) : State × Answer :=
  needLength 0x6A 3 payload (fun s =>
    let first := (byteAt payload 1).toNat
    let count := (byteAt payload 2).toNat
    match tableOf (byteAt payload 0) with
    | none => (s, refuseWith 0x6A .badValue)
    | some id =>
      if id.entries ≤ first ∨ count = 0 ∨ 128 < count then (s, refuseWith 0x6A .badValue)
      else
        (s, acceptWith 0x6A ([id.code, byteOf first, (s.validity.get id).code,
          byteOf (readCount id first count)] ++ readEntries s.tables id first (readCount id first count)))) s

/-! ## Meanings -/

/-- TABLE_OPEN. -/
def execTableOpen (p : PortId) (src : Byte) (payload : List Byte) (s : State) :
    Host.Outcome State Fault Refusal :=
  .next (requestEvent p src (actTableOpen p payload) s)

/-- TABLE_WRITE. -/
def execTableWrite (p : PortId) (src : Byte) (payload : List Byte) (s : State) :
    Host.Outcome State Fault Refusal :=
  .next (requestEvent p src (actTableWrite p payload) s)

/-- TABLE_SEEK. -/
def execTableSeek (p : PortId) (src : Byte) (payload : List Byte) (s : State) :
    Host.Outcome State Fault Refusal :=
  .next (requestEvent p src (actTableSeek p payload) s)

/-- TABLE_CLOSE. -/
def execTableClose (p : PortId) (src : Byte) (payload : List Byte) (s : State) :
    Host.Outcome State Fault Refusal :=
  .next (requestEvent p src (actTableClose p payload) s)

/-- TABLE_ABANDON. -/
def execTableAbandon (p : PortId) (src : Byte) (payload : List Byte) (s : State) :
    Host.Outcome State Fault Refusal :=
  .next (requestEvent p src (actTableAbandon payload) s)

/-- TABLE_READ. -/
def execTableRead (p : PortId) (src : Byte) (payload : List Byte) (s : State) :
    Host.Outcome State Fault Refusal :=
  .next (requestEvent p src (actTableRead payload) s)

end Sys2Proof.Machine
end

