-- ==== Sys2Proof/Machine/Management.lean ====
section
/-! DEFINITION. Sys2Proof/Machine/Management.lean: the queries, READ REPORTS and CONTROL (chapter 10), with the layouts
of their replies (R186), and the values CORRIDOR RESET leaves (R179). -/

namespace Sys2Proof.Machine

/-! ## QUERY STATUS (R175) -/

/-- A port's part of the QUERY STATUS reply (R186). -/
def portSummary (q : Port) : List Byte :=
  [q.state.code, rateCode q.rate] ++ halfBytes (BitVec.ofNat 16 q.badFrames) ++
    halfBytes (BitVec.ofNat 16 q.repeatDrops)

/-- The QUERY STATUS data (R175, R186). -/
def statusData (s : State) : List Byte :=
  timeBytes s.clock ++ [s.mode.code, flagByte s.observe] ++ portSummary s.west ++ portSummary s.east ++
    [s.validity.global.code, s.validity.signal.code, s.validity.plan.code, s.validity.zone.code,
      s.validity.route.code, s.validity.segment.code] ++
    [optByte (fun l => TableId.code l.table) s.load, optByte (fun l => portCode l.port) s.load] ++
    halfBytes (signalMask s.isDisabled) ++ [byteOf s.records.length, byteOf s.reports.length]

/-- QUERY STATUS (R175). -/
def actQueryStatus (payload : List Byte) (s : State) : State × Answer :=
  needLength 0x60 0 payload (fun s => (s, acceptWith 0x60 (statusData s))) s

/-! ## QUERY SIGNAL (R118, R176) -/

/-- The remaining time to a freshness expiry, 0 unless FRESH (R186). -/
def freshnessLeft (now : Time) : Freshness → Nat
  | .fresh t => remaining now t
  | .never => 0
  | .stale => 0

/-- The cycle estimate's two bytes, 0xFFFF when absent (R184, R186). -/
def estimateBytes : Option Nat → List Byte
  | none => [0xFF, 0xFF]
  | some c => halfBytes (BitVec.ofNat 16 c)

/-- The holder's last outcome and partial flag, absent and clear without a holder (R118, R136). -/
def holderBytes : Option (SlotId × RequestRecord) → List Byte
  | none => [outcomeCode none, 0]
  | some x => [outcomeCode x.2.lastOutcome, flagByte x.2.partialFlag]

/-- The call content's nine bytes, 0 when no call is in force (R186). -/
def callBytes : Option CallContent → List Byte
  | none => List.replicate 9 0
  | some c => c.bytes

/-- The QUERY SIGNAL data (R118, R186). -/
def signalData (k : SignalId) (s : State) : List Byte :=
  let c := s.ctx k
  timeBytes s.clock ++
    [byteOf k.val, c.state.code, c.freshness.code, byteOf (freshnessLeft s.clock c.freshness), c.plan.code] ++
    estimateBytes (cycleEstimate k s) ++
    [flagByte c.accepting, c.service.code, byteOf c.lockout, byteOf c.spent, flagByte (s.isDisabled k),
      optByte (fun i => byteOf i.val) c.holder] ++
    holderBytes (s.holderOf k) ++ [flagByte c.call.isSome] ++ callBytes c.call ++ [byteOf c.refreshCount]

/-- QUERY SIGNAL (R176). -/
def actQuerySignal (payload : List Byte) (s : State) : State × Answer :=
  needLength 0x61 1 payload (fun s =>
    match indexBelow 16 (byteAt payload 0).toNat with
    | none => (s, refuseWith 0x61 .badValue)
    | some k => (s, acceptWith 0x61 (signalData k s))) s

/-! ## QUERY REQUESTS (R177) -/

/-- Signal, state and direction in one byte (R186). -/
def packPlace (k : SignalId) (st : RecordState) (d : Direction) : Byte :=
  byteOf (k.val + 16 * st.code.toNat + 64 * (directionCode d).toNat)

/-- The flag byte of a summary (R186). -/
def summaryFlags (r : RequestRecord) : Byte :=
  byteOf (r.stopPending.toNat + 2 * r.doorsOpen.toNat + 4 * r.lapsed.toNat + 8 * r.served.toNat +
    16 * r.partialFlag.toNat)

/-- The projection expiry of a summary: whole seconds after the arrival time, absent unless PROJECTED (R186). -/
def projectionSeconds (r : RequestRecord) : Byte :=
  optByte (fun t => byteOf ((timeDiff t r.arrival).toNat / 10)) r.projectionExpiry

/-- A request summary (R177, R186). -/
def summary (now : Time) (x : SlotId × RequestRecord) : List Byte :=
  let r := x.2
  [byteOf x.1.val] ++ halfBytes r.bus ++ halfBytes r.routeNumber ++
    [packPlace r.signal r.state r.direction, optByte (fun c => byteOf c.val) r.cursor] ++
    halfBytes (BitVec.ofInt 16 (timeDiff r.arrival now + 4000)) ++
    [projectionSeconds r, byteOf r.score, summaryFlags r, outcomeCode r.lastOutcome, byteOf r.committed,
      byteOf r.refreshCount, lastCallCode r.lastCall]

/-- A signal filter: 255 for ALL, or a signal index (R177, R186). -/
def filterOf (b : Byte) : Option (Option SignalId) :=
  if b = 255 then some none else (indexBelow 16 b.toNat).map some

/-- The records a QUERY REQUESTS takes: from a slot upward, at a signal or all, up to three (R177). -/
def scanned (filter : Option SignalId) (first : Nat) (s : State) : List (SlotId × RequestRecord) :=
  (s.records.filter fun x =>
    decide (first ≤ x.1.val) && (filter.isNone || filter == some x.2.signal)).take 3

/-- QUERY REQUESTS (R177). -/
def actQueryRequests (payload : List Byte) (s : State) : State × Answer :=
  needLength 0x62 2 payload (fun s =>
    match filterOf (byteAt payload 0), indexBelow 40 (byteAt payload 1).toNat with
    | some f, some i =>
      (s, acceptWith 0x62 (timeBytes s.clock ++ (scanned f i.val s).flatMap (summary s.clock)))
    | _, _ => (s, refuseWith 0x62 .badValue)) s

/-! ## READ REPORTS (R181) -/

/-- The service part of a report record (R186). -/
def servicePartBytes : Option ServicePart → List Byte
  | none => [0, 0, 0]
  | some p => [lastCallCode (some (p.action, p.amount)), byteOf p.refreshCount, flagByte p.served]

/-- The kind and the fields of a report record from offset 5 (R186). -/
def ReportBody.kindAndFields : ReportBody → Byte × List Byte
  | .requestClosed i bus route k d st reason score sp =>
    (1, [byteOf i.val] ++ halfBytes bus ++ halfBytes route ++
      [packPlace k st d, reason.code, byteOf score] ++ servicePartBytes sp)
  | .tableFull bus route k d score lowest =>
    (2, halfBytes bus ++ halfBytes route ++ [byteOf k.val, directionCode d, byteOf score, byteOf lowest])
  | .signalState k old new => (3, [byteOf k.val, old.code, new.code])
  | .link p st rate bad =>
    (4, [portCode p, st.code, rateCode rate] ++ halfBytes (BitVec.ofNat 16 bad))
  | .ready p rate => (5, [portCode p, rateCode (some rate)])
  | .overrun n => (6, [byteOf n])

/-- A report record's 16 bytes (R186). -/
def Report.bytes (r : Report) : List Byte :=
  padTo 16 ([r.body.kindAndFields.1] ++ timeBytes r.time ++ r.body.kindAndFields.2)

/-- READ REPORTS (R181). -/
def actReadReports (payload : List Byte) (s : State) : State × Answer :=
  needLength 0x63 1 payload (fun s =>
    let n := (byteAt payload 0).toNat
    if n = 0 ∨ 3 < n then (s, refuseWith 0x63 .badValue)
    else
      let s1 := s.setReports (s.reports.drop n)
      (s1, acceptWith 0x63 (byteOf s1.reports.length :: (s.reports.take n).flatMap Report.bytes))) s

/-! ## CONTROL (R178) -/

/-- The flag and evaluation effects of a DISABLE or ENABLE that changes the flag (R114). -/
def writeDisable (k : SignalId) (b : Bool) (s : State) : State :=
  evaluate k (recompute k (s.setDisabled k b))

/-- CONTROL DISABLE (`b` true, code 1) or ENABLE (`b` false, code 2) of a signal (R178). -/
def actDisable (code : Byte) (b : Bool) (signal : Byte) (s : State) : State × Answer :=
  match indexBelow 16 signal.toNat with
  | none => (s, refuseWith 0x64 .badValue)
  | some k =>
    (if s.isDisabled k = b then s else writeDisable k b s,
      acceptWith 0x64 [code, signal, flagByte b])

/-- The CANCELs that the setting of OBSERVE generates, in ascending order of signal index (R115). -/
def cancelAll (s : State) : State := allSignals.foldl (fun t k => generateCancel k t) s

/-- CONTROL OBSERVE ON (R115, R178). -/
def actObserveOn (s : State) : State × Answer :=
  (if s.observe then s else evaluateAll allSignals { cancelAll s with observe := true },
    acceptWith 0x64 [3, 0, 1])

/-- CONTROL OBSERVE OFF (R115, R178). -/
def actObserveOff (s : State) : State × Answer :=
  (if s.observe then evaluateAll allSignals { s with observe := false } else s,
    acceptWith 0x64 [4, 0, 0])

/-- An open load is abandoned by CORRIDOR RESET (R170, R179 step 1). -/
def abandonOpenLoad (s : State) : State :=
  match s.load with
  | none => s
  | some l => abandonLoad l.table s

/-- A port without its calls (R21). -/
def Port.withoutCalls (q : Port) : Port := { q with callQueue := [] }

/-- The effects of CORRIDOR RESET (R179): the load abandoned, the request table emptied (R81), the contexts at their
values with the states recomputed silently (R117), the call queues and the report queue emptied. ALERT follows at the
event's end. -/
def corridorReset (s : State) : State :=
  let s1 := abandonOpenLoad s
  let s2 := { s1 with slots := Vector.replicate 40 none, ctxs := Vector.replicate 16 SignalContext.reset }
  let s3 := allSignals.foldl (fun t k => recomputeSilently k t) s2
  { s3 with west := s3.west.withoutCalls, east := s3.east.withoutCalls, reports := [] }

/-- CONTROL CORRIDOR RESET (R178, R179). -/
def actCorridorReset (s : State) : State × Answer :=
  (corridorReset s, acceptWith 0x64 [5, 0, (corridorReset s).mode.code])

/-- A CONTROL request with its whole payload (R174, R178; assumption 15). -/
def actControl (payload : List Byte) (s : State) : State × Answer :=
  needLength 0x64 2 payload (fun s =>
    let code := byteAt payload 0
    if code = 1 then actDisable 1 true (byteAt payload 1) s
    else if code = 2 then actDisable 2 false (byteAt payload 1) s
    else if code = 3 then actObserveOn s
    else if code = 4 then actObserveOff s
    else if code = 5 then actCorridorReset s
    else (s, refuseWith 0x64 .badValue)) s

/-! ## Meanings -/

/-- QUERY_STATUS. -/
def execQueryStatus (p : PortId) (src : Byte) (payload : List Byte) (s : State) :
    Host.Outcome State Fault Refusal :=
  .next (requestEvent p src (actQueryStatus payload) s)

/-- QUERY_SIGNAL. -/
def execQuerySignal (p : PortId) (src : Byte) (payload : List Byte) (s : State) :
    Host.Outcome State Fault Refusal :=
  .next (requestEvent p src (actQuerySignal payload) s)

/-- QUERY_REQUESTS. -/
def execQueryRequests (p : PortId) (src : Byte) (payload : List Byte) (s : State) :
    Host.Outcome State Fault Refusal :=
  .next (requestEvent p src (actQueryRequests payload) s)

/-- READ_REPORTS. -/
def execReadReports (p : PortId) (src : Byte) (payload : List Byte) (s : State) :
    Host.Outcome State Fault Refusal :=
  .next (requestEvent p src (actReadReports payload) s)

/-- DISABLE. -/
def execDisable (p : PortId) (src signal : Byte) (s : State) : Host.Outcome State Fault Refusal :=
  .next (requestEvent p src (actDisable 1 true signal) s)

/-- ENABLE. -/
def execEnable (p : PortId) (src signal : Byte) (s : State) : Host.Outcome State Fault Refusal :=
  .next (requestEvent p src (actDisable 2 false signal) s)

/-- OBSERVE_ON. -/
def execObserveOn (p : PortId) (src : Byte) (s : State) : Host.Outcome State Fault Refusal :=
  .next (requestEvent p src actObserveOn s)

/-- OBSERVE_OFF. -/
def execObserveOff (p : PortId) (src : Byte) (s : State) : Host.Outcome State Fault Refusal :=
  .next (requestEvent p src actObserveOff s)

/-- CORRIDOR_RESET. -/
def execCorridorReset (p : PortId) (src : Byte) (s : State) : Host.Outcome State Fault Refusal :=
  .next (requestEvent p src actCorridorReset s)

/-- CONTROL. -/
def execControl (p : PortId) (src : Byte) (payload : List Byte) (s : State) :
    Host.Outcome State Fault Refusal :=
  .next (requestEvent p src (actControl payload) s)

end Sys2Proof.Machine
end

