-- ==== Sys2Proof/Machine/Link.lean ====
section
/-! DEFINITION. Sys2Proof/Machine/Link.lean: the corridor link (chapter 1): power-on and RESETn, rate learning, the
ending gap and dispatch of a frame, and the end of a transmit gap. -/

namespace Sys2Proof.Machine

/-! ## Power-on and RESETn (R9, R20) -/

/-- The own address a strap value gives: none for 0 and 63 (R9). -/
def addressOf (straps : BitVec 6) : Option (BitVec 6) :=
  if straps = 0 ∨ straps = 63 then none else some straps

/-- Every value at its reset value, the own address as it was last taken (R20, R74, R81, R117, R157, R159, R160, R172,
R180, R182). The queue of commands, the RESETn pin and the count of free choices are not the part's own. -/
def resetValues (s : State) : State :=
  { s with
    clock := 0, parity := .noParity, west := .reset, east := .reset, tables := .reset,
    validity := .reset, load := none, mode := .unconfigured, slots := Vector.replicate 40 none,
    ctxs := Vector.replicate 16 .reset, disabled := Vector.replicate 16 false, observe := false,
    reports := [], alert := true }

/-- Power-on (R20): the own address is read from the straps. The RESETn pin keeps its level (assumption 6). -/
def powerOn (straps : BitVec 6) (s : State) : State :=
  { resetValues s with ownAddress := addressOf straps }

/-- The assertion of RESETn: every value is held at its reset value until the release (R20). -/
def assertReset (s : State) : State := { resetValues s with resetHeld := true }

/-- The release of RESETn: the own address is read and operation begins from the reset values (R20). A release of a
pin that is not asserted is no event (assumption 7). -/
def releaseReset (straps : BitVec 6) (s : State) : State :=
  if s.resetHeld then { resetValues s with resetHeld := false, ownAddress := addressOf straps } else s

/-! ## Rate learning (R3, R4, R5) -/

/-- The port state a port takes on entering RUNNING (R4). -/
def Port.enterRunning (q : Port) (r : Rate) : Port :=
  { q with state := .running, rate := some r, hasRun := true, awaitingIdle := true }

/-- The report of a port's entry to RUNNING: READY the first time, LINK afterwards (R4, R186). -/
def runningReport (p : PortId) (hasRun : Bool) (r : Rate) : ReportBody :=
  if hasRun then .link p .running (some r) 0 else .ready p r

/-- A port learns a rate (R3, R4). -/
def learnRate (p : PortId) (r : Rate) (s : State) : State :=
  writeReport (runningReport p (s.port p).hasRun r) (s.setPort p ((s.port p).enterRunning r))

/-- Characters complete at a LEARNING port's candidate rates (R3). -/
def takeCleanSync (p : PortId) (seen : List (Rate × LineChar)) (s : State) : State :=
  if (s.port p).state = .learning then
    match learnedRate s.parity seen with
    | none => s
    | some r => learnRate p r s
  else s

/-- The consecutive-bad count at which a port relearns (R5). -/
def badLimit : Nat := 8

/-- The values a port takes on its return to LEARNING (R5). -/
def Port.enterLearning (q : Port) : Port :=
  { q with state := .learning, rx := .empty, consecutiveBad := 0, awaitingIdle := false }

/-- A RUNNING port whose consecutive-bad count has reached 8 returns to LEARNING (R5; assumption 14). -/
def returnToLearning (p : PortId) (s : State) : State :=
  if (s.port p).state = .running ∧ badLimit ≤ (s.port p).consecutiveBad then
    writeReport (.link p .learning (s.port p).rate (s.port p).badFrames) (s.setPort p (s.port p).enterLearning)
  else s

/-! ## Dispatch (R10, R11, R12) -/

/-- A consumed management request of a KIND from 0x60 to 0x6F is acted on (R12, R174, R183). -/
def actRequest (p : PortId) (kind : Byte) (payload : List Byte) (s : State) : State × Answer :=
  if kind = 0x60 then actQueryStatus payload s
  else if kind = 0x61 then actQuerySignal payload s
  else if kind = 0x62 then actQueryRequests payload s
  else if kind = 0x63 then actReadReports payload s
  else if kind = 0x64 then actControl payload s
  else if kind = 0x65 then actTableOpen p payload s
  else if kind = 0x66 then actTableWrite p payload s
  else if kind = 0x67 then actTableSeek p payload s
  else if kind = 0x68 then actTableClose p payload s
  else if kind = 0x69 then actTableAbandon payload s
  else if kind = 0x6A then actTableRead payload s
  else (s, refuseWith kind .badKind)

/-- How an accepted frame is handled (R10). -/
inductive Handling where
  | repeated | readAndRepeated | consumed
deriving DecidableEq, Repr

/-- A management request kind, 0x60 to 0x6F. -/
def isRequestKind (kind : Byte) : Bool := decide (0x60 ≤ kind.toNat) && decide (kind.toNat ≤ 0x6F)

/-- The table of R10, for a part with an own address; `own` says that DEST equals it. -/
def handling (kind : Byte) (own : Bool) : Handling :=
  if kind = 0x21 then (if own then .consumed else .readAndRepeated)
  else if kind = 0x31 then .readAndRepeated
  else if isRequestKind kind && own then .consumed
  else .repeated

/-- The block a frame is handed to acts on it (R10, R11, R12). -/
def handToBlock (p : PortId) (f : Frame) (s : State) : State :=
  if f.kind = 0x21 then
    if f.payload.length = 13 then takeBusReport (busReportOf f.payload) s else s
  else if f.kind = 0x31 then
    if f.payload.length = 5 then handStatus p f.src (signalStatusOf f.payload) s else s
  else answerRequest p f.src (actRequest p f.kind f.payload) s

/-- An accepted frame is dispatched (R9, R10). -/
def dispatchFrame (p : PortId) (f : Frame) (s : State) : State :=
  if s.ownAddress.isNone then repeatFrame p f.raw s
  else
    match handling f.kind (s.isOwn f.dest) with
    | .repeated => repeatFrame p f.raw s
    | .readAndRepeated => handToBlock p f (repeatFrame p f.raw s)
    | .consumed => handToBlock p f s

/-! ## The ending gap (R6, R8) -/

/-- A discarded frame's counts (R8). -/
def Port.countBad (q : Port) : Port :=
  { q with badFrames := countUp q.badFrames, consecutiveBad := q.consecutiveBad + 1 }

/-- The frame in the buffer is judged at its ending gap, and the buffer is emptied (R6, R8). -/
def judgeFrame (p : PortId) (x : RxBuffer) (s : State) : State :=
  let q := { s.port p with rx := .empty, awaitingIdle := false }
  match acceptedFrame x with
  | some f => dispatchFrame p f (s.setPort p { q with consecutiveBad := 0 })
  | none => returnToLearning p (s.setPort p q.countBad)

/-- An ending gap completes on a RUNNING port (R4, R6, R8). The run of characters that the learning character opened is
passed over: its idle period is the one the receiver waits for (R4). A run without a character is no frame (assumption 12). -/
def takeEndingGap (p : PortId) (idleBefore : Bool) (chars : List LineChar) (s : State) : State :=
  let q := s.port p
  if q.state = .learning then s
  else if q.awaitingIdle && !idleBefore then s.setPort p { q with awaitingIdle := false }
  else
    let x := q.rx.pushAll s.parity chars
    if x.bytes = [] then s.setPort p { q with awaitingIdle := false }
    else judgeFrame p x s

/-! ## The end of a transmit gap (R18) -/

/-- The transmitter becomes idle at the end of its gap, when every character of its frame has been sent; the arbiter then
chooses, at the event's end (R18, R19; assumption 16). -/
def takeGapEnd (p : PortId) (s : State) : State := s.setPort p ((s.port p).endFrame s.parity)

/-! ## Meanings -/

/-- POWER_ON. -/
def execPowerOn (straps : BitVec 6) (s : State) : Host.Outcome State Fault Refusal :=
  .next (powerOn straps s)

/-- RESETN_ASSERT. -/
def execResetnAssert (s : State) : Host.Outcome State Fault Refusal :=
  .next (assertReset s)

/-- RESETN_RELEASE. -/
def execResetnRelease (straps : BitVec 6) (s : State) : Host.Outcome State Fault Refusal :=
  .next (releaseReset straps s)

/-- CLEAN_SYNC_LEARNED. -/
def execCleanSyncLearned (p : PortId) (seen : List (Rate × LineChar)) (s : State) :
    Host.Outcome State Fault Refusal :=
  .next (event (takeCleanSync p seen) s)

/-- FRAME_ENDING_GAP. -/
def execFrameEndingGap (p : PortId) (idleBefore : Bool) (chars : List LineChar) (s : State) :
    Host.Outcome State Fault Refusal :=
  .next (event (takeEndingGap p idleBefore chars) s)

/-- RETURN_TO_LEARNING. -/
def execReturnToLearning (p : PortId) (s : State) : Host.Outcome State Fault Refusal :=
  .next (event (returnToLearning p) s)

/-- BAD_KIND. -/
def execBadKind (p : PortId) (src : Byte) (code : Fin 5) (s : State) : Host.Outcome State Fault Refusal :=
  .next (requestEvent p src (fun t => (t, refuseWith (byteOf (0x6B + code.val)) .badKind)) s)

/-- TRANSMIT_GAP_END. -/
def execTransmitGapEnd (p : PortId) (s : State) : Host.Outcome State Fault Refusal :=
  .next (event (takeGapEnd p) s)

end Sys2Proof.Machine
end

