-- ==== Sys2Proof/Machine/Dispatch.lean ====
section
/-! DEFINITION. Sys2Proof/Machine/Dispatch.lean: one arm per command, each one direct call of its meaning. -/

namespace Sys2Proof.Machine

def exec (i : Instr) (s : State) : Host.Outcome State Fault Refusal :=
  match i with
  | .powerOn straps => Sys2Proof.Machine.execPowerOn straps s
  | .resetnAssert => Sys2Proof.Machine.execResetnAssert s
  | .resetnRelease straps => Sys2Proof.Machine.execResetnRelease straps s
  | .cleanSyncLearned p seen => Sys2Proof.Machine.execCleanSyncLearned p seen s
  | .frameEndingGap p idleBefore chars => Sys2Proof.Machine.execFrameEndingGap p idleBefore chars s
  | .returnToLearning p => Sys2Proof.Machine.execReturnToLearning p s
  | .badKind p src code => Sys2Proof.Machine.execBadKind p src code s
  | .busReport p report => Sys2Proof.Machine.execBusReport p report s
  | .signalStatus p src status => Sys2Proof.Machine.execSignalStatus p src status s
  | .freshnessExpiry k => Sys2Proof.Machine.execFreshnessExpiry k s
  | .horizonEntry j => Sys2Proof.Machine.execHorizonEntry j s
  | .ageExpiry j => Sys2Proof.Machine.execAgeExpiry j s
  | .projectionExpiry j => Sys2Proof.Machine.execProjectionExpiry j s
  | .refreshExpiry k => Sys2Proof.Machine.execRefreshExpiry k s
  | .transmitGapEnd p => Sys2Proof.Machine.execTransmitGapEnd p s
  | .queryStatus p src payload => Sys2Proof.Machine.execQueryStatus p src payload s
  | .querySignal p src payload => Sys2Proof.Machine.execQuerySignal p src payload s
  | .queryRequests p src payload => Sys2Proof.Machine.execQueryRequests p src payload s
  | .readReports p src payload => Sys2Proof.Machine.execReadReports p src payload s
  | .disable p src signal => Sys2Proof.Machine.execDisable p src signal s
  | .enable p src signal => Sys2Proof.Machine.execEnable p src signal s
  | .observeOn p src => Sys2Proof.Machine.execObserveOn p src s
  | .observeOff p src => Sys2Proof.Machine.execObserveOff p src s
  | .corridorReset p src => Sys2Proof.Machine.execCorridorReset p src s
  | .tableOpen p src payload => Sys2Proof.Machine.execTableOpen p src payload s
  | .tableWrite p src payload => Sys2Proof.Machine.execTableWrite p src payload s
  | .tableSeek p src payload => Sys2Proof.Machine.execTableSeek p src payload s
  | .tableClose p src payload => Sys2Proof.Machine.execTableClose p src payload s
  | .tableAbandon p src payload => Sys2Proof.Machine.execTableAbandon p src payload s
  | .tableRead p src payload => Sys2Proof.Machine.execTableRead p src payload s
  | .control p src payload => Sys2Proof.Machine.execControl p src payload s

end Sys2Proof.Machine
end

