-- ==== Sys2Proof/Machine/Timers.lean ====
section
/-! DEFINITION. Sys2Proof/Machine/Timers.lean: what the part does when no command waits: it takes a timer that the
corridor clock has reached, or lets the clock run on by one 0.1 s unit (DESIGN CHOICE, assumption 8). -/

namespace Sys2Proof.Machine

/-- The horizon entry of the record in a slot is due (R62). -/
def horizonDue (s : State) (r : RequestRecord) : Bool :=
  r.state == .armed && r.horizonEntry.any (reached s.clock)

/-- A slot holds a record that meets a test. -/
def slotMeets (s : State) (test : State → RequestRecord → Bool) (i : SlotId) : Bool :=
  match s.record i with
  | none => false
  | some r => test s r

/-- The timer events that the current corridor time has reached (R74), each as its command. -/
def dueEvents (s : State) : List Instr :=
  (allSignals.filter (freshnessDue s)).map Instr.freshnessExpiry ++
    (allSlots.filter (slotMeets s horizonDue)).map Instr.horizonEntry ++
    (allSlots.filter (slotMeets s ageDue)).map Instr.ageExpiry ++
    (allSlots.filter (slotMeets s projectionDue)).map Instr.projectionExpiry ++
    (allSignals.filter (refreshDue s)).map Instr.refreshExpiry

/-- The due event taken next: the only one, or a free choice among several (R76, R79, R120; assumption 3). -/
def chooseDue (n : Nat) : List Instr → Option Instr
  | [] => none
  | [c] => some c
  | c :: d :: l => (c :: d :: l)[Config.dueChoice n % (l.length + 2)]?

/-- The corridor clock runs on by one unit (R74). -/
def tick (s : State) : State := { s with clock := s.clock + 1 }

/-- What the part does when no command waits: nothing while RESETn is asserted (R20); otherwise a due timer event, or
one unit of corridor time. -/
def idle (s : State) : Host.Outcome State Fault Refusal :=
  if s.resetHeld then .next s
  else
    match chooseDue s.freeCount (dueEvents s) with
    | none => .next (tick s)
    | some c => exec c { s with freeCount := s.freeCount + 1 }

/-- The state with a command put at the front of its queue. -/
def pushFront (c : Option Instr) (s : State) : State :=
  match c with
  | none => s
  | some i => { s with pending := i :: s.pending }

end Sys2Proof.Machine
end

