-- ==== Sys2Proof/Safety.lean ====
section
/-! DEFINITION. Sys2Proof/Safety.lean: what the manual promises of every state between events, in the terms that claims
use. Each predicate is meant to hold at reset and to be kept by every step. -/

namespace Sys2Proof.Machine

/-! ## The parts a command leaves alone -/

/-- The configuration and the control values: everything but the ports, the records, the contexts, the reports, ALERT and
the count of free choices. -/
structure SameConfig (s t : State) : Prop where
  pending : t.pending = s.pending
  resetHeld : t.resetHeld = s.resetHeld
  clock : t.clock = s.clock
  ownAddress : t.ownAddress = s.ownAddress
  parity : t.parity = s.parity
  tables : t.tables = s.tables
  validity : t.validity = s.validity
  load : t.load = s.load
  mode : t.mode = s.mode
  disabled : t.disabled = s.disabled
  observe : t.observe = s.observe

/-- A port's receiving side: its state, its rates and marks, its assembly and its counts. -/
structure SameReceiver (q r : Port) : Prop where
  state : r.state = q.state
  rate : r.rate = q.rate
  hasRun : r.hasRun = q.hasRun
  awaitingIdle : r.awaitingIdle = q.awaitingIdle
  rx : r.rx = q.rx
  consecutiveBad : r.consecutiveBad = q.consecutiveBad
  badFrames : r.badFrames = q.badFrames
  repeatDrops : r.repeatDrops = q.repeatDrops

/-- Everything of the other signals: their contexts and their records. -/
def SameBeyond (k : SignalId) (s t : State) : Prop :=
  (∀ j : SignalId, j ≠ k → t.ctx j = s.ctx j) ∧
    ∀ (i : SlotId) (r : RequestRecord), r.signal ≠ k → (t.record i = some r ↔ s.record i = some r)

/-- A record without its fields of service (R58): what an evaluation does not write. -/
def RequestRecord.unserved (r : RequestRecord) : RequestRecord :=
  { r with state := .waiting, horizonEntry := none, lapsed := false, lastOutcome := none, partialFlag := false,
           committed := 0, refreshCount := 0, lastCall := none }

/-! ## How commands arrive -/

/-- The port a command's frame has been received on, for the commands that a frame brings. -/
def arrivalPort : Instr → Option PortId
  | .powerOn _ => none
  | .resetnAssert => none
  | .resetnRelease _ => none
  | .cleanSyncLearned _ _ => none
  | .frameEndingGap p _ _ => some p
  | .returnToLearning _ => none
  | .badKind p _ _ => some p
  | .busReport p _ => some p
  | .signalStatus p _ _ => some p
  | .freshnessExpiry _ => none
  | .horizonEntry _ => none
  | .ageExpiry _ => none
  | .projectionExpiry _ => none
  | .refreshExpiry _ => none
  | .transmitGapEnd _ => none
  | .queryStatus p _ _ => some p
  | .querySignal p _ _ => some p
  | .queryRequests p _ _ => some p
  | .readReports p _ _ => some p
  | .disable p _ _ => some p
  | .enable p _ _ => some p
  | .observeOn p _ => some p
  | .observeOff p _ => some p
  | .corridorReset p _ => some p
  | .tableOpen p _ _ => some p
  | .tableWrite p _ _ => some p
  | .tableSeek p _ _ => some p
  | .tableClose p _ _ => some p
  | .tableAbandon p _ _ => some p
  | .tableRead p _ _ => some p
  | .control p _ _ => some p

/-- A management request as it arrives: its port, its SRC, its KIND (R183) and its payload (R186). -/
structure Request where
  port : PortId
  src : Byte
  kind : Byte
  payload : List Byte
deriving DecidableEq, Repr

/-- The management request a command stands for, when it stands for one. -/
def requestOf : Instr → Option Request
  | .powerOn _ => none
  | .resetnAssert => none
  | .resetnRelease _ => none
  | .cleanSyncLearned _ _ => none
  | .frameEndingGap _ _ _ => none
  | .returnToLearning _ => none
  | .badKind p src code => some ⟨p, src, byteOf (0x6B + code.val), []⟩
  | .busReport _ _ => none
  | .signalStatus _ _ _ => none
  | .freshnessExpiry _ => none
  | .horizonEntry _ => none
  | .ageExpiry _ => none
  | .projectionExpiry _ => none
  | .refreshExpiry _ => none
  | .transmitGapEnd _ => none
  | .queryStatus p src l => some ⟨p, src, 0x60, l⟩
  | .querySignal p src l => some ⟨p, src, 0x61, l⟩
  | .queryRequests p src l => some ⟨p, src, 0x62, l⟩
  | .readReports p src l => some ⟨p, src, 0x63, l⟩
  | .disable p src k => some ⟨p, src, 0x64, [1, k]⟩
  | .enable p src k => some ⟨p, src, 0x64, [2, k]⟩
  | .observeOn p src => some ⟨p, src, 0x64, [3, 0]⟩
  | .observeOff p src => some ⟨p, src, 0x64, [4, 0]⟩
  | .corridorReset p src => some ⟨p, src, 0x64, [5, 0]⟩
  | .tableOpen p src l => some ⟨p, src, 0x65, l⟩
  | .tableWrite p src l => some ⟨p, src, 0x66, l⟩
  | .tableSeek p src l => some ⟨p, src, 0x67, l⟩
  | .tableClose p src l => some ⟨p, src, 0x68, l⟩
  | .tableAbandon p src l => some ⟨p, src, 0x69, l⟩
  | .tableRead p src l => some ⟨p, src, 0x6A, l⟩
  | .control p src l => some ⟨p, src, 0x64, l⟩

/-- The LEN that a request's KIND requires, when its LEN is fixed (R183). -/
def requiredLength (kind : Byte) : Option Nat :=
  if kind = 0x60 then some 0
  else if kind = 0x61 then some 1
  else if kind = 0x62 then some 2
  else if kind = 0x63 then some 1
  else if kind = 0x64 then some 2
  else if kind = 0x65 then some 3
  else if kind = 0x67 then some 1
  else if kind = 0x68 then some 0
  else if kind = 0x69 then some 0
  else if kind = 0x6A then some 3
  else none

/-- A timer event is due: its time has been reached by the signed comparison of R74. -/
def Due (s : State) : Instr → Prop
  | .freshnessExpiry k => ∃ t, (s.ctx k).freshness = .fresh t ∧ 0 ≤ timeDiff s.clock t
  | .horizonEntry i =>
    ∃ r t, s.record i = some r ∧ r.state = .armed ∧ r.horizonEntry = some t ∧ 0 ≤ timeDiff s.clock t
  | .ageExpiry i => ∃ r, s.record i = some r ∧ r.state ≠ .projected ∧ 0 ≤ timeDiff s.clock r.ageExpiry
  | .projectionExpiry i =>
    ∃ r t, s.record i = some r ∧ r.state = .projected ∧ r.projectionExpiry = some t ∧ 0 ≤ timeDiff s.clock t
  | .refreshExpiry k => ∃ t, (s.ctx k).refreshTimer = some t ∧ 0 ≤ timeDiff s.clock t
  | _ => False

/-- Frames that arrive on a port are handed to the blocks: RESETn is released, the port is RUNNING (R3) and the part has an
own address (R9). -/
def HandsOn (s : State) (p : PortId) : Prop :=
  s.resetHeld = false ∧ (s.port p).state = .running ∧ s.ownAddress.isSome = true

/-- A request that arrives on a port is acted on: frames are handed on, and the port's reply slot is empty (R12). -/
def Answers (s : State) (p : PortId) : Prop := HandsOn s p ∧ (s.port p).reply = none

/-- A RUNNING port's receiver can begin a frame: nothing is assembled, and the wait for an idle line that follows
learning is over or is ended by the idle period before the frame (R4, R6). -/
def BetweenFrames (idleBefore : Bool) (q : Port) : Prop :=
  q.state = .running ∧ q.rx = .empty ∧ (q.awaitingIdle = true → idleBefore = true)

/-- Characters received without a parity or framing error, with these data bytes (R1, R6). -/
def Carries (parity : Parity) (chars : List LineChar) (bytes : List Byte) : Prop :=
  chars.map LineChar.data = bytes ∧ ∀ c ∈ chars, charError parity c = false

/-! ## The outgoing side of a port -/

/-- What a change of parity does to a port's line: the frame in flight stays, and what its TXD pin has carried is longer by
characters that have begun under the old setting (R2, R19). -/
def SentOn (setting : Parity) (q r : Port) : Prop :=
  r.tx = q.tx ∧ (q.tx = none → r.txd = q.txd) ∧
    ∀ f, q.tx = some f → ∃ n : Nat, r.txd = q.txd ++ ((f.bytes.drop q.txd.length).take n).map (sentBits setting)

/-- A call enters a port's call queue: in the place of its signal's slot when there is one, and at the tail otherwise; the
other slots keep their places, and nothing else of the port changes (R14). -/
def CallPlaced (x : CallSlot) (q r : Port) : Prop :=
  (∀ (a b : List CallSlot) (old : CallSlot), q.callQueue = a ++ old :: b → old.signal = x.signal →
    (∀ d ∈ a ++ b, d.signal ≠ x.signal) → r = { q with callQueue := a ++ x :: b }) ∧
  ((∀ d ∈ q.callQueue, d.signal ≠ x.signal) → r = { q with callQueue := q.callQueue ++ [x] })

/-- A signal's call goes to the port its entry names, with DEST the cabinet of the entry, and the other port stays (R14,
R15). -/
def CallGenerated (k : SignalId) (c : CallContent) (s t : State) : Prop :=
  ∀ p : PortId,
    ((s.signalEntry k).configuredPort = some p →
      CallPlaced ⟨k, (s.signalEntry k).cabinet, c⟩ (s.port p) (t.port p)) ∧
    ((s.signalEntry k).configuredPort ≠ some p → t.port p = s.port p)

/-! ## What a bus report makes of the records -/

/-- A record of origin CHECK_IN stands by its signal's horizon: beyond it ARMED with its horizon entry time, within it
WAITING or HOLDING without one (R59 to R61, R63). -/
def PlacedByHorizon (s : State) (y : RequestRecord) : Prop :=
  (s.horizonUnits y.signal < remaining s.clock y.arrival →
    y.state = .armed ∧ y.horizonEntry = some (y.arrival - BitVec.ofNat 32 (s.horizonUnits y.signal))) ∧
  (remaining s.clock y.arrival ≤ s.horizonUnits y.signal →
    (y.state = .waiting ∨ y.state = .holding) ∧ y.horizonEntry = none)

/-- A record of origin CHECK_IN refreshed by a report: the report's values, the flag changes of R71, the arrival time and
score from them, the age expiry restarted and the state re-examined (R61, R70, R71). -/
def RefreshedBy (t : TakenReport) (s : State) (x y : RequestRecord) : Prop :=
  y.unserved = { x.unserved with
    position := t.position, speed := t.speed, latenessSec := t.latenessSec, occupancy := t.occupancy
    doorsOpen := t.doorsOpen
    stopPending := x.stopPending && !t.doorsOpen
    arrival := arrivalTime s y
    score := baseScore s.tables.global s.tables.route[x.routeIndex] t.latenessSec t.occupancy
    ageExpiry := later s.clock (10 * s.tables.global.holdTime.toNat) } ∧
  y.lapsed = x.lapsed ∧ PlacedByHorizon s y

/-- A record that stands behind a PROJECTED record in its chain: of its bus, not PROJECTED, at the signal and in the
direction of the segment whose next segment is the projected record's cursor (R48). -/
def Precedes (s : State) (x q : RequestRecord) : Prop :=
  ∃ (c g : Fin 128) (j : SlotId), x.cursor = some c ∧ precedingSegment s.tables x.routeIndex c = some g ∧
    s.record j = some q ∧ q.bus = x.bus ∧ q.state ≠ .projected ∧
    s.tables.segment[g].signal.toNat = q.signal.val ∧ directionOf s.tables.segment[g].direction = some q.direction

/-- The arrival beyond a preceding arrival by a segment's travel time and dwell, held to one hour after the report
(R46). -/
def IsChainedArrival (now preceding : Time) (g : SegmentEntry) (a : Time) : Prop :=
  ∀ sum : Time, sum = preceding + BitVec.ofNat 32 (g.travel.toNat + g.dwell.toNat) →
    a = if 36000 < timeDiff sum now then now + 36000 else sum

/-- The projection expiry time: the arrival time plus the projection grace of the record's signal (R47). -/
def graceExpiry (s : State) (q : RequestRecord) : Time :=
  q.arrival + BitVec.ofNat 32 (10 * (s.signalEntry q.signal).projectionGrace.toNat)

/-- The score of a projected record: less the projection penalty of its signal, and never below 0 (R94). -/
def penalisedScore (s : State) (q : RequestRecord) : Nat :=
  baseScore s.tables.global s.tables.route[q.routeIndex] q.latenessSec q.occupancy -
    (s.signalEntry q.signal).projectionPenalty.toNat

/-- A PROJECTED record re-estimated by a report, with `u` the state that the report leaves: its arrival and expiry from
the record behind it, unchanged when there is none, its score recomputed, its flags by R71 and the rest kept (R48). -/
def ReestimatedBy (t : TakenReport) (s u : State) (x y : RequestRecord) : Prop :=
  y.unserved = { x.unserved with
    doorsOpen := t.doorsOpen
    stopPending := x.stopPending && !t.doorsOpen
    arrival := y.arrival
    projectionExpiry := y.projectionExpiry
    score := penalisedScore s x } ∧
  y.lapsed = x.lapsed ∧ y.state = .projected ∧
  (∀ (c : Fin 128) (q : RequestRecord), x.cursor = some c → Precedes u x q →
    IsChainedArrival s.clock q.arrival s.tables.segment[c] y.arrival ∧
      y.projectionExpiry = some (graceExpiry s y)) ∧
  ((∀ q, ¬ Precedes u x q) → y.arrival = x.arrival ∧ y.projectionExpiry = x.projectionExpiry)

/-- What a report that neither closes nor converts a record makes of it, with `u` the state that the report leaves: a
record of its bus and heading is refreshed, a PROJECTED one of its bus re-estimated, and any other keeps all but its
fields of service (R34, R69). -/
def UpdatedBy (t : TakenReport) (s u : State) (x y : RequestRecord) : Prop :=
  (x.bus = t.bus → x.state ≠ .projected → x.direction = t.heading → RefreshedBy t s x y) ∧
  (x.bus = t.bus → x.state = .projected → y.state = .projected → ReestimatedBy t s u x y) ∧
  (x.bus ≠ t.bus ∨ (x.state ≠ .projected ∧ x.direction ≠ t.heading) →
    y.unserved = x.unserved ∧ y.lapsed = x.lapsed)

/-- The conditions of R44, but for the free slot, for a projection from a record to a signal and direction by its
cursor's next segment. -/
def ProjectionOpen (s : State) (x : RequestRecord) (next : Fin 128) (k : SignalId) (d : Direction) : Prop :=
  (∃ c : Fin 128, x.cursor = some c ∧ s.tables.segment[c].ends = 0 ∧
    s.tables.segment[c].next.toNat = next.val) ∧
  s.tables.segment[next].signal.toNat = k.val ∧ directionOf s.tables.segment[next].direction = some d ∧
  (s.signalEntry k).inUse ≠ 0 ∧ (s.signalEntry k).projects d = true ∧
  (s.ctx k).state ≠ .suspended ∧ (s.ctx k).state ≠ .unconfigured ∧
  ∀ (l : SlotId) (y : RequestRecord), s.record l = some y → y.bus = x.bus → y.signal ≠ k

/-- The fields of a projected record, but for its arrival time and its fields of service, from the record that projects
it, the next segment and the report (R45, R47). -/
def ProjectedFrom (s : State) (x : RequestRecord) (next : Fin 128) (k : SignalId) (d : Direction) (doors : Bool)
    (q : RequestRecord) : Prop :=
  q.bus = x.bus ∧ q.routeIndex = x.routeIndex ∧ q.routeNumber = x.routeNumber ∧ q.signal = k ∧ q.direction = d ∧
  q.state = .projected ∧ q.cursor = some next ∧ q.position = x.position ∧ q.speed = x.speed ∧
  q.latenessSec = x.latenessSec ∧ q.occupancy = x.occupancy ∧ q.nominalSpeed = x.nominalSpeed ∧
  q.stopDwell = x.stopDwell ∧ q.stopPending = false ∧ q.lapsed = false ∧ q.served = false ∧
  q.doorsOpen = doors ∧ q.horizonEntry = none ∧ q.projectionExpiry = some (graceExpiry s q) ∧
  q.score = penalisedScore s q ∧ q.ageExpiry = later s.clock (10 * s.tables.global.holdTime.toNat)

/-- The lowest-numbered free slot, a slot left out of account (R55). -/
def LowestFree (s : State) (out : Option SlotId) (j : SlotId) : Prop :=
  s.record j = none ∧ out ≠ some j ∧ ∀ l : SlotId, l < j → out ≠ some l → (s.record l).isSome = true

/-- The report queue after several closures by one reason, in ascending order of slot, with no other report between them
(R78, R79, R80, R180). -/
def closureReports (s : State) (reason : ClosureReason) (l : List (SlotId × RequestRecord)) : List Report :=
  l.foldl (fun q x => storeReport s.clock
    (.requestClosed x.1 x.2.bus x.2.routeNumber x.2.signal x.2.direction x.2.state reason x.2.score
      x.2.servicePart) q) s.reports

/-- The lockout counts after closures that are completed passages: L, of the plan in effect or of plan A when that
plan's entry is not in use, at a signal whose holder was SERVED and among the closed, when L is above 0; the count as it
was at every other signal (R109). -/
def LockoutsBegin (s u : State) (closed : SlotId → RequestRecord → Prop) : Prop :=
  ∀ (k : SignalId) (L : Nat),
    L = (if (s.planInEffect k).inUse ≠ 0 then s.planInEffect k else s.tables.planEntry k .a).lockoutCycles.toNat →
    (∀ i x, (s.ctx k).holder = some i → s.record i = some x → x.signal = k → closed i x → x.served = true → 0 < L →
      (u.ctx k).lockout = L) ∧
    ((∀ i x, (s.ctx k).holder = some i → s.record i = some x → x.signal = k → closed i x →
      x.served = false ∨ L = 0) → (u.ctx k).lockout = (s.ctx k).lockout)

/-! ## The checks of R169, in the manual's terms -/

/-- A number lies in a range. -/
def Within (lo hi n : Nat) : Prop := lo ≤ n ∧ n ≤ hi

/-- Row 1 of R169. -/
def GlobalMeets (e : GlobalEntry) : Prop :=
  e.inUse ≠ 0 ∧ Within 10 100 e.speedFloor.toNat ∧ Within 10 100 e.statusTimeout.toNat ∧
    Within 10 255 e.holdTime.toNat ∧ e.points0.toNat ≤ 63 ∧ e.points1.toNat ≤ 63 ∧ e.points2.toNat ≤ 63 ∧
    e.points3.toNat ≤ 63 ∧ e.parity.toNat ≤ 2 ∧ Within 1 32 e.alertLevel.toNat

/-- Row 2 of R169, for one entry. -/
def SignalMeets (e : SignalEntry) : Prop :=
  Within 1 62 e.cabinet.toNat ∧ e.port.toNat ≤ 1 ∧ e.projectionGrace.toNat ≤ 60

/-- A green window's start and length in row 4 of R169: 0 to C − 1 and 50 to C − 50. -/
def WindowMeets (cycle start length : Nat) : Prop :=
  start < cycle ∧ 50 ≤ length ∧ length + 50 ≤ cycle

/-- Row 4 of R169, for one entry. -/
def PlanMeets (e : PlanEntry) : Prop :=
  Within 300 2400 e.cycle.toNat ∧ WindowMeets e.cycle.toNat e.greenStartA.toNat e.greenLengthA.toNat ∧
    (e.shared = 0 → WindowMeets e.cycle.toNat e.greenStartB.toNat e.greenLengthB.toNat) ∧
    e.margin.toNat ≤ 100 ∧ e.xmax.toNat ≤ 40 ∧ e.emax.toNat ≤ 40 ∧ e.budget.toNat ≤ 60 ∧
    e.lockoutCycles.toNat ≤ 7 ∧ Within 5 120 e.horizon.toNat ∧ 10 * e.horizon.toNat ≤ e.cycle.toNat ∧
    e.delayCode.toNat ≤ 3 ∧ e.periodA.toNat ≤ 3 ∧ e.periodB.toNat ≤ 3 ∧ 1 ≤ e.maxRefreshes.toNat

/-- Row 6 of R169, for one entry. -/
def ZoneMeets (e : ZoneEntry) : Prop :=
  e.direction.toNat ≤ 1 ∧ Within 1 4095 e.length.toNat ∧ e.start.toNat + e.length.toNat ≤ 65536 ∧
    e.kind.toNat ≤ 1 ∧ e.signal.toNat ≤ 15 ∧ Within 20 300 e.nominalSpeed.toNat ∧ e.stopDwell.toNat ≤ 600

/-- A position lies in the spans of two zones of one direction (row 7 of R169). -/
def ShareAPosition (e f : ZoneEntry) : Prop :=
  e.direction = f.direction ∧ ∃ x : Nat, e.start.toNat ≤ x ∧ x < e.start.toNat + e.length.toNat ∧
    f.start.toNat ≤ x ∧ x < f.start.toNat + f.length.toNat

/-- The placement of R24 for a zone's kind and direction; a kind other than CHECK_IN is CHECK_OUT. -/
def ZonePlaced (e : ZoneEntry) (g : SignalEntry) : Prop :=
  (e.direction = 0 ∧ e.kind = 0 ∧ e.start.toNat + e.length.toNat ≤ g.stopBarA.toNat) ∨
  (e.direction = 1 ∧ e.kind = 0 ∧ g.stopBarB.toNat < e.start.toNat) ∨
  (e.direction = 0 ∧ e.kind ≠ 0 ∧ g.stopBarA.toNat ≤ e.start.toNat) ∨
  (e.direction = 1 ∧ e.kind ≠ 0 ∧ e.start.toNat + e.length.toNat ≤ g.stopBarB.toNat + 1)

/-- The ranges of row 9 of R169, for one entry. -/
def RouteMeets (e : RouteEntry) : Prop :=
  e.number.toNat ≤ 9999 ∧ e.baseScore.toNat ≤ 63 ∧ -120 ≤ e.latenessOffset.toInt ∧ e.latenessOffset.toInt ≤ 120 ∧
    e.earlyCutoff.toNat ≤ 600 ∧ (e.head.toNat ≤ 127 ∨ e.head = 0xFF)

/-- Row 10 of R169, for one entry. -/
def SegmentMeets (e : SegmentEntry) : Prop :=
  e.signal.toNat ≤ 15 ∧ e.direction.toNat ≤ 1 ∧ e.travel.toNat ≤ 6000 ∧ e.dwell.toNat ≤ 600 ∧
    (e.ends = 0 → e.next.toNat ≤ 127)

/-- A walk from a segment, each segment's next segment after it, that visits in-use segments only and none twice, and
reaches a segment with END set at or before its sixteenth (R40, row 11 of R169). -/
def SoundWalk (t : TableStore) (first : Fin 128) (l : List (Fin 128)) : Prop :=
  l[0]? = some first ∧ l.length ≤ 16 ∧ l.Nodup ∧ (∀ i ∈ l, t.segment[i].inUse ≠ 0) ∧
  (∀ (n : Nat) (i j : Fin 128), l[n]? = some i → l[n + 1]? = some j →
    t.segment[i].ends = 0 ∧ t.segment[i].next.toNat = j.val) ∧
  ∃ i : Fin 128, l.getLast? = some i ∧ t.segment[i].ends ≠ 0

/-- The check of a row of R169, by its number, holds at the entry index it would report. -/
def CheckMet (own : Option (BitVec 6)) (t : TableStore) (row i : Nat) : Prop :=
  match row with
  | 1 => i = 0 → GlobalMeets t.global
  | 2 => ∀ k : Fin 16, k.val = i → t.signal[k].inUse ≠ 0 → SignalMeets t.signal[k]
  | 3 => ∀ k : Fin 16, k.val = i → t.signal[k].inUse ≠ 0 →
      (∀ a, own = some a → t.signal[k].cabinet.toNat ≠ a.toNat) ∧
      ∀ j : Fin 16, j < k → t.signal[j].inUse ≠ 0 → t.signal[j].cabinet ≠ t.signal[k].cabinet
  | 4 => ∀ k : Fin 32, k.val = i → t.plan[k].inUse ≠ 0 → PlanMeets t.plan[k]
  | 5 => ∀ k : Fin 16, 2 * k.val = i → t.signal[k].inUse ≠ 0 → (t.planEntry k .a).inUse ≠ 0
  | 6 => ∀ k : Fin 64, k.val = i → t.zone[k].inUse ≠ 0 → ZoneMeets t.zone[k]
  | 7 => ∀ k : Fin 64, k.val = i → t.zone[k].inUse ≠ 0 →
      ∀ j : Fin 64, j < k → t.zone[j].inUse ≠ 0 → ¬ ShareAPosition t.zone[j] t.zone[k]
  | 8 => ∀ k : Fin 64, k.val = i → t.zone[k].inUse ≠ 0 → ∃ g : Fin 16,
      t.zone[k].signal.toNat = g.val ∧ t.signal[g].inUse ≠ 0 ∧ ZonePlaced t.zone[k] t.signal[g]
  | 9 => ∀ k : Fin 32, k.val = i → t.route[k].inUse ≠ 0 → RouteMeets t.route[k] ∧
      ∀ j : Fin 32, j < k → t.route[j].inUse ≠ 0 → t.route[j].number ≠ t.route[k].number
  | 10 => ∀ k : Fin 128, k.val = i → t.segment[k].inUse ≠ 0 → SegmentMeets t.segment[k]
  | 11 => ∀ k : Fin 32, k.val = i → t.route[k].inUse ≠ 0 → t.route[k].head ≠ 0xFF →
      ∃ (g : Fin 128) (l : List (Fin 128)), t.route[k].head.toNat = g.val ∧ SoundWalk t g l
  | _ => True

/-- A row of R169 is made at the CLOSE of a table: it concerns that table, and every other table it concerns is VALID
(section 9.5). -/
def CheckMade (closing : TableId) (s : State) (row : CheckRow) : Prop :=
  closing ∈ row.tables ∧ ∀ id ∈ row.tables, id = closing ∨ s.validity.get id = .valid

/-! ## Derived values -/

/-- Every service state is the one R111 gives, the corridor mode the one R172 gives, and ALERT has the level R182
gives. -/
def DerivedOk (s : State) : Prop :=
  (∀ k : SignalId, (s.ctx k).state = serviceState k s) ∧ s.mode = corridorMode s ∧ s.alert = alertValue s

/-! ## Queues -/

/-- The report queue holds at most 32 records, and when it holds 32 the newest is an OVERRUN marker (R180). -/
def ReportsOk (s : State) : Prop :=
  s.reports.length ≤ reportCapacity ∧
    (s.reports.length = reportCapacity →
      ∃ r ∈ s.reports.getLast?, ∃ n : Nat, r.body = .overrun n)

/-- A port's repeat queue holds at most 4 frames (R13); its call queue holds at most one call per signal, and only calls
for signals configured on that port (R14). -/
def PortQueuesOk (s : State) (p : PortId) : Prop :=
  (s.port p).repeatQueue.length ≤ repeatCapacity ∧
    ((s.port p).callQueue.map fun c => c.signal).Nodup ∧
    ∀ c ∈ (s.port p).callQueue, (s.signalEntry c.signal).configuredPort = some p

/-- Both ports' queues are as R13 and R14 promise. -/
def QueuesOk (s : State) : Prop := PortQueuesOk s .west ∧ PortQueuesOk s .east

/-! ## Records and holders -/

/-- Never two records with the same bus number and signal index (R55). -/
def UniqueRecords (s : State) : Prop :=
  ∀ x ∈ s.records, ∀ y ∈ s.records, x.2.bus = y.2.bus → x.2.signal = y.2.signal → x.1 = y.1

/-- The horizon entry time is present while the record is ARMED and the projection expiry time while it is PROJECTED,
and neither at any other time (R57, R60, R47). -/
def RecordTimersOk (s : State) : Prop :=
  ∀ x ∈ s.records,
    (x.2.horizonEntry.isSome = true ↔ x.2.state = .armed) ∧
      (x.2.projectionExpiry.isSome = true ↔ x.2.state = .projected)

/-- The slot a context names as holder holds a record of that signal in state HOLDING or PROJECTED, and every HOLDING
record is the holder of its signal (R63). -/
def HoldersOk (s : State) : Prop :=
  (∀ (k : SignalId) (i : SlotId), (s.ctx k).holder = some i →
    ∃ x ∈ s.records, x.1 = i ∧ x.2.signal = k ∧ (x.2.state = .holding ∨ x.2.state = .projected)) ∧
    ∀ x ∈ s.records, x.2.state = .holding → (s.ctx x.2.signal).holder = some x.1

/-- A call in force belongs to a present holder (R137) of a READY signal (R148), none is in force while OBSERVE
is set (R138), and the refresh timer is present exactly while a call is in force (R149). -/
def CallsOk (s : State) : Prop :=
  ∀ k : SignalId,
    ((s.ctx k).call.isSome = true →
      (s.ctx k).holder.isSome = true ∧ (s.ctx k).state = .ready ∧ s.observe = false) ∧
      ((s.ctx k).refreshTimer.isSome = true ↔ (s.ctx k).call.isSome = true)

/-- A port's call queue never holds an EXTEND or EARLY call for a signal whose service state is other than READY
(R148), or for one that has no call in force. -/
def QueuedCallsOk (s : State) : Prop :=
  ∀ (p : PortId), ∀ c ∈ (s.port p).callQueue, c.content.action ≠ .cancel →
    (s.ctx c.signal).call.isSome = true ∧ (s.ctx c.signal).state = .ready

/-- While a call is in force its refresh count, in the context and in the holder's record, never exceeds N of the plan
in effect (R153). -/
def RefreshCountsOk (s : State) : Prop :=
  ∀ k : SignalId, (s.ctx k).call.isSome = true →
    (s.ctx k).refreshCount ≤ (s.planInEffect k).maxRefreshes.toNat ∧
      ∀ x ∈ s.records, (s.ctx k).holder = some x.1 → x.2.refreshCount = (s.ctx k).refreshCount

/-- The seconds spent in the current cycle never exceed the budget Bc of the plan in effect (R108); nothing is spent at
a signal whose freshness is NEVER or that an open load covers. -/
def BudgetOk (s : State) : Prop :=
  ∀ k : SignalId,
    (s.ctx k).spent ≤ (s.planInEffect k).budget.toNat ∧
      ((s.ctx k).freshness = .never → (s.ctx k).spent = 0) ∧
      (s.covered k = true → (s.ctx k).spent = 0)

/-- The taken position and time are absent while freshness is NEVER, and present in every other freshness (R99). -/
def TakenOk (s : State) : Prop :=
  ∀ k : SignalId, (s.ctx k).taken = none ↔ (s.ctx k).freshness = .never

/-- An UNCONFIGURED or SUSPENDED signal has no holder (R122). -/
def HolderStatesOk (s : State) : Prop :=
  ∀ k : SignalId, (s.ctx k).state = .unconfigured ∨ (s.ctx k).state = .suspended → (s.ctx k).holder = none

/-- A signal's lockout count never exceeds 7 (R109). -/
def LockoutOk (s : State) : Prop := ∀ k : SignalId, (s.ctx k).lockout ≤ 7

/-- A record's score lies between 0 and 253 (R91). -/
def ScoresOk (s : State) : Prop := ∀ x ∈ s.records, x.2.score ≤ 253

/-- While a record exists the four corridor-wide tables are VALID, and the record's ROUTE entry is in use (R28, R53). -/
def RecordTablesOk (s : State) : Prop :=
  ∀ x ∈ s.records,
    s.validity.global = .valid ∧ s.validity.zone = .valid ∧ s.validity.route = .valid ∧
      s.validity.segment = .valid ∧ flagSet s.tables.route[x.2.routeIndex].inUse = true

/-- No record's times meet the wrap of the corridor clock (R88): an arrival lies at most 36,000 ahead of the corridor
time and at most 2,550 behind it; a record of origin CHECK_IN has its age expiry ahead, by at most 2,550, and at most
2,550 after its arrival; a projected record's expiry lies at most 2,550 after its arrival. -/
def ArrivalsOk (s : State) : Prop :=
  ∀ x ∈ s.records,
    -2550 ≤ timeDiff x.2.arrival s.clock ∧ timeDiff x.2.arrival s.clock ≤ 36000 ∧
      (x.2.state ≠ .projected →
        0 ≤ timeDiff x.2.ageExpiry s.clock ∧ timeDiff x.2.ageExpiry s.clock ≤ 2550 ∧
          timeDiff x.2.ageExpiry x.2.arrival ≤ 2550) ∧
      ∀ t ∈ x.2.projectionExpiry, 0 ≤ timeDiff t x.2.arrival ∧ timeDiff t x.2.arrival ≤ 2550

/-! ## Ports -/

/-- A RUNNING port has a rate and has been RUNNING; a port that has not been RUNNING has no rate (R4, R20). -/
def PortRatesOk (s : State) : Prop :=
  ∀ p : PortId,
    ((s.port p).state = .running → (s.port p).rate.isSome = true ∧ (s.port p).hasRun = true) ∧
      ((s.port p).hasRun = false → (s.port p).rate = none)

/-- Nothing waits at an idle transmitter of a RUNNING port (R18). -/
def TransmittersOk (s : State) : Prop :=
  ∀ p : PortId, (s.port p).state = .running → (s.port p).tx = none →
    (s.port p).callQueue = [] ∧ (s.port p).repeatQueue = [] ∧ (s.port p).reply = none

/-- While a frame is in flight, what the TXD pin has carried of it is no longer than the frame, and each character on it is
the frame's byte at that place under some parity setting (R1, R19). -/
def LineOk (s : State) : Prop :=
  ∀ (p : PortId) (f : TxFrame), (s.port p).tx = some f →
    (s.port p).txd.length ≤ f.bytes.length ∧
      ∀ (i : Nat) (bits : List Bool), (s.port p).txd[i]? = some bits →
        ∃ (b : Byte) (setting : Parity), f.bytes[i]? = some b ∧ bits = sentBits setting b

/-! ## Table loading -/

/-- The load context is as R160 describes it, the table being loaded is not VALID, and a table is RELOADING only while
its own load is open (R159). -/
def LoadOk (s : State) : Prop :=
  (∀ l ∈ s.load,
    s.validity.get l.table ≠ .valid ∧ l.start ≤ l.writeIndex ∧ l.writeIndex ≤ l.rangeEnd + 1 ∧
      l.start ≤ l.rangeEnd ∧ l.rangeEnd < l.table.entries ∧ l.buffer.length < l.table.entrySize ∧
      l.written.Pairwise (· < ·) ∧ ∀ i ∈ l.written, l.start ≤ i ∧ i ≤ l.rangeEnd) ∧
    ∀ id : TableId, s.validity.get id = .reloading → (s.load.map fun l => l.table) = some id

/-- A VALID table satisfies every check that concerns it alone, and every check that concerns it and another VALID table
(R159). -/
def ValidTablesPass (s : State) : Prop :=
  ∀ r ∈ checkRows s.ownAddress s.tables, (∀ id ∈ r.tables, s.validity.get id = .valid) → r.failure = none

/-- While the PLAN table is not INVALID, the in-use PLAN entries of every signal that no open load covers are in the
ranges of R169: they are the entries in force (R142, R157). -/
def PlansInForceOk (s : State) : Prop :=
  s.validity.plan ≠ .invalid →
    ∀ (k : SignalId) (p : PlanId), s.covered k = false →
      flagSet (s.tables.planEntry k p).inUse = true → (s.tables.planEntry k p).rangesOk = true

/-! ## NO-ADDRESS -/

/-- In NO-ADDRESS the part originates nothing: no table is VALID, no load is open, no record exists, every context has
its reset values, and the call queues and reply slots are empty (R9, R154). -/
def NoAddressOk (s : State) : Prop :=
  s.ownAddress = none →
    s.validity = .reset ∧ s.load = none ∧ s.mode = .unconfigured ∧
      (∀ k : SignalId, s.ctx k = .reset) ∧ s.records = [] ∧
      ∀ p : PortId, (s.port p).callQueue = [] ∧ (s.port p).reply = none

end Sys2Proof.Machine
end

