-- ==== Sys2Proof/Certificates/Slice0/Obligations.lean ====
section
/-! DEFINITION. Sys2Proof/Certificates/Slice0/Obligations.lean: the statements made about the CP16, from the numbered rules
of the manual. -/

open Sys2Proof Sys2Proof.Machine

/-! ## The queue of commands, the clock and reset -/

/-- A step with a command at the front of the queue is that command on the state with the queue's rest. The queue is the
model's (assumption 9). -/
def Obligations.StepRunsFrontCommand : Prop :=
  ∀ (c : Instr) (s : State), step { s with pending := c :: s.pending } = exec c s

/-- With no command waiting: nothing happens while RESETn is asserted (R20); a due timer event is taken (R74); with none
due the clock runs on by one unit. That a step without a command stands for this is the model's choice (assumption 8), as
is which of several due events is taken (assumption 3: any). -/
def Obligations.IdleStep : Prop :=
  ∀ s : State, s.pending = [] →
    (s.resetHeld = true → step s = .next s) ∧
    (s.resetHeld = false → (∀ c, ¬ Due s c) → step s = .next { s with clock := s.clock + 1 }) ∧
    (s.resetHeld = false → (∃ c, Due s c) →
      ∃ c, Due s c ∧ step s = exec c { s with freeCount := s.freeCount + 1 })

/-- POWER_ON, RESETN_ASSERT and RESETN_RELEASE leave every value at its reset value, but for the own address: POWER_ON and
RESETN_RELEASE read it from the straps, 0 and 63 giving NO-ADDRESS (R9, R20). That POWER_ON leaves the RESETn pin as it
is and RESETN_ASSERT the own address is the model's (assumption 6). From the assertion of RESETn until its release nothing
else happens: every other command leaves the whole state as it is (R20). -/
def Obligations.ResetCommands : Prop :=
  (∀ (v : BitVec 6) (s : State),
    exec (.powerOn v) s = .next { State.reset with
      pending := s.pending, resetHeld := s.resetHeld, freeCount := s.freeCount,
      ownAddress := if v = 0 ∨ v = 63 then none else some v }) ∧
  (∀ s : State,
    exec .resetnAssert s = .next { State.reset with
      pending := s.pending, resetHeld := true, freeCount := s.freeCount, ownAddress := s.ownAddress }) ∧
  (∀ (v : BitVec 6) (s : State), s.resetHeld = true →
    exec (.resetnRelease v) s = .next { State.reset with
      pending := s.pending, resetHeld := false, freeCount := s.freeCount,
      ownAddress := if v = 0 ∨ v = 63 then none else some v }) ∧
  ∀ (c : Instr) (s : State), s.resetHeld = true → (∀ v, c ≠ .powerOn v) → c ≠ .resetnAssert →
    (∀ v, c ≠ .resetnRelease v) → exec c s = .next s

/-- The values after power-on and RESETn: the ports and dispatcher (R20), the clock (R74), the request table (R81), the
contexts and flags (R117), the table store (R157) and its validities (R159), no load context (R160), the mode (R172), the
report queue (R180) and ALERT (R182). The own address is the model's choice of strap level (assumption 1). -/
def Obligations.ResetValues : Prop :=
  (∀ p : PortId, State.reset.port p =
    { state := .learning, rate := none, hasRun := false, awaitingIdle := false,
      rx := { bytes := [], bad := false, tooLong := false }, consecutiveBad := 0, badFrames := 0,
      repeatDrops := 0, repeatQueue := [], callQueue := [], reply := none, tx := none, txd := [] }) ∧
  State.reset.parity = .noParity ∧ State.reset.ownAddress = some 1 ∧ State.reset.clock = 0 ∧
  (∀ i : SlotId, State.reset.record i = none) ∧
  (∀ k : SignalId, State.reset.ctx k =
    { freshness := .never, plan := .a, taken := none, accepting := false, service := .noService,
      state := .unconfigured, lockout := 0, spent := 0, holder := none, call := none,
      refreshTimer := none, refreshCount := 0 }) ∧
  (∀ k : SignalId, State.reset.isDisabled k = false) ∧ State.reset.observe = false ∧
  (∀ (id : TableId) (i : Nat), i < id.entries →
    State.reset.tables.entryBytes id i = List.replicate id.entrySize 0) ∧
  (∀ id : TableId, State.reset.validity.get id = .invalid) ∧
  State.reset.load = none ∧ State.reset.mode = .unconfigured ∧ State.reset.reports = [] ∧
  State.reset.alert = true

/-- The state after reset meets every invariant stated below. -/
def Obligations.ResetMeetsInvariants : Prop :=
  DerivedOk State.reset ∧ ReportsOk State.reset ∧ QueuesOk State.reset ∧ UniqueRecords State.reset ∧
    RecordTimersOk State.reset ∧ HoldersOk State.reset ∧ HolderStatesOk State.reset ∧ TakenOk State.reset ∧
    BudgetOk State.reset ∧ CallsOk State.reset ∧ QueuedCallsOk State.reset ∧ RefreshCountsOk State.reset ∧
    LoadOk State.reset ∧ ValidTablesPass State.reset ∧ PlansInForceOk State.reset ∧ LockoutOk State.reset ∧
    RecordTablesOk State.reset ∧ ScoresOk State.reset ∧ ArrivalsOk State.reset ∧ PortRatesOk State.reset ∧
    TransmittersOk State.reset ∧ LineOk State.reset ∧ NoAddressOk State.reset

/-! ## The corridor link -/

/-- A LEARNING port learns the highest rate at which a clean sync character completes, enters RUNNING at it and writes a
READY report the first time and a LINK report afterwards (R3, R4); without a clean sync nothing is learned. Until then it
accepts no frame (R3). That a clean sync on a RUNNING port, and a command that a frame on a LEARNING port would bring, have
no effect of their own is the model's reading (assumption 11). -/
def Obligations.LearnsHighestCleanRate : Prop :=
  (∀ (p : PortId) (seen : List (Rate × LineChar)) (r : Rate) (s : State),
    s.resetHeld = false → (s.port p).state = .learning →
    (∃ c, (r, c) ∈ seen ∧ cleanSync s.parity c = true) →
    (∀ x ∈ seen, cleanSync s.parity x.2 = true → rateRank x.1 ≤ rateRank r) →
    exec (.cleanSyncLearned p seen) s = .next (finish (writeReport
      (if (s.port p).hasRun then .link p .running (some r) 0 else .ready p r)
      (s.setPort p { s.port p with
        state := .running, rate := some r, hasRun := true, awaitingIdle := true })))) ∧
  (∀ (p : PortId) (seen : List (Rate × LineChar)) (s : State),
    s.resetHeld = false →
    ((s.port p).state = .running ∨ ∀ x ∈ seen, cleanSync s.parity x.2 = false) →
    exec (.cleanSyncLearned p seen) s = .next (finish s)) ∧
  ∀ (c : Instr) (p : PortId) (s : State),
    s.resetHeld = false → (s.port p).state = .learning → arrivalPort c = some p → exec c s = .next (finish s)

/-- A discarded frame raises the bad-frame count, up to 65,535, and the consecutive-bad count (R8); the eighth in a row
takes the port to LEARNING with a LINK report (R5). The run of characters that the learning character opened is passed
over (R4). That RETURN_TO_LEARNING does the same as a command of its own at a count of 8 is the model's reading (assumption
14), and that an ending gap brings its whole run of characters and says whether the line was idle before it, with an empty
run no frame, is the model's choice (assumption 12). -/
def Obligations.BadFramesAndRelearning : Prop :=
  (∀ (p : PortId) (idleBefore : Bool) (chars : List LineChar) (s : State) (q : Port),
    s.resetHeld = false → BetweenFrames idleBefore (s.port p) → chars ≠ [] →
    acceptedFrame (RxBuffer.empty.pushAll s.parity chars) = none →
    q = { s.port p with
      awaitingIdle := false
      badFrames := if (s.port p).badFrames < 65535 then (s.port p).badFrames + 1 else (s.port p).badFrames
      consecutiveBad := (s.port p).consecutiveBad + 1 } →
    (q.consecutiveBad < 8 →
      exec (.frameEndingGap p idleBefore chars) s = .next (finish (s.setPort p q))) ∧
    (8 ≤ q.consecutiveBad →
      exec (.frameEndingGap p idleBefore chars) s = .next (finish (writeReport
        (.link p .learning q.rate q.badFrames)
        (s.setPort p { q with state := .learning, consecutiveBad := 0 }))))) ∧
  (∀ (p : PortId) (s : State),
    s.resetHeld = false → (s.port p).state = .running → 8 ≤ (s.port p).consecutiveBad →
    exec (.returnToLearning p) s = .next (finish (writeReport
      (.link p .learning (s.port p).rate (s.port p).badFrames)
      (s.setPort p { s.port p with
        state := .learning, rx := .empty, consecutiveBad := 0, awaitingIdle := false })))) ∧
  (∀ (p : PortId) (chars : List LineChar) (s : State),
    s.resetHeld = false → (s.port p).state = .running → (s.port p).awaitingIdle = true →
    exec (.frameEndingGap p false chars) s =
      .next (finish (s.setPort p { s.port p with awaitingIdle := false }))) ∧
  ∀ (p : PortId) (idleBefore : Bool) (s : State),
    s.resetHeld = false → BetweenFrames idleBefore (s.port p) →
    exec (.frameEndingGap p idleBefore []) s =
      .next (finish (s.setPort p { s.port p with awaitingIdle := false }))

/-- The port accepts exactly the frames that R7 and R8 describe: SYNC, four header bytes, at most 56 payload bytes and the
right CHECK, with no character error and no byte too many; and it reads from such a frame the fields it was built of. So a
run of characters is accepted exactly when they carry such a frame, each without an error: one whose stop bit is not at the
idle level, or whose data and parity bits have an odd number of ones under EVEN or an even number under ODD, in the setting
it began under, is in error (R1, R2, R6). A CHECK register fed with a run of bytes and then with their own CHECK ends at 0
(R7). -/
def Obligations.AcceptsExactlyBuiltFrames : Prop :=
  (∀ (x : RxBuffer) (f : Frame),
    acceptedFrame x = some f ↔
      x.bad = false ∧ x.tooLong = false ∧ f.payload.length ≤ 56 ∧
        x.bytes = buildFrame f.dest f.src f.kind f.payload ∧ f.raw = x.bytes) ∧
  (∀ (parity : Parity) (chars : List LineChar) (f : Frame),
    acceptedFrame (RxBuffer.empty.pushAll parity chars) = some f ↔
      f.payload.length ≤ 56 ∧ Carries parity chars (buildFrame f.dest f.src f.kind f.payload) ∧
        f.raw = buildFrame f.dest f.src f.kind f.payload) ∧
  (∀ (parity setting : Parity) (c : LineChar) (ones : Nat), setting = c.begunUnder.getD parity →
    ones = ((List.range 8).map c.data.getLsbD ++ [c.parityBit]).count true →
    (charError parity c = true ↔
      c.stopIdle = false ∨ (setting = .even ∧ ones % 2 = 1) ∨ (setting = .odd ∧ ones % 2 = 0))) ∧
  ∀ l : List Byte, (l ++ halfBytes (frameCheck l)).foldl checkByte 0xFFFF#16 = 0

/-- A management request addressed to the part, received as a frame without errors, is acted on as its command, after the
consecutive-bad count has returned to 0 (R8, R10, R12). That the ending gap of a run of characters acts as the request's
own command does is the model's choice (assumptions 12 and 13). -/
def Obligations.RequestFrameActsAsCommand : Prop :=
  ∀ (p : PortId) (idleBefore : Bool) (chars : List LineChar) (s : State) (a : BitVec 6) (c : Instr) (r : Request),
    s.resetHeld = false → BetweenFrames idleBefore (s.port p) → s.ownAddress = some a →
    requestOf c = some r → r.port = p → r.payload.length ≤ 56 →
    Carries s.parity chars (buildFrame (a.zeroExtend 8) r.src r.kind r.payload) →
    exec (.frameEndingGap p idleBefore chars) s =
      exec c (s.setPort p { s.port p with awaitingIdle := false, consecutiveBad := 0 })

/-- A BUS REPORT of LEN 13 is handed to the locator, and repeated first unless it is addressed to the part; a SIGNAL STATUS
of LEN 5 is repeated and handed to the contexts; a BUS REPORT addressed to the part with another LEN is consumed without
action (R10, R11). That the ending gap of a run of characters acts as the hand-over commands BUS_REPORT and SIGNAL_STATUS
do is the model's choice (assumptions 12 and 13). -/
def Obligations.ReadFramesActAsCommands : Prop :=
  ∀ (p : PortId) (idleBefore : Bool) (chars : List LineChar) (s t : State) (a : BitVec 6) (dest src : Byte)
    (payload : List Byte),
    s.resetHeld = false → BetweenFrames idleBefore (s.port p) → s.ownAddress = some a →
    t = s.setPort p { s.port p with awaitingIdle := false, consecutiveBad := 0 } →
    (payload.length = 13 → Carries s.parity chars (buildFrame dest src 0x21 payload) →
      exec (.frameEndingGap p idleBefore chars) s =
        exec (.busReport p (busReportOf payload))
          (if dest = a.zeroExtend 8 then t else repeatFrame p (buildFrame dest src 0x21 payload) t)) ∧
    (payload.length = 5 → Carries s.parity chars (buildFrame dest src 0x31 payload) →
      exec (.frameEndingGap p idleBefore chars) s =
        exec (.signalStatus p src (signalStatusOf payload))
          (repeatFrame p (buildFrame dest src 0x31 payload) t)) ∧
    (payload.length ≠ 13 → payload.length ≤ 56 → dest = a.zeroExtend 8 →
      Carries s.parity chars (buildFrame dest src 0x21 payload) →
      exec (.frameEndingGap p idleBefore chars) s = .next (finish t))

/-- An accepted frame that no block takes is repeated as it was received: placed at the tail of the opposite port's repeat
queue, or dropped and counted when that queue holds four (R9, R10, R11, R13). That one command brings the whole run of
characters is the model's choice (assumption 12). -/
def Obligations.OtherFramesAreRepeated : Prop :=
  ∀ (p : PortId) (idleBefore : Bool) (chars : List LineChar) (s t : State) (dest src kind : Byte)
    (payload : List Byte) (q : Port),
    s.resetHeld = false → BetweenFrames idleBefore (s.port p) → payload.length ≤ 56 →
    Carries s.parity chars (buildFrame dest src kind payload) →
    (s.ownAddress = none ∨
      (kind ≠ 0x21 ∧ kind ≠ 0x31 ∧
        ¬ (0x60 ≤ kind.toNat ∧ kind.toNat ≤ 0x6F ∧ s.ownAddress.map (fun a => a.zeroExtend 8) = some dest)) ∨
      (kind = 0x21 ∧ payload.length ≠ 13 ∧ s.ownAddress.map (fun a => a.zeroExtend 8) ≠ some dest) ∨
      (kind = 0x31 ∧ payload.length ≠ 5)) →
    t = s.setPort p { s.port p with awaitingIdle := false, consecutiveBad := 0 } → q = s.port p.opposite →
    exec (.frameEndingGap p idleBefore chars) s = .next (finish (t.setPort p.opposite
      (if q.repeatQueue.length < 4 then
        { q with repeatQueue := q.repeatQueue ++ [buildFrame dest src kind payload] }
      else { q with repeatDrops := if q.repeatDrops < 65535 then q.repeatDrops + 1 else q.repeatDrops })))

/-- TRANSMIT_GAP_END makes a busy transmitter idle. At the end of every event an idle transmitter of a RUNNING port begins the
oldest call, otherwise the head of the repeat queue, otherwise the reply, at the learned rate, and the holding place gives it
up; with nothing waiting, a busy transmitter or a LEARNING port, nothing begins; and the end of an event changes nothing but
ALERT and the two ports (R15, R17, R18, R19, R182). A character is sent as R1 describes it under the parity in effect when it
begins, and but for a reset no other command touches a frame in flight: what has begun of it keeps its setting when the parity
changes (R1, R2, R19). These clauses are the model's choices: the arbiter chooses at the event's end (assumption 5);
TRANSMIT_GAP_END of an idle transmitter has no effect of its own (assumption 11); the first character of a frame is on TXD at
the choice, the rest of the frame is put on TXD at TRANSMIT_GAP_END, and between the two what TXD has carried stands still at
every other command that does not change the parity (assumption 16); and how much of a frame has begun at a change of parity
is free (assumption 20). -/
def Obligations.ArbiterOrder : Prop :=
  (∀ (p : PortId) (s : State), s.resetHeld = false →
    ((s.port p).tx = none → exec (.transmitGapEnd p) s = .next (finish s)) ∧
    ∀ f, (s.port p).tx = some f → exec (.transmitGapEnd p) s = .next (finish (s.setPort p { s.port p with
      tx := none
      txd := (s.port p).txd ++ (f.bytes.drop (s.port p).txd.length).map (sentBits s.parity) }))) ∧
  (∀ (s : State) (p : PortId) (r : Rate),
    (s.port p).state = .running → (s.port p).rate = some r → (s.port p).tx = none →
    (∀ c l, (s.port p).callQueue = c :: l →
      (finish s).port p = { s.port p with
        callQueue := l, tx := some { bytes := c.frame s.srcByte, rate := r }, txd := [sentBits s.parity 0xD3] }) ∧
    ((s.port p).callQueue = [] → ∀ f l, (s.port p).repeatQueue = f :: l →
      (finish s).port p = { s.port p with
        repeatQueue := l, tx := some { bytes := f, rate := r }, txd := (f.take 1).map (sentBits s.parity) }) ∧
    ((s.port p).callQueue = [] → (s.port p).repeatQueue = [] → ∀ a, (s.port p).reply = some a →
      (finish s).port p = { s.port p with
        reply := none, tx := some { bytes := a.frame s.srcByte, rate := r }, txd := [sentBits s.parity 0xD3] }) ∧
    ((s.port p).callQueue = [] → (s.port p).repeatQueue = [] → (s.port p).reply = none →
      (finish s).port p = s.port p)) ∧
  (∀ (b : Byte) (d : List Bool), d = (List.range 8).map b.getLsbD →
    sentBits .noParity b = [false] ++ d ++ [true] ∧
    ∃ even odd : Bool,
      sentBits .even b = [false] ++ d ++ [even, true] ∧ (d ++ [even]).count true % 2 = 0 ∧
      sentBits .odd b = [false] ++ d ++ [odd, true] ∧ (d ++ [odd]).count true % 2 = 1) ∧
  (∀ (c : Instr) (p : PortId) (f : TxFrame) (s t : State), exec c s = .next t → (∀ v, c ≠ .powerOn v) →
    c ≠ .resetnAssert → (∀ v, c ≠ .resetnRelease v) → c ≠ .transmitGapEnd p → (s.port p).tx = some f →
    SentOn s.parity (s.port p) (t.port p) ∧ (t.parity = s.parity → (t.port p).txd = (s.port p).txd)) ∧
  (∀ (s : State) (p : PortId), (s.port p).state = .learning ∨ (s.port p).tx.isSome = true →
    (finish s).port p = s.port p) ∧
  ∀ s : State,
    finish s = { s with alert := (finish s).alert, west := (finish s).west, east := (finish s).east } ∧
      ((finish s).alert = true ↔ alertLevel s ≤ s.reports.length ∨ s.mode ≠ .active)

/-! ## Management requests -/

/-- A request that meets an occupied reply slot is dropped (R12). A request acted on gets one reply, in the reply slot of its
arrival port, with its SRC as DEST and its KIND echoed, and a refused request changes nothing else (R17, R174). -/
def Obligations.RequestsAreAnsweredOnce : Prop :=
  ∀ (c : Instr) (r : Request) (s : State), requestOf c = some r → s.resetHeld = false →
    ((s.port r.port).reply.isSome = true → exec c s = .next (finish s)) ∧
    (Answers s r.port → ∃ (u : State) (accept : Bool) (data : List Byte),
      exec c s = .next (finish (u.setPort r.port
        { u.port r.port with reply := some { dest := r.src, accept := accept, payload := r.kind :: data } })) ∧
      (accept = false → u = s))

/-- The refusals that every request can meet: BAD_KIND for a KIND from 0x6B to 0x6F, BAD_LENGTH for a LEN other than the one
required, and BAD_VALUE for a CONTROL whose subcommand has no code; a CONTROL whose subcommand has one is accepted with the
subcommand echoed (R174, R178, R183). That such a CONTROL is the command of the subcommand's own row is the model's reading
of the table's rows (assumption 15). -/
def Obligations.RequestForms : Prop :=
  (∀ (p : PortId) (src : Byte) (code : Fin 5) (s : State), Answers s p →
    exec (.badKind p src code) s = .next (finish (s.setPort p { s.port p with
      reply := some { dest := src, accept := false, payload := [byteOf (0x6B + code.val), 1] } }))) ∧
  (∀ (c : Instr) (r : Request) (n : Nat) (s : State),
    requestOf c = some r → requiredLength r.kind = some n → r.payload.length ≠ n → Answers s r.port →
    exec c s = .next (finish (s.setPort r.port { s.port r.port with
      reply := some { dest := r.src, accept := false, payload := [r.kind, 2] } }))) ∧
  (∀ (p : PortId) (src code k : Byte) (s : State), Answers s p → code.toNat = 0 ∨ 5 < code.toNat →
    exec (.control p src [code, k]) s = .next (finish (s.setPort p { s.port p with
      reply := some { dest := src, accept := false, payload := [0x64, 3] } }))) ∧
  (∀ (p : PortId) (src code k : Byte) (s : State), Answers s p → 1 ≤ code.toNat → code.toNat ≤ 5 →
    (code.toNat ≤ 2 → k.toNat < 16) → ∃ (u : State) (x y : Byte),
      exec (.control p src [code, k]) s =
        .next (finish (placeReply p src { accept := true, payload := [0x64, code, x, y] } u))) ∧
  ∀ (p : PortId) (src k : Byte) (s : State),
    exec (.control p src [1, k]) s = exec (.disable p src k) s ∧
    exec (.control p src [2, k]) s = exec (.enable p src k) s ∧
    exec (.control p src [3, k]) s = exec (.observeOn p src) s ∧
    exec (.control p src [4, k]) s = exec (.observeOff p src) s ∧
    exec (.control p src [5, k]) s = exec (.corridorReset p src) s

/-- QUERY STATUS and QUERY SIGNAL change nothing but the reply slot, and their ACCEPTs are 31 bytes with each field at its
place; a present cycle estimate never takes its absence code (R184), that of a stored cycle length of 0 included, whose
value is free (assumption 4); a signal index above 15 is refused with BAD_VALUE (R175, R176, R186). -/
def Obligations.StatusAndSignalQueries : Prop :=
  (∀ (p : PortId) (src : Byte) (s : State), Answers s p → ∃ d : List Byte,
    exec (.queryStatus p src []) s = .next (finish (s.setPort p { s.port p with
      reply := some { dest := src, accept := true, payload := d } })) ∧
    d.length = 31 ∧ d.take 5 = 0x60 :: timeBytes s.clock ∧ byteAt d 5 = s.mode.code ∧
    byteAt d 6 = flagByte s.observe ∧
    byteAt d 7 = s.west.state.code ∧ byteAt d 8 = rateCode s.west.rate ∧
    halfAt d 9 = BitVec.ofNat 16 s.west.badFrames ∧ halfAt d 11 = BitVec.ofNat 16 s.west.repeatDrops ∧
    byteAt d 13 = s.east.state.code ∧ byteAt d 14 = rateCode s.east.rate ∧
    halfAt d 15 = BitVec.ofNat 16 s.east.badFrames ∧ halfAt d 17 = BitVec.ofNat 16 s.east.repeatDrops ∧
    byteAt d 19 = s.validity.global.code ∧ byteAt d 20 = s.validity.signal.code ∧
    byteAt d 21 = s.validity.plan.code ∧ byteAt d 22 = s.validity.zone.code ∧
    byteAt d 23 = s.validity.route.code ∧ byteAt d 24 = s.validity.segment.code ∧
    (s.load = none → byteAt d 25 = 0xFF ∧ byteAt d 26 = 0xFF) ∧
    (∀ l, s.load = some l → byteAt d 25 = l.table.code ∧ byteAt d 26 = portCode l.port) ∧
    (∀ k : SignalId, (halfAt d 27).getLsbD k.val = s.isDisabled k) ∧
    byteAt d 29 = byteOf s.records.length ∧ byteAt d 30 = byteOf s.reports.length) ∧
  (∀ (p : PortId) (src b : Byte) (s : State) (k : SignalId), Answers s p → b.toNat = k.val → ∃ d : List Byte,
    exec (.querySignal p src [b]) s = .next (finish (s.setPort p { s.port p with
      reply := some { dest := src, accept := true, payload := d } })) ∧
    d.length = 31 ∧ d.take 5 = 0x61 :: timeBytes s.clock ∧ byteAt d 5 = b ∧
    byteAt d 6 = (s.ctx k).state.code ∧ byteAt d 7 = (s.ctx k).freshness.code ∧
    (∀ t, (s.ctx k).freshness = .fresh t → byteAt d 8 = byteOf (remaining s.clock t)) ∧
    ((∀ t, (s.ctx k).freshness ≠ .fresh t) → byteAt d 8 = 0) ∧
    byteAt d 9 = (s.ctx k).plan.code ∧
    (cycleEstimate k s = none → halfAt d 10 = 0xFFFF) ∧
    (∀ n, cycleEstimate k s = some n → (halfAt d 10).toNat = n ∧ n < 0xFFFF) ∧
    byteAt d 12 = flagByte (s.ctx k).accepting ∧ byteAt d 13 = (s.ctx k).service.code ∧
    byteAt d 14 = byteOf (s.ctx k).lockout ∧ byteAt d 15 = byteOf (s.ctx k).spent ∧
    byteAt d 16 = flagByte (s.isDisabled k) ∧
    ((s.ctx k).holder = none → byteAt d 17 = 0xFF ∧ byteAt d 18 = 0 ∧ byteAt d 19 = 0) ∧
    (∀ i r, (s.ctx k).holder = some i → s.record i = some r →
      byteAt d 17 = byteOf i.val ∧ byteAt d 18 = outcomeCode r.lastOutcome ∧
        byteAt d 19 = flagByte r.partialFlag) ∧
    byteAt d 20 = flagByte (s.ctx k).call.isSome ∧
    ((s.ctx k).call = none → (d.drop 21).take 9 = List.replicate 9 0) ∧
    (∀ c, (s.ctx k).call = some c → (d.drop 21).take 9 = c.bytes) ∧
    byteAt d 30 = byteOf (s.ctx k).refreshCount) ∧
  ∀ (p : PortId) (src b : Byte) (s : State), Answers s p → 15 < b.toNat →
    exec (.querySignal p src [b]) s = .next (finish (s.setPort p { s.port p with
      reply := some { dest := src, accept := false, payload := [0x61, 3] } }))

/-- QUERY REQUESTS returns the first three records from a slot upward that stand at the filter's signal, or of all with 255,
each as a summary of 16 bytes with each field at its place; other filters and slots above 39 are refused (R177, R186). -/
def Obligations.RequestQueries : Prop :=
  (∀ (p : PortId) (src filter first : Byte) (s : State), Answers s p →
    filter.toNat < 16 ∨ filter = 255 → first.toNat < 40 →
    exec (.queryRequests p src [filter, first]) s = .next (finish (s.setPort p { s.port p with
      reply := some { dest := src, accept := true, payload := 0x62 :: (timeBytes s.clock ++
        ((s.records.filter fun x =>
          decide (first.toNat ≤ x.1.val) && (filter == 255 || filter.toNat == x.2.signal.val)).take 3).flatMap
            (summary s.clock)) } }))) ∧
  (∀ (p : PortId) (src filter first : Byte) (s : State), Answers s p →
    (15 < filter.toNat ∧ filter ≠ 255) ∨ 39 < first.toNat →
    exec (.queryRequests p src [filter, first]) s = .next (finish (s.setPort p { s.port p with
      reply := some { dest := src, accept := false, payload := [0x62, 3] } }))) ∧
  ∀ (now : Time) (i : SlotId) (r : RequestRecord) (d : List Byte), d = summary now (i, r) →
    d.length = 16 ∧ byteAt d 0 = byteOf i.val ∧ halfAt d 1 = r.bus ∧ halfAt d 3 = r.routeNumber ∧
    (byteAt d 5).toNat % 16 = r.signal.val ∧ (byteAt d 5).toNat / 16 % 4 = r.state.code.toNat ∧
    (byteAt d 5).toNat / 64 = (directionCode r.direction).toNat ∧
    (r.cursor = none → byteAt d 6 = 0xFF) ∧ (∀ c, r.cursor = some c → (byteAt d 6).toNat = c.val) ∧
    (-2550 ≤ timeDiff r.arrival now → timeDiff r.arrival now ≤ 36000 →
      ((halfAt d 7).toNat : Int) = timeDiff r.arrival now + 4000) ∧
    (r.projectionExpiry = none → byteAt d 9 = 0xFF) ∧
    (∀ t, r.projectionExpiry = some t → byteAt d 9 = byteOf ((timeDiff t r.arrival).toNat / 10)) ∧
    byteAt d 10 = byteOf r.score ∧
    (byteAt d 11).getLsbD 0 = r.stopPending ∧ (byteAt d 11).getLsbD 1 = r.doorsOpen ∧
    (byteAt d 11).getLsbD 2 = r.lapsed ∧ (byteAt d 11).getLsbD 3 = r.served ∧
    (byteAt d 11).getLsbD 4 = r.partialFlag ∧ (byteAt d 11).toNat < 32 ∧
    byteAt d 12 = outcomeCode r.lastOutcome ∧ byteAt d 13 = byteOf r.committed ∧
    byteAt d 14 = byteOf r.refreshCount ∧ byteAt d 15 = lastCallCode r.lastCall

/-- READ REPORTS removes the oldest records, as many as the count or as many as are held, and returns them oldest first with
the number left; a count of 0 or above 3 is refused with BAD_VALUE (R181). Each record is 16 bytes: its kind, its time and
the fields of its kind from offset 5 (R186). A record is stored at the tail while at most 30 are held; at 31 an OVERRUN
marker of lost count 1 and of its time stands in its place; at 32 only the marker's lost count rises, up to 255 (R180). -/
def Obligations.ReadsOldestReports : Prop :=
  (∀ (p : PortId) (src n : Byte) (s : State), Answers s p → 1 ≤ n.toNat → n.toNat ≤ 3 →
    exec (.readReports p src [n]) s = .next (finish (({ s with reports := s.reports.drop n.toNat } : State).setPort p
      { s.port p with reply := some ⟨src, true, 0x63 :: byteOf (s.reports.length - n.toNat) ::
        (s.reports.take n.toNat).flatMap Report.bytes⟩ }))) ∧
  (∀ (p : PortId) (src n : Byte) (s : State), Answers s p → n.toNat = 0 ∨ 3 < n.toNat →
    exec (.readReports p src [n]) s = .next (finish (s.setPort p { s.port p with
      reply := some { dest := src, accept := false, payload := [0x63, 3] } }))) ∧
  (∀ (body : ReportBody) (s : State),
    writeReport body s = { s with reports := storeReport s.clock body s.reports }) ∧
  (∀ (now : Time) (body : ReportBody) (l : List Report),
    (l.length ≤ 30 → storeReport now body l = l ++ [⟨now, body⟩]) ∧
    (l.length = 31 → storeReport now body l = l ++ [⟨now, .overrun 1⟩] ∧
      ∀ (t : Time) (lost : Nat), storeReport now body (l ++ [⟨t, .overrun lost⟩]) =
        l ++ [⟨t, .overrun (if lost < 255 then lost + 1 else lost)⟩])) ∧
  (∀ r : Report, r.bytes.length = 16 ∧ (r.bytes.drop 1).take 4 = timeBytes r.time) ∧
  (∀ (t : Time) (i : SlotId) (bus route : Half) (k : SignalId) (d : Direction) (st : RecordState)
    (reason : ClosureReason) (score : Nat) (sp : Option ServicePart),
    (⟨t, .requestClosed i bus route k d st reason score sp⟩ : Report).bytes =
      [1] ++ timeBytes t ++ [byteOf i.val] ++ halfBytes bus ++ halfBytes route ++
        [byteOf (k.val + 16 * st.code.toNat + 64 * (directionCode d).toNat), reason.code, byteOf score] ++
        (match sp with
          | none => [0, 0, 0]
          | some x => [lastCallCode (some (x.action, x.amount)), byteOf x.refreshCount, if x.served then 1 else 0])) ∧
  (∀ (t : Time) (bus route : Half) (k : SignalId) (d : Direction) (score lowest : Nat),
    (⟨t, .tableFull bus route k d score lowest⟩ : Report).bytes =
      [2] ++ timeBytes t ++ halfBytes bus ++ halfBytes route ++
        [byteOf k.val, directionCode d, byteOf score, byteOf lowest, 0, 0, 0]) ∧
  (∀ (t : Time) (k : SignalId) (old new : ServiceState),
    (⟨t, .signalState k old new⟩ : Report).bytes =
      [3] ++ timeBytes t ++ [byteOf k.val, old.code, new.code, 0, 0, 0, 0, 0, 0, 0, 0]) ∧
  (∀ (t : Time) (p : PortId) (st : PortState) (rate : Option Rate) (bad : Nat),
    (⟨t, .link p st rate bad⟩ : Report).bytes =
      [4] ++ timeBytes t ++ [portCode p, st.code, rateCode rate] ++ halfBytes (BitVec.ofNat 16 bad) ++
        [0, 0, 0, 0, 0, 0]) ∧
  (∀ (t : Time) (p : PortId) (rate : Rate),
    (⟨t, .ready p rate⟩ : Report).bytes =
      [5] ++ timeBytes t ++ [portCode p, rateCode (some rate), 0, 0, 0, 0, 0, 0, 0, 0, 0]) ∧
  ∀ (t : Time) (n : Nat),
    (⟨t, .overrun n⟩ : Report).bytes = [6] ++ timeBytes t ++ [byteOf n, 0, 0, 0, 0, 0, 0, 0, 0, 0, 0]

/-- DISABLE and ENABLE write a signal's flag, recompute its state and evaluate it; OBSERVE ON withdraws every call in force
by a CANCEL before the flag is set, with S unchanged; OBSERVE OFF clears the flag and every signal evaluates. A flag
already as asked changes nothing; a signal index above 15 is refused (R114, R115, R138, R178). -/
def Obligations.FlagSubcommands : Prop :=
  (∀ (p : PortId) (src b : Byte) (s : State) (k : SignalId), Answers s p → b.toNat = k.val →
    exec (.disable p src b) s = .next (finish (placeReply p src { accept := true, payload := [0x64, 1, b, 1] }
      (if s.isDisabled k then s else evaluate k (recompute k (s.setDisabled k true))))) ∧
    exec (.enable p src b) s = .next (finish (placeReply p src { accept := true, payload := [0x64, 2, b, 0] }
      (if s.isDisabled k then evaluate k (recompute k (s.setDisabled k false)) else s)))) ∧
  (∀ (p : PortId) (src b : Byte) (s : State), Answers s p → 15 < b.toNat →
    exec (.disable p src b) s = .next (finish (placeReply p src { accept := false, payload := [0x64, 3] } s)) ∧
    exec (.enable p src b) s = .next (finish (placeReply p src { accept := false, payload := [0x64, 3] } s))) ∧
  (∀ (p : PortId) (src : Byte) (s : State), Answers s p → ∃ u : State,
    exec (.observeOn p src) s =
      .next (finish (placeReply p src { accept := true, payload := [0x64, 3, 0, 1] } u)) ∧
    (s.observe = true → u = s) ∧
    (s.observe = false → u.observe = true ∧
      (∀ k : SignalId, (u.ctx k).call = none ∧ (u.ctx k).spent = (s.ctx k).spent) ∧
      ∀ (k : SignalId) (c : CallContent) (q : PortId), (s.ctx k).call = some c →
        (s.signalEntry k).configuredPort = some q →
        (⟨k, (s.signalEntry k).cabinet, { c with action := .cancel, amount := 0, partialFlag := false }⟩ :
          CallSlot) ∈ (u.port q).callQueue)) ∧
  ∀ (p : PortId) (src : Byte) (s : State), Answers s p →
    exec (.observeOff p src) s =
      .next (finish (placeReply p src { accept := true, payload := [0x64, 4, 0, 0] }
        (if s.observe then evaluateAll allSignals { s with observe := false } else s)))

/-- CORRIDOR RESET abandons an open load, empties the request table, the call queues and the report queue, sets every
context to its values with the state R111 gives, and keeps the tables, the flags, the clock and the rest of the ports; a
frame in flight stays, and what has begun of it keeps its parity (R2, R19, R21, R81, R117, R170, R179). -/
def Obligations.CorridorResetEffect : Prop :=
  ∀ (p : PortId) (src : Byte) (s : State), DerivedOk s → Answers s p → ∃ u : State,
    exec (.corridorReset p src) s =
      .next (finish (placeReply p src { accept := true, payload := [0x64, 5, 0, u.mode.code] } u)) ∧
    u.records = [] ∧ u.reports = [] ∧ u.load = none ∧
    (∀ k : SignalId, u.ctx k = { SignalContext.reset with state := serviceState k u }) ∧
    (∀ q : PortId, u.port q = { s.port q with callQueue := [], txd := (u.port q).txd } ∧
      SentOn s.parity (s.port q) (u.port q) ∧ (u.parity = s.parity → (u.port q).txd = (s.port q).txd)) ∧
    (s.load = none → u.validity = s.validity ∧ u.parity = s.parity) ∧
    (∀ l, s.load = some l → u.validity = s.validity.set l.table .invalid ∧
      u.parity = (if l.table = .global then .noParity else s.parity)) ∧
    u.mode = corridorMode u ∧ u.tables = s.tables ∧ u.disabled = s.disabled ∧ u.observe = s.observe ∧
    u.clock = s.clock ∧ u.ownAddress = s.ownAddress ∧ u.resetHeld = s.resetHeld ∧ u.pending = s.pending

/-! ## Table loading -/

/-- TABLE OPEN is refused while a load is open and for a table, start or count outside the sizes. Otherwise it creates the load
context, a VALID table becomes RELOADING, the records and the service of the covered signals end, the others are left
alone, and the mode is recomputed; the reply names the range and the scope (R116, R159, R160, R161, R162, R163, R172). -/
def Obligations.TableOpenSuspendsScope : Prop :=
  (∀ (p : PortId) (src a b c : Byte) (s : State), Answers s p → s.load.isSome = true →
    exec (.tableOpen p src [a, b, c]) s =
      .next (finish (placeReply p src { accept := false, payload := [0x65, 4] } s))) ∧
  (∀ (p : PortId) (src a b c : Byte) (s : State), Answers s p → s.load = none →
    (5 < a.toNat ∨ ∃ id, tableOf a = some id ∧ (id.entries ≤ b.toNat ∨ id.entries < b.toNat + c.toNat)) →
    exec (.tableOpen p src [a, b, c]) s =
      .next (finish (placeReply p src { accept := false, payload := [0x65, 3] } s))) ∧
  ∀ (p : PortId) (src a b c : Byte) (s : State) (id : TableId) (l : LoadContext), Answers s p → s.load = none →
    tableOf a = some id → b.toNat < id.entries → b.toNat + c.toNat ≤ id.entries →
    l = { table := id, start := b.toNat, expected := c.toNat, writeIndex := b.toNat, written := [], buffer := [],
          port := p, rangeEnd := if c = 0 then id.entries - 1 else b.toNat + c.toNat - 1 } →
    ∃ (u : State) (mask : Half) (wide : Byte),
      exec (.tableOpen p src [a, b, c]) s = .next (finish (placeReply p src
        { accept := true, payload := [0x65, a, b, byteOf l.rangeEnd] ++ halfBytes mask ++ [wide] } u)) ∧
      (∀ k : SignalId, mask.getLsbD k.val = l.covers k) ∧
      wide = (if id = .signal ∨ id = .plan then 0 else 1) ∧
      u.load = some l ∧ u.mode = corridorMode u ∧
      u.validity = (if s.validity.get id = .valid then s.validity.set id .reloading else s.validity) ∧
      u.tables = s.tables ∧ u.disabled = s.disabled ∧ u.observe = s.observe ∧ u.clock = s.clock ∧
      u.parity = s.parity ∧ u.ownAddress = s.ownAddress ∧
      (∀ (i : SlotId) (r : RequestRecord), s.record i = some r →
        u.record i = if l.covers r.signal then none else some r) ∧
      (∀ i : SlotId, s.record i = none → u.record i = none) ∧
      (∀ k : SignalId, l.covers k = false → u.ctx k = s.ctx k) ∧
      ∀ k : SignalId, l.covers k = true →
        ∃ st : ServiceState, (st = .suspended ∨ st = .unconfigured) ∧
          u.ctx k = { s.ctx k with
            state := st, lockout := 0, spent := 0, holder := none, call := none, refreshTimer := none,
            refreshCount := 0 }

/-- TABLE WRITE without a load opened from its port is refused with NOT_OPEN, and one that would reach beyond the range with
BAD_VALUE. Otherwise its bytes follow those pending, every whole entry they make is stored byte for byte at the write
index, which rises and joins the written set, the rest stays pending, and every other entry of every table stays as it
was (R164, R165). A call of a signal that its new entry no longer configures on the port leaves that port's call queue, the
others in their order, and the ports are otherwise as they were (R16). -/
def Obligations.TableWriteStoresEntries : Prop :=
  (∀ (p : PortId) (src : Byte) (d : List Byte) (s : State), Answers s p → d.length ≤ 56 →
    (∀ l, s.load = some l → l.port ≠ p) →
    exec (.tableWrite p src d) s =
      .next (finish (placeReply p src { accept := false, payload := [0x66, 5] } s))) ∧
  (∀ (p : PortId) (src : Byte) (d : List Byte) (s : State) (l : LoadContext), Answers s p → d.length ≤ 56 →
    s.load = some l → l.port = p →
    (l.rangeEnd + 1 - l.writeIndex) * l.table.entrySize < l.buffer.length + d.length →
    exec (.tableWrite p src d) s =
      .next (finish (placeReply p src { accept := false, payload := [0x66, 3] } s))) ∧
  ∀ (p : PortId) (src : Byte) (d : List Byte) (s : State) (l : LoadContext) (n : Nat), Answers s p → LoadOk s →
    d.length ≤ 56 → s.load = some l → l.port = p →
    l.buffer.length + d.length ≤ (l.rangeEnd + 1 - l.writeIndex) * l.table.entrySize →
    n = (l.buffer ++ d).length / l.table.entrySize →
    ∃ (u : State) (m : LoadContext),
      exec (.tableWrite p src d) s = .next (finish (placeReply p src
        { accept := true, payload :=
            [0x66, byteOf m.writeIndex, byteOf m.written.length, byteOf m.buffer.length] } u)) ∧
      u.load = some m ∧
      m = { l with
        writeIndex := l.writeIndex + n
        buffer := (l.buffer ++ d).drop (n * l.table.entrySize)
        written := m.written } ∧
      (∀ i, i ∈ m.written ↔ i ∈ l.written ∨ (l.writeIndex ≤ i ∧ i < l.writeIndex + n)) ∧
      (∀ j, j < n → u.tables.entryBytes l.table (l.writeIndex + j) =
        ((l.buffer ++ d).drop (j * l.table.entrySize)).take l.table.entrySize) ∧
      (∀ (id : TableId) (i : Nat), id ≠ l.table ∨ i < l.writeIndex ∨ l.writeIndex + n ≤ i →
        u.tables.entryBytes id i = s.tables.entryBytes id i) ∧
      (n = 0 → u = { s with load := some m }) ∧
      (DerivedOk s → HolderStatesOk s → QueuesOk s → ∀ q : PortId, u.port q = { s.port q with
        callQueue := (s.port q).callQueue.filter fun c =>
          decide ((u.signalEntry c.signal).configuredPort = some q) }) ∧
      u.validity = s.validity ∧ u.mode = s.mode ∧ u.parity = s.parity ∧ u.clock = s.clock ∧
      u.disabled = s.disabled ∧ u.observe = s.observe ∧ u.ownAddress = s.ownAddress

/-- TABLE SEEK moves the write index within the range and discards a partial entry; outside it, or without a load opened from
its port, it is refused. TABLE READ returns the least of the count asked for, the entries to the table's end and the
entries that fit in 51 bytes, byte for byte as stored (R166, R171, R188). -/
def Obligations.TableSeekAndRead : Prop :=
  (∀ (p : PortId) (src b : Byte) (s : State), Answers s p → (∀ l, s.load = some l → l.port ≠ p) →
    exec (.tableSeek p src [b]) s =
      .next (finish (placeReply p src { accept := false, payload := [0x67, 5] } s))) ∧
  (∀ (p : PortId) (src b : Byte) (s : State) (l : LoadContext), Answers s p → s.load = some l → l.port = p →
    exec (.tableSeek p src [b]) s = .next (finish
      (if l.start ≤ b.toNat ∧ b.toNat ≤ l.rangeEnd then
        placeReply p src { accept := true, payload := [0x67, b, byteOf l.written.length] }
          { s with load := some { l with writeIndex := b.toNat, buffer := [] } }
      else placeReply p src { accept := false, payload := [0x67, 3] } s))) ∧
  (∀ (p : PortId) (src a b c : Byte) (s : State), Answers s p →
    (tableOf a = none ∨ (∃ id, tableOf a = some id ∧ id.entries ≤ b.toNat) ∨ c.toNat = 0 ∨ 128 < c.toNat) →
    exec (.tableRead p src [a, b, c]) s =
      .next (finish (placeReply p src { accept := false, payload := [0x6A, 3] } s))) ∧
  ∀ (p : PortId) (src a b c : Byte) (s : State) (id : TableId) (n : Nat), Answers s p →
    tableOf a = some id → b.toNat < id.entries → 1 ≤ c.toNat → c.toNat ≤ 128 →
    n = min c.toNat (min (id.entries - b.toNat) (51 / id.entrySize)) →
    ∃ d : List Byte,
      exec (.tableRead p src [a, b, c]) s = .next (finish (placeReply p src
        { accept := true, payload := [0x6A, a, b, (s.validity.get id).code, byteOf n] ++ d } s)) ∧
      d.length = n * id.entrySize ∧
      ∀ i, i < n → (d.drop (i * id.entrySize)).take id.entrySize = s.tables.entryBytes id (b.toNat + i)

/-- TABLE CLOSE is refused without a load opened from its port, with a partial entry pending, with a written set short of the
expected count, and with the first failing check of R169, and changes nothing then. Otherwise the table becomes VALID, the
load ends, a GLOBAL close sets the parity, what has begun of a frame in flight keeping the old one, and every signal has
the state R111 gives (R2, R19, R167, R168, R169). -/
def Obligations.TableCloseValidates : Prop :=
  (∀ (p : PortId) (src : Byte) (s : State), Answers s p → (∀ l, s.load = some l → l.port ≠ p) →
    exec (.tableClose p src []) s =
      .next (finish (placeReply p src { accept := false, payload := [0x68, 5] } s))) ∧
  (∀ (p : PortId) (src : Byte) (s : State) (l : LoadContext), Answers s p → s.load = some l → l.port = p →
    (l.buffer ≠ [] →
      exec (.tableClose p src []) s =
        .next (finish (placeReply p src { accept := false, payload := [0x68, 6] } s))) ∧
    (l.buffer = [] → 0 < l.expected → l.written.length ≠ l.expected →
      exec (.tableClose p src []) s =
        .next (finish (placeReply p src { accept := false, payload := [0x68, 7] } s))) ∧
    (l.buffer = [] → (l.expected = 0 ∨ l.written.length = l.expected) →
      ∀ id i, firstFailedCheck l.table s = some (id, i) →
        exec (.tableClose p src []) s = .next (finish (placeReply p src
          { accept := false, payload := [0x68, 8, id.code, byteOf i] } s)))) ∧
  ∀ (p : PortId) (src : Byte) (s : State) (l : LoadContext), Answers s p → s.load = some l → l.port = p →
    l.buffer = [] → (l.expected = 0 ∨ l.written.length = l.expected) → firstFailedCheck l.table s = none →
    ∃ u : State,
      exec (.tableClose p src []) s = .next (finish (placeReply p src
        { accept := true, payload := [0x68, l.table.code, 1] } u)) ∧
      u.load = none ∧ u.validity = s.validity.set l.table .valid ∧ u.tables = s.tables ∧
      u.parity = (if l.table = .global then (parityOf s.tables.global.parity).getD s.parity else s.parity) ∧
      (∀ q : PortId, SameReceiver (s.port q) (u.port q) ∧ SentOn s.parity (s.port q) (u.port q) ∧
        (u.parity = s.parity → (u.port q).txd = (s.port q).txd)) ∧
      u.mode = corridorMode u ∧ (∀ k : SignalId, (u.ctx k).state = serviceState k u) ∧
      u.clock = s.clock ∧ u.disabled = s.disabled ∧ u.observe = s.observe ∧ u.ownAddress = s.ownAddress ∧
      ∀ i : SlotId, (u.record i).map RequestRecord.unserved = (s.record i).map RequestRecord.unserved

/-- TABLE ABANDON ends the load from either port: the entries stored stay, the table becomes INVALID, an abandoned GLOBAL load
sets the parity to NONE, what has begun of a frame in flight keeping the old one, and every signal becomes UNCONFIGURED with
no call in force and no holder; without a load it is refused with NOT_OPEN (R2, R19, R159, R170). -/
def Obligations.TableAbandonLeavesInvalid : Prop :=
  (∀ (p : PortId) (src : Byte) (s : State), Answers s p → s.load = none →
    exec (.tableAbandon p src []) s =
      .next (finish (placeReply p src { accept := false, payload := [0x69, 5] } s))) ∧
  ∀ (p : PortId) (src : Byte) (s : State) (l : LoadContext), Answers s p →
    DerivedOk s → HoldersOk s → HolderStatesOk s → CallsOk s → s.load = some l →
    ∃ u : State,
      exec (.tableAbandon p src []) s = .next (finish (placeReply p src
        { accept := true, payload := [0x69, l.table.code, 0] } u)) ∧
      u.load = none ∧ u.validity = s.validity.set l.table .invalid ∧ u.tables = s.tables ∧
      u.parity = (if l.table = .global then .noParity else s.parity) ∧ u.mode = corridorMode u ∧
      (∀ q : PortId, SameReceiver (s.port q) (u.port q) ∧ SentOn s.parity (s.port q) (u.port q) ∧
        (u.parity = s.parity → (u.port q).txd = (s.port q).txd)) ∧
      (∀ k : SignalId, (u.ctx k).state = .unconfigured ∧ (u.ctx k).holder = none ∧ (u.ctx k).call = none) ∧
      u.clock = s.clock ∧ u.disabled = s.disabled ∧ u.observe = s.observe ∧ u.ownAddress = s.ownAddress ∧
      ∀ i : SlotId, (u.record i).map RequestRecord.unserved = (s.record i).map RequestRecord.unserved

/-! ## Bus reports, status frames and timers -/

/-- A bus report has no effect while the mode is not ACTIVE, with bus number 0, a heading other than A or B, a route above
9,999, or a route that no in-use entry and no default route answers; a status frame has none when every context it is
handed to finds its plan select without a meaning or its position not below the cycle length (R25, R26, R28, R100). -/
def Obligations.IgnoredFrames : Prop :=
  (∀ (p : PortId) (r : BusReport) (s : State), HandsOn s p →
    (s.mode ≠ .active ∨ r.bus = 0 ∨ 1 < r.heading.toNat ∨ 9999 < r.route.toNat ∨
      ∀ i : Fin 32, flagSet s.tables.route[i].inUse = true →
        s.tables.route[i].number ≠ r.route ∧ s.tables.route[i].number ≠ 0) →
    exec (.busReport p r) s = .next (finish s)) ∧
  ∀ (p : PortId) (src : Byte) (f : SignalStatus) (s : State), HandsOn s p →
    (∀ k : SignalId, flagSet (s.signalEntry k).inUse = true → (s.signalEntry k).cabinet = src →
      portOf (s.signalEntry k).port = some p →
      1 < f.planSelect.toNat ∨
        ∀ q, planOf f.planSelect = some q → flagSet (s.tables.planEntry k q).inUse = true ∧
          (s.tables.planEntry k q).cycle.toNat ≤ f.position.toNat) →
    exec (.signalStatus p src f) s = .next (finish s)

/-- A report with CANCEL closes every record of its bus with reason CANCELED and its REQUEST_CLOSED report, in ascending order
of slot, begins no lockout, and makes no zone lookup, no check-in and no update; for a bus without a record nothing comes of
it (R29, R78, R79, R80, R109). -/
def Obligations.CancelReportClosesAll : Prop :=
  ∀ (p : PortId) (r : BusReport) (t : TakenReport) (route : Fin 32) (s : State), HandsOn s p →
    s.mode = .active → taken r = some t → resolveRoute s.tables t.route = some route → t.cancel = true →
    ∃ u : State, exec (.busReport p r) s = .next u ∧ SameConfig s u ∧
      (∀ q : PortId, SameReceiver (s.port q) (u.port q)) ∧
      (∀ i x, s.record i = some x → x.bus = r.bus → u.record i = none) ∧
      (∀ i, (∀ x, s.record i = some x → x.bus ≠ r.bus) →
        (u.record i).map RequestRecord.unserved = (s.record i).map RequestRecord.unserved) ∧
      (DerivedOk s →
        u.reports = closureReports s .canceled (s.records.filter fun x => x.2.bus == r.bus)) ∧
      (∀ k : SignalId, (u.ctx k).lockout = (s.ctx k).lockout) ∧
      ((∀ i x, s.record i = some x → x.bus ≠ r.bus) →
        u = finish { s with freeCount := s.freeCount + 1 })

/-- A report in a CHECK_IN zone of a signal open to check-in creates, for a bus without a record there, a record in the
lowest free slot with the fields R56 to R58 give, its arrival and score from the report, and before the evaluation ARMED
beyond the horizon and otherwise WAITING, without an outcome, a call or a count, as it stays unless it becomes holder; then, where R44 allows it and a slot is still free, a projected record at the next
signal of its chain; no other record is made, and the records of other buses keep all but their fields of service (R32, R44
to R47, R59, R64). -/
def Obligations.CheckInCreatesRecord : Prop :=
  ∀ (p : PortId) (r : BusReport) (t : TakenReport) (route : Fin 32) (z : ZoneEntry) (k : SignalId) (i : SlotId)
    (s : State), HandsOn s p → HoldersOk s → s.mode = .active → taken r = some t →
    resolveRoute s.tables t.route = some route → t.cancel = false →
    zoneAt s.tables t.heading t.position = some z → z.kind = 0 → z.signal.toNat = k.val →
    (s.ctx k).state ≠ .unconfigured → (s.ctx k).state ≠ .suspended →
    s.findRecord t.bus k = none → s.freeSlot = some i →
    ∃ (u : State) (x : RequestRecord), exec (.busReport p r) s = .next u ∧ SameConfig s u ∧
      (∀ q : PortId, SameReceiver (s.port q) (u.port q)) ∧ u.record i = some x ∧
      x.bus = t.bus ∧ x.routeIndex = route ∧ x.routeNumber = t.route ∧ x.signal = k ∧ x.direction = t.heading ∧
      x.cursor = placeCursor s.tables route k t.heading ∧ x.position = t.position ∧ x.speed = t.speed ∧
      x.latenessSec = t.latenessSec ∧ x.occupancy = t.occupancy ∧ x.nominalSpeed = z.nominalSpeed.toNat ∧
      x.stopDwell = z.stopDwell.toNat ∧ x.doorsOpen = t.doorsOpen ∧
      (x.stopPending = true ↔ 0 < z.stopDwell.toNat ∧ t.doorsOpen = false) ∧
      x.lapsed = false ∧ x.served = false ∧ x.projectionExpiry = none ∧
      x.arrival = later s.clock (travelSum s.tables.global (s.signalEntry k) x) ∧
      x.score = baseScore s.tables.global s.tables.route[route] t.latenessSec t.occupancy ∧
      x.ageExpiry = later s.clock (10 * s.tables.global.holdTime.toNat) ∧
      (s.horizonUnits k < remaining s.clock x.arrival → x.state = .armed ∧
        x.horizonEntry = some (x.arrival - BitVec.ofNat 32 (s.horizonUnits k))) ∧
      (remaining s.clock x.arrival ≤ s.horizonUnits k →
        (x.state = .waiting ∨ x.state = .holding) ∧ x.horizonEntry = none) ∧
      (∃ w : RequestRecord, createRecord i t k z route s = s.setRecord i (some w) ∧ w.unserved = x.unserved ∧
        w.state ≠ .holding ∧ PlacedByHorizon s w ∧ w.lapsed = false ∧ w.lastOutcome = none ∧
        w.partialFlag = false ∧ w.committed = 0 ∧ w.refreshCount = 0 ∧ w.lastCall = none) ∧
      ((u.ctx k).holder ≠ some i → x.lastOutcome = none ∧ x.partialFlag = false ∧ x.committed = 0 ∧
        x.refreshCount = 0 ∧ x.lastCall = none) ∧
      (∀ j y, s.record j = some y → y.bus ≠ t.bus →
        (u.record j).map RequestRecord.unserved = some y.unserved) ∧
      (∀ next m d j, ProjectionOpen s x next m d → m ≠ k → LowestFree s (some i) j →
        ∃ q : RequestRecord, u.record j = some q ∧ ProjectedFrom s x next m d t.doorsOpen q ∧
          (precedingSegment s.tables route next = x.cursor →
            IsChainedArrival s.clock x.arrival s.tables.segment[next] q.arrival) ∧
          ∀ l, l ≠ i → l ≠ j → (u.record l).isSome = (s.record l).isSome) ∧
      ((∀ next m d, ProjectionOpen s x next m d → m = k) ∨ (∀ j, ¬ LowestFree s (some i) j) →
        ∀ l, l ≠ i → (u.record l).isSome = (s.record l).isSome)

/-- A check-in of a bus whose record at the signal is PROJECTED converts that record in its slot: it has the fields R65 gives,
the state of R59 and, where R44 allows it, a projection at its chain's next signal, and before the evaluation it keeps its
last outcome, partial flag, commitment, refresh count, last call, LAPSED and SERVED; one whose record there is of origin
CHECK_IN updates it and makes no record (R35, R44, R50, R59, R65, R69). With no slot free the check-in displaces the PROJECTED
record of lowest score, or with none PROJECTED the non-holder of lowest score when the newcomer's score is higher, ties going
to the highest slot; otherwise TABLE_FULL is written and every slot keeps its record (R66, R67, R68). -/
def Obligations.CheckInConvertsOrDisplaces : Prop :=
  ∀ (p : PortId) (r : BusReport) (t : TakenReport) (route : Fin 32) (z : ZoneEntry) (k : SignalId) (i : SlotId)
    (x : RequestRecord) (s : State) (newcomer : Nat), HandsOn s p → HoldersOk s → UniqueRecords s →
    s.mode = .active → taken r = some t → resolveRoute s.tables t.route = some route → t.cancel = false →
    zoneAt s.tables t.heading t.position = some z → z.kind = 0 → z.signal.toNat = k.val →
    (s.ctx k).state ≠ .unconfigured → (s.ctx k).state ≠ .suspended → s.record i = some x →
    newcomer = baseScore s.tables.global s.tables.route[route] t.latenessSec t.occupancy →
    ∃ u : State, exec (.busReport p r) s = .next u ∧ SameConfig s u ∧
      (x.bus = t.bus → x.signal = k → x.state = .projected → ∃ y : RequestRecord, u.record i = some y ∧
        y.bus = x.bus ∧ y.routeIndex = x.routeIndex ∧ y.routeNumber = x.routeNumber ∧ y.signal = k ∧
        y.direction = t.heading ∧ y.cursor = settleCursor s.tables x.routeIndex x.cursor k t.heading ∧
        y.position = t.position ∧ y.speed = t.speed ∧ y.latenessSec = t.latenessSec ∧
        y.occupancy = t.occupancy ∧ y.nominalSpeed = z.nominalSpeed.toNat ∧
        y.stopDwell = z.stopDwell.toNat ∧ y.doorsOpen = t.doorsOpen ∧
        (y.stopPending = true ↔ 0 < z.stopDwell.toNat ∧ t.doorsOpen = false) ∧
        y.lapsed = x.lapsed ∧ y.served = x.served ∧ PlacedByHorizon s y ∧ y.projectionExpiry = none ∧
        y.arrival = later s.clock (travelSum s.tables.global (s.signalEntry k) y) ∧
        y.score = baseScore s.tables.global s.tables.route[x.routeIndex] t.latenessSec t.occupancy ∧
        y.ageExpiry = later s.clock (10 * s.tables.global.holdTime.toNat) ∧
        ((s.ctx k).holder ≠ some i → (u.ctx k).holder ≠ some i →
          y.lastOutcome = x.lastOutcome ∧ y.partialFlag = x.partialFlag ∧ y.committed = x.committed ∧
            y.refreshCount = x.refreshCount ∧ y.lastCall = x.lastCall) ∧
        (∃ w : RequestRecord, convertRecord i x t z s = s.setRecord i (some w) ∧ w.unserved = y.unserved ∧
          w.lapsed = x.lapsed ∧ w.lastOutcome = x.lastOutcome ∧ w.partialFlag = x.partialFlag ∧
          w.committed = x.committed ∧ w.refreshCount = x.refreshCount ∧ w.lastCall = x.lastCall ∧
          ((s.ctx k).holder = some i → w.state = .holding ∧ w.horizonEntry = none) ∧
          ((s.ctx k).holder ≠ some i → w.state ≠ .holding ∧ PlacedByHorizon s w)) ∧
        (∀ next m d j, ProjectionOpen s y next m d → LowestFree s none j →
          ∃ q : RequestRecord, u.record j = some q ∧ ProjectedFrom s y next m d t.doorsOpen q ∧
            (precedingSegment s.tables x.routeIndex next = y.cursor →
              IsChainedArrival s.clock y.arrival s.tables.segment[next] q.arrival) ∧
            ∀ l, l ≠ j → (u.record l).isSome = (s.record l).isSome) ∧
        ((∀ next m d, ¬ ProjectionOpen s y next m d) ∨ (∀ j, ¬ LowestFree s none j) →
          ∀ l, (u.record l).isSome = (s.record l).isSome)) ∧
      (x.bus = t.bus → x.signal = k → x.state ≠ .projected →
        (RecordTimersOk s → ∃ y : RequestRecord, u.record i = some y ∧ y.bus = x.bus ∧ y.signal = k ∧
          UpdatedBy t s u x y) ∧
        ∀ j, (u.record j).isSome = (s.record j).isSome) ∧
      ((∀ j, (s.record j).isSome = true) →
        (∀ j y, s.record j = some y → y.bus = t.bus → y.signal ≠ k) →
        ((x.state = .projected ∧ ∀ j y, s.record j = some y → y.state = .projected →
            x.score < y.score ∨ (x.score = y.score ∧ j ≤ i)) ∨
          ((∀ j y, s.record j = some y → y.state ≠ .projected) ∧ (s.ctx x.signal).holder ≠ some i ∧
            x.score < newcomer ∧ ∀ j y, s.record j = some y → (s.ctx y.signal).holder ≠ some j →
              x.score < y.score ∨ (x.score = y.score ∧ j ≤ i))) →
        (∃ y : RequestRecord, u.record i = some y ∧ y.bus = t.bus ∧ y.signal = k ∧
          y.direction = t.heading ∧ y.state ≠ .projected ∧ y.score = newcomer) ∧
        (s.reports.length < 31 →
          u.reports[s.reports.length]? = some (⟨s.clock, .requestClosed i x.bus x.routeNumber x.signal
            x.direction x.state .displaced x.score x.servicePart⟩ : Report)) ∧
        ∀ j y, j ≠ i → s.record j = some y → ∃ w, u.record j = some w ∧ w.bus = y.bus ∧ w.signal = y.signal) ∧
      ((∀ j, (s.record j).isSome = true) →
        (∀ j y, s.record j = some y → y.bus = t.bus → y.signal ≠ k) →
        (∀ j y, s.record j = some y → y.state ≠ .projected) → (s.ctx x.signal).holder ≠ some i →
        newcomer ≤ x.score →
        (∀ j y, s.record j = some y → (s.ctx y.signal).holder ≠ some j →
          x.score < y.score ∨ (x.score = y.score ∧ j ≤ i)) →
        (s.reports.length < 31 →
          u.reports[s.reports.length]? =
            some (⟨s.clock, .tableFull t.bus t.route k t.heading newcomer x.score⟩ : Report)) ∧
        ∀ j y, s.record j = some y → ∃ w, u.record j = some w ∧ w.bus = y.bus ∧ w.signal = y.signal)

/-- A projection attempt makes one record, in the lowest free slot, when the conditions of R44 hold, with the fields of R45,
the arrival of R46, the expiries of R47 and nothing of service yet; when one of them fails, for a record without a cursor or
at an END segment too, it leaves everything as it is. -/
def Obligations.ProjectionFollowsChain : Prop :=
  ∀ (i : SlotId) (r : RequestRecord) (doors : Bool) (s : State), s.record i = some r →
    (∀ next k d j, ProjectionOpen s r next k d → LowestFree s none j →
      ∃ q : RequestRecord, attemptProjection i doors s = (s.setRecord j (some q), [k]) ∧
        ProjectedFrom s r next k d doors q ∧
        IsChainedArrival s.clock r.arrival s.tables.segment[next] q.arrival ∧
        q.committed = 0 ∧ q.refreshCount = 0 ∧ q.lastCall = none ∧ q.lastOutcome = none ∧
        q.partialFlag = false) ∧
    ((∀ next k d, ¬ ProjectionOpen s r next k d) ∨ (∀ j, ¬ LowestFree s none j) →
      attemptProjection i doors s = (s, []))

/-- A report in a CHECK_OUT zone closes the bus's record at the zone's signal with reason CHECKED_OUT, whatever its direction,
origin and state, and writes its REQUEST_CLOSED report; a report in no zone closes exactly the bus's records with a negative
distance for their own direction, with reason INFERRED_OUT and their reports in ascending order of slot; each begins the
lockout of R109 at a signal whose SERVED holder it closes (R31, R33, R78, R79, R80, R109). Every record of the bus that a
report without CANCEL leaves open is updated: refreshed, re-estimated behind its chain's preceding record, or left as it is by
its origin and heading; other buses' records keep all but their fields of service (R34, R48, R61, R69, R70, R71). -/
def Obligations.ReportsCloseAndUpdateRecords : Prop :=
  (∀ (p : PortId) (r : BusReport) (t : TakenReport) (route : Fin 32) (z : ZoneEntry) (k : SignalId) (i : SlotId)
    (x : RequestRecord) (s : State), HandsOn s p → UniqueRecords s → s.mode = .active → taken r = some t →
    resolveRoute s.tables t.route = some route → t.cancel = false →
    zoneAt s.tables t.heading t.position = some z → z.kind = 1 → z.signal.toNat = k.val →
    s.record i = some x → x.bus = t.bus → x.signal = k →
    ∃ u : State, exec (.busReport p r) s = .next u ∧ SameConfig s u ∧ u.record i = none ∧
      (∀ j, j ≠ i → (u.record j).isSome = (s.record j).isSome) ∧
      (s.reports.length < 31 →
        u.reports[s.reports.length]? = some (⟨s.clock, .requestClosed i x.bus x.routeNumber k x.direction x.state
          .checkedOut x.score x.servicePart⟩ : Report)) ∧
      (DerivedOk s → u.reports = closureReports s .checkedOut [(i, x)]) ∧
      LockoutsBegin s u (fun j _ => j = i) ∧
      ∀ j y, s.record j = some y → y.bus ≠ t.bus →
        (u.record j).map RequestRecord.unserved = some y.unserved) ∧
  (∀ (p : PortId) (r : BusReport) (t : TakenReport) (route : Fin 32) (s : State), HandsOn s p →
    s.mode = .active → taken r = some t → resolveRoute s.tables t.route = some route → t.cancel = false →
    zoneAt s.tables t.heading t.position = none →
    ∃ u : State, exec (.busReport p r) s = .next u ∧ SameConfig s u ∧
      (∀ i x, s.record i = some x → x.bus = t.bus →
        (u.record i = none ↔ distance (s.signalEntry x.signal) x.direction t.position < 0)) ∧
      (DerivedOk s → u.reports = closureReports s .inferredOut (s.records.filter fun x =>
        x.2.bus == t.bus && decide (distance (s.signalEntry x.2.signal) x.2.direction t.position < 0))) ∧
      LockoutsBegin s u (fun _ x =>
        x.bus = t.bus ∧ distance (s.signalEntry x.signal) x.direction t.position < 0) ∧
      ∀ i, (∀ x, s.record i = some x → x.bus ≠ t.bus) →
        (u.record i).map RequestRecord.unserved = (s.record i).map RequestRecord.unserved) ∧
  ∀ (p : PortId) (r : BusReport) (t : TakenReport) (route : Fin 32) (s : State), HandsOn s p →
    HoldersOk s → UniqueRecords s → RecordTimersOk s →
    s.mode = .active → taken r = some t → resolveRoute s.tables t.route = some route → t.cancel = false →
    ∃ u : State, exec (.busReport p r) s = .next u ∧ SameConfig s u ∧
      ∀ i x, s.record i = some x →
        (∀ y, u.record i = some y → y.bus = x.bus → y.signal = x.signal → UpdatedBy t s u x y) ∧
        ((zoneAt s.tables t.heading t.position = none ∧
            (x.bus = t.bus → 0 ≤ distance (s.signalEntry x.signal) x.direction t.position)) ∨
          (∃ z, zoneAt s.tables t.heading t.position = some z ∧
            (z.kind = 1 → x.bus = t.bus → z.signal.toNat ≠ x.signal.val) ∧
            (z.kind ≠ 1 → (∃ j, s.record j = none) ∨ (x.bus = t.bus ∧ z.signal.toNat = x.signal.val))) →
          ∃ y, u.record i = some y ∧ y.bus = x.bus ∧ y.signal = x.signal)

/-- HORIZON_ENTRY takes an ARMED record into WAITING, removes its horizon entry time and makes its signal evaluate at once,
from which the record is WAITING or HOLDING; the other signals keep their contexts and records (R62). That the command does
nothing before its time is the model's reading (assumption 11). -/
def Obligations.HorizonEntryWakesRecord : Prop :=
  (∀ (i : SlotId) (x : RequestRecord) (h : Time) (s : State), s.resetHeld = false → HoldersOk s →
    s.record i = some x → x.state = .armed → x.horizonEntry = some h → 0 ≤ timeDiff s.clock h →
    ∃ (u : State) (y : RequestRecord), exec (.horizonEntry i) s = .next u ∧
      u = finish (evaluate x.signal
        (s.setRecord i (some { x with state := .waiting, horizonEntry := none }))) ∧
      u.record i = some y ∧
      (y.state = .waiting ∨ y.state = .holding) ∧ y.horizonEntry = none ∧ y.unserved = x.unserved ∧
      SameConfig s u ∧ SameBeyond x.signal s u ∧ (∀ q : PortId, SameReceiver (s.port q) (u.port q)) ∧
      u.reports = s.reports) ∧
  ∀ (i : SlotId) (s : State), s.resetHeld = false → ¬ Due s (.horizonEntry i) →
    exec (.horizonEntry i) s = .next (finish s)

/-- AGE_EXPIRY closes a record of origin CHECK_IN with reason EXPIRED, and PROJECTION_EXPIRY a projected one with reason
PROJECTION_LAPSED: the slot is free, the report is written, the record is no holder, the lockout count stays, and the
other signals keep their contexts and records (R47, R75, R78, R80, R109). That neither command does anything before its time
is the model's reading (assumption 11). -/
def Obligations.ExpiriesCloseRecords : Prop :=
  (∀ (c : Instr) (i : SlotId) (x : RequestRecord) (reason : ClosureReason) (s : State),
    s.resetHeld = false → HoldersOk s → s.record i = some x → Due s c →
    (c = .ageExpiry i ∧ reason = .expired ∨ c = .projectionExpiry i ∧ reason = .projectionLapsed) →
    ∃ u : State, exec c s = .next u ∧ u.record i = none ∧ (u.ctx x.signal).holder ≠ some i ∧
      (u.ctx x.signal).lockout = (s.ctx x.signal).lockout ∧
      (s.reports.length < 31 →
        u.reports[s.reports.length]? = some (⟨s.clock, .requestClosed i x.bus x.routeNumber x.signal x.direction x.state
          reason x.score x.servicePart⟩ : Report)) ∧
      SameConfig s u ∧ SameBeyond x.signal s u ∧ ∀ q : PortId, SameReceiver (s.port q) (u.port q)) ∧
  ∀ (i : SlotId) (s : State), s.resetHeld = false →
    (¬ Due s (.ageExpiry i) → exec (.ageExpiry i) s = .next (finish s)) ∧
    (¬ Due s (.projectionExpiry i) → exec (.projectionExpiry i) s = .next (finish s))

/-- FRESHNESS_EXPIRY makes a FRESH context STALE and keeps what the last frame brought; a READY, LOCKOUT or INHIBITED signal
becomes NO_STATUS with its report and no call in force, another keeps its state; the other signals keep their contexts
and records (R103, R113). That the command does nothing before its time is the model's reading (assumption 11). -/
def Obligations.FreshnessExpiryMakesStale : Prop :=
  (∀ (k : SignalId) (h : Time) (s : State), s.resetHeld = false → DerivedOk s → HoldersOk s → CallsOk s →
    (s.ctx k).freshness = .fresh h → 0 ≤ timeDiff s.clock h →
    ∃ u : State, exec (.freshnessExpiry k) s = .next u ∧
      (u.ctx k).freshness = .stale ∧ (u.ctx k).taken = (s.ctx k).taken ∧ (u.ctx k).plan = (s.ctx k).plan ∧
      (u.ctx k).accepting = (s.ctx k).accepting ∧ (u.ctx k).service = (s.ctx k).service ∧
      (u.ctx k).lockout = (s.ctx k).lockout ∧ (u.ctx k).spent = (s.ctx k).spent ∧ (u.ctx k).call = none ∧
      ((s.ctx k).state = .ready ∨ (s.ctx k).state = .lockout ∨ (s.ctx k).state = .inhibited →
        (u.ctx k).state = .noStatus ∧ u.reports = storeReport s.clock
          (.signalState k (s.ctx k).state .noStatus) s.reports) ∧
      ((s.ctx k).state = .unconfigured ∨ (s.ctx k).state = .suspended ∨ (s.ctx k).state = .disabled →
        (u.ctx k).state = (s.ctx k).state ∧ u.reports = s.reports) ∧
      SameConfig s u ∧ SameBeyond k s u ∧ ∀ q : PortId, SameReceiver (s.port q) (u.port q)) ∧
  ∀ (k : SignalId) (s : State), s.resetHeld = false → ¬ Due s (.freshnessExpiry k) →
    exec (.freshnessExpiry k) s = .next (finish s)

/-- REFRESH_EXPIRY evaluates first. A call left unchanged below N refreshes is sent again with its content: both refresh counts
rise by 1, the timer is set to the refresh period, and nothing else changes but the call queue. At N refreshes the call
lapses: its holder is LAPSED, keeps its last call and count, and holds no more. A changed call ends the expiry (R149, R150,
R151, R152). That the command does nothing before its time is the model's reading (assumption 11). -/
def Obligations.RefreshExpiryCopiesOrLapses : Prop :=
  (∀ (k : SignalId) (h : Time) (s t : State) (c : CallContent) (i : SlotId) (x : RequestRecord),
    s.resetHeld = false → (s.ctx k).refreshTimer = some h → 0 ≤ timeDiff s.clock h → t = evaluate k s →
    callUnchanged k s t = true → (t.ctx k).call = some c → (t.ctx k).holder = some i → t.record i = some x →
    ((t.ctx k).refreshCount < (t.planInEffect k).maxRefreshes.toNat →
      ∃ u : State, exec (.refreshExpiry k) s = .next (finish u) ∧
        u.ctx k = { t.ctx k with
          refreshCount := (t.ctx k).refreshCount + 1
          refreshTimer := some (later s.clock ((2 + (t.planInEffect k).periodA.toNat) *
            2 ^ (t.planInEffect k).periodB.toNat * 5)) } ∧
        (∀ j, j ≠ k → u.ctx j = t.ctx j) ∧
        u.record i = some { x with refreshCount := x.refreshCount + 1 } ∧
        (∀ j, j ≠ i → u.record j = t.record j) ∧ SameConfig t u ∧ u.reports = t.reports ∧
        (∀ q : PortId, { u.port q with callQueue := [] } = { t.port q with callQueue := [] }) ∧
        ∀ q : PortId, (t.signalEntry k).configuredPort = some q →
          (⟨k, (t.signalEntry k).cabinet, c⟩ : CallSlot) ∈ (u.port q).callQueue) ∧
    ((t.planInEffect k).maxRefreshes.toNat ≤ (t.ctx k).refreshCount →
      ∃ (u : State) (y : RequestRecord), exec (.refreshExpiry k) s = .next (finish u) ∧
        u.record i = some y ∧ y.lapsed = true ∧ y.state ≠ .holding ∧ (u.ctx k).holder ≠ some i ∧
        y.refreshCount = x.refreshCount ∧ y.lastCall = x.lastCall ∧ y.committed = x.committed ∧
        (∀ j, j ≠ k → u.ctx j = t.ctx j) ∧ SameConfig t u ∧ u.reports = t.reports)) ∧
  (∀ (k : SignalId) (h : Time) (s : State), s.resetHeld = false → (s.ctx k).refreshTimer = some h →
    0 ≤ timeDiff s.clock h → callUnchanged k s (evaluate k s) = false →
    exec (.refreshExpiry k) s = .next (finish (evaluate k s))) ∧
  ∀ (k : SignalId) (s : State), s.resetHeld = false → ¬ Due s (.refreshExpiry k) →
    exec (.refreshExpiry k) s = .next (finish s)

/-- A status frame that one context takes restarts its freshness, sets its plan, taken position and time, ACCEPTING and the
service in effect, lowers a lockout count at a cycle boundary only, recomputes the state with the SIGNAL_STATE report of
R113, and, at a change of plan select or a cycle boundary, clears S and the commitments that the evaluation does not renew.
SERVED is set in the holder that has a call in force when service is in effect, and in no other record; at a change of plan
every record of origin CHECK_IN is placed by the new plan's horizon (R61); the rest of the records stays, as do the contexts
and records of the other signals (R100, R101, R102, R104, R105, R107, R109, R110, R112). -/
def Obligations.StatusFrameIsTaken : Prop :=
  ∀ (p : PortId) (src : Byte) (f : SignalStatus) (k : SignalId) (plan : PlanId) (s : State) (boundary changed : Bool),
    HandsOn s p → HoldersOk s →
    (∀ j : SignalId, (flagSet (s.signalEntry j).inUse = true ∧ (s.signalEntry j).cabinet = src ∧
      portOf (s.signalEntry j).port = some p) ↔ j = k) →
    planOf f.planSelect = some plan →
    (flagSet (s.tables.planEntry k plan).inUse = false ∨
      f.position.toNat < (s.tables.planEntry k plan).cycle.toNat) →
    changed = ((s.ctx k).freshness != .never && (s.ctx k).taken.isSome && plan != (s.ctx k).plan) →
    boundary = ((s.ctx k).freshness != .never && plan == (s.ctx k).plan &&
      (s.ctx k).taken.any fun x => decide (f.position.toNat < x.1.toNat)) →
    ∃ u : State, exec (.signalStatus p src f) s = .next (finish u) ∧
      (u.ctx k).freshness = .fresh (later s.clock
        (if s.validity.global = .valid then s.tables.global.statusTimeout.toNat else 100)) ∧
      (u.ctx k).plan = plan ∧ (u.ctx k).taken = some (f.position, s.clock) ∧
      (u.ctx k).accepting = f.flags.getLsbD 0 ∧
      (u.ctx k).service = (if f.service = 0 then .noService else if f.service = 1 then .extending
        else if f.service = 2 then .early else .unknown) ∧
      (u.ctx k).lockout = (if boundary then (s.ctx k).lockout - 1 else (s.ctx k).lockout) ∧
      (u.ctx k).state = serviceState k u ∧
      u.reports = (if (u.ctx k).state ≠ (s.ctx k).state ∧
          ((s.ctx k).state = .noStatus ∨ (s.ctx k).state = .inhibited ∨ (u.ctx k).state = .noStatus ∨
            (u.ctx k).state = .inhibited)
        then storeReport s.clock (.signalState k (s.ctx k).state (u.ctx k).state) s.reports else s.reports) ∧
      (∀ i, s.record i = none → u.record i = none) ∧
      (∀ i x, s.record i = some x → x.signal = k → ∃ y, u.record i = some y ∧
        y.unserved = { x.unserved with served := x.served ||
          ((s.ctx k).holder == some i && (s.ctx k).call.isSome && f.service != 0) } ∧
        (RecordTimersOk s → plan ≠ (s.ctx k).plan → x.state ≠ .projected → PlacedByHorizon u y)) ∧
      (changed = true ∨ boundary = true →
        ((u.ctx k).call = none → (u.ctx k).spent = 0) ∧
        ∀ i x, u.record i = some x → x.signal = k → (u.ctx k).holder ≠ some i → x.committed = 0) ∧
      SameConfig s u ∧ SameBeyond k s u ∧ ∀ q : PortId, SameReceiver (s.port q) (u.port q)

/-! ## Arrival, score and rank -/

/-- The arrival time: the report time plus 0 at or past the stop bar, and otherwise plus the travel time rounded up, with the
stop dwell while STOP_PENDING is set, held to one hour; the effective speed is the reported one at or above the floor
with the doors shut, and the nominal one otherwise (R82 to R87). -/
def Obligations.ArrivalTimeRoundsUp : Prop :=
  ∀ (s : State) (r : RequestRecord) (d : Int) (v T : Nat),
    d = (match r.direction with
      | .a => ((s.signalEntry r.signal).stopBarA.toNat : Int) - r.position.toNat
      | .b => (r.position.toNat : Int) - (s.signalEntry r.signal).stopBarB.toNat) →
    v = (if r.doorsOpen = false ∧ s.tables.global.speedFloor.toNat ≤ r.speed then r.speed
      else r.nominalSpeed) →
    (d ≤ 0 → arrivalTime s r = s.clock) ∧
    (1 ≤ d → 0 < v → (100 * d ≤ v * T) → (∀ T' : Nat, 100 * d ≤ v * T' → T ≤ T') →
      arrivalTime s r =
        s.clock + BitVec.ofNat 32 (min 36000 (T + if r.stopPending then r.stopDwell else 0)) ∧
      1 ≤ T ∧ (10 ≤ v → T ≤ 655350))

/-- The score: 0 when the lateness is known and below the negative of the early cutoff, and otherwise base score, lateness
points and occupancy points, less the projection penalty while PROJECTED; lateness points are 0 when the lateness is
unknown and otherwise the floor of excess times gain by 16, at most 127 (R91 to R94). -/
def Obligations.ScoreFollowsRules : Prop :=
  ∀ (s : State) (r : RequestRecord) (e : RouteEntry) (points base : Nat), e = s.tables.route[r.routeIndex] →
    (r.latenessSec = none → points = 0) →
    (∀ l : Int, r.latenessSec = some l →
      points = min 127 (((max 0 (l - e.latenessOffset.toInt)) * e.latenessGain.toNat).toNat / 16)) →
    base = e.baseScore.toNat + points + s.tables.global.points r.occupancy →
    ((∃ l : Int, r.latenessSec = some l ∧ l < -(e.earlyCutoff.toNat : Int)) → recordScore s r = 0) ∧
    ((∀ l : Int, r.latenessSec = some l → -(e.earlyCutoff.toNat : Int) ≤ l) →
      (r.state ≠ .projected → recordScore s r = base) ∧
      (r.state = .projected →
        recordScore s r = base - (s.signalEntry r.signal).projectionPenalty.toNat)) ∧
    points ≤ 127 ∧ (e.baseScore.toNat ≤ 63 → s.tables.global.points r.occupancy ≤ 63 → recordScore s r ≤ 253)

/-- A record is eligible at a signal, in any service state but UNCONFIGURED and SUSPENDED, exactly by the conditions of R121:
of that signal, projection enabled for its direction if PROJECTED, score above 0, remaining time within 10·H of the plan in
effect or of plan A when that plan's entry is not in use, doors shut, not LAPSED (R60, R122). The candidate of a signal is
eligible and ranks above every other eligible record there, by higher score, then earlier arrival, then lower slot; with no
candidate no record is eligible (R96, R97, R123). -/
def Obligations.CandidateRanksFirst : Prop :=
  (∀ (k : SignalId) (s : State) (r : RequestRecord), eligible k s r = true ↔
    (s.ctx k).state ≠ .unconfigured ∧ (s.ctx k).state ≠ .suspended ∧ r.signal = k ∧
    (r.state = .projected → (s.signalEntry k).projectionEnables.getLsbD (match r.direction with
      | .a => 0
      | .b => 1) = true) ∧
    0 < r.score ∧
    timeDiff r.arrival s.clock ≤ 10 * ((if (s.planInEffect k).inUse ≠ 0 then s.planInEffect k
      else s.tables.planEntry k .a).horizon.toNat : Int) ∧
    r.doorsOpen = false ∧ r.lapsed = false) ∧
  ∀ (k : SignalId) (s : State), ArrivalsOk s →
    (∀ i x, candidate k s = some (i, x) → s.record i = some x ∧ eligible k s x = true ∧
      ∀ j y, s.record j = some y → eligible k s y = true → j ≠ i →
        y.score < x.score ∨ (y.score = x.score ∧
          (timeDiff x.arrival y.arrival < 0 ∨ (x.arrival = y.arrival ∧ i < j)))) ∧
    (candidate k s = none → ∀ j y, s.record j = some y → eligible k s y = false)

/-! ## The service decision -/

/-- The holder after an evaluation, by the cases of R123 in their order; the record that takes holding becomes HOLDING, or stays
PROJECTED. A holder that gives up holding stays PROJECTED, or becomes ARMED with its horizon entry time beyond the horizon
and WAITING within it, and keeps everything else, its fields of service included (R63, R124). -/
def Obligations.HolderIsChosen : Prop :=
  ∀ (k : SignalId) (s : State) (h : Option SlotId), HoldersOk s → h = ((evaluate k s).ctx k).holder →
    (∀ i x, s.holderOf k = some (i, x) → eligible k s x = false → h = (candidate k s).map Prod.fst) ∧
    (s.holderOf k = none → h = (candidate k s).map Prod.fst) ∧
    (∀ i x j y, s.holderOf k = some (i, x) → eligible k s x = true → candidate k s = some (j, y) →
      (j = i → h = some i) ∧
      (j ≠ i → (s.ctx k).call = none → h = some j) ∧
      (j ≠ i → (s.ctx k).call.isSome = true → x.score + s.tables.global.holdMargin.toNat < y.score →
        h = some j) ∧
      (j ≠ i → (s.ctx k).call.isSome = true → y.score ≤ x.score + s.tables.global.holdMargin.toNat →
        h = some i)) ∧
    (∀ i y, h = some i → (evaluate k s).record i = some y → y.state = .holding ∨ y.state = .projected) ∧
    ∀ i x, s.holderOf k = some (i, x) → h ≠ some i →
      (x.state = .projected → (evaluate k s).record i = some x) ∧
      (x.state ≠ .projected → s.horizonUnits k < remaining s.clock x.arrival →
        (evaluate k s).record i = some { x with
          state := .armed, horizonEntry := some (x.arrival - BitVec.ofNat 32 (s.horizonUnits k)) }) ∧
      (x.state ≠ .projected → remaining s.clock x.arrival ≤ s.horizonUnits k →
        (evaluate k s).record i = some { x with state := .waiting, horizonEntry := none })

/-- The outcome in READY before the budget, by the place u of the arrival in the green window: CLEAR when u + m is within the
green, EXTEND when the green can be held, EARLY when the arrival is in the red, and otherwise DEFER OUT_OF_REACH; a
projected holder's EXTEND becomes DEFER OUT_OF_REACH (R127 to R133). -/
def Obligations.OutcomeByArrivalInCycle : Prop :=
  (∀ (plan : PlanEntry) (d : Direction) (c e u gs g m X E C : Nat),
    C = plan.cycle.toNat → m = plan.margin.toNat → X = plan.xmax.toNat → E = plan.emax.toNat →
    (gs, g) = (if plan.shared ≠ 0 ∨ d = .a then (plan.greenStartA.toNat, plan.greenLengthA.toNat)
      else (plan.greenStartB.toNat, plan.greenLengthB.toNat)) →
    u < C → (gs + u) % C = (c + e) % C →
    (u + m ≤ g → cycleOutcome plan d c e = (.clear, false)) ∧
    (g < u + m → u < g + e ∧ u + m - g ≤ 10 * X →
      ∃ n, cycleOutcome plan d c e = (.extend n, false) ∧ 1 ≤ n ∧ n ≤ X ∧
        10 * (n - 1) < u + m - g ∧ u + m - g ≤ 10 * n) ∧
    (g < u + m → ¬ (u < g + e ∧ u + m - g ≤ 10 * X) → g ≤ u → 0 < E →
      ∃ n, 1 ≤ n ∧ 10 * (n - 1) < C - u ∧ C - u ≤ 10 * n ∧
        (n ≤ E → cycleOutcome plan d c e = (.early n, false)) ∧
        (E < n → cycleOutcome plan d c e = (.early E, true))) ∧
    (g < u + m → ¬ (u < g + e ∧ u + m - g ≤ 10 * X) → (u < g ∨ E = 0) →
      cycleOutcome plan d c e = (.defer .outOfReach, false))) ∧
  ∀ (o : ServiceOutcome) (b : Bool),
    ((∃ n, o = .extend n) → projectedOutcome (o, b) = (.defer .outOfReach, false)) ∧
    ((∀ n, o ≠ .extend n) → projectedOutcome (o, b) = (o, b))

/-- The amount allowed is A' = min(A, Bc − S + c_h): 0 gives DEFER BUDGET, less than A sets PARTIAL, A leaves the outcome as it
is; CLEAR and DEFER are not affected (R134). -/
def Obligations.BudgetClipsAmount : Prop :=
  ∀ (bc spent committed n : Nat) (pf : Bool) (mk : Nat → ServiceOutcome),
    spent ≤ bc → mk = ServiceOutcome.extend ∨ mk = ServiceOutcome.early →
    (min n (bc - spent + committed) = 0 →
      budgeted bc spent committed (mk n, pf) = (.defer .budget, false)) ∧
    (0 < min n (bc - spent + committed) → min n (bc - spent + committed) < n →
      budgeted bc spent committed (mk n, pf) = (mk (min n (bc - spent + committed)), true)) ∧
    (0 < n → min n (bc - spent + committed) = n → budgeted bc spent committed (mk n, pf) = (mk n, pf)) ∧
    budgeted bc spent committed (.clear, pf) = (.clear, pf) ∧
    ∀ reason, budgeted bc spent committed (.defer reason, pf) = (.defer reason, pf)

/-- The outcome of a READY signal's holder: the outcome at the cycle estimate (p + elapsed) mod C and the remaining time, less
EXTEND for a projected holder, under the budget of the plan in effect, with S and the holder's commitment (R106, R127, R133,
R134); no estimate is formed while freshness is NEVER or the plan's entry is not in use (R106). Every EXTEND amount lies
between 1 and Xmax, and every EARLY amount between 1 and Emax, of the plan in effect, and neither is above what the budget
allows; in the other states the outcome is a DEFER with the state as its reason (R126, R135). -/
def Obligations.HolderOutcomeByState : Prop :=
  (∀ (k : SignalId) (r : RequestRecord) (p : Half) (t : Time) (e : PlanEntry) (c : Nat)
    (o : ServiceOutcome × Bool) (s : State), (s.ctx k).freshness ≠ .never → (s.ctx k).taken = some (p, t) →
    e = s.planInEffect k → e.inUse ≠ 0 → 0 < e.cycle.toNat →
    c = (p.toNat + (s.clock - t).toNat) % e.cycle.toNat →
    o = cycleOutcome e r.direction c (timeDiff r.arrival s.clock).toNat →
    cycleEstimate k s = some c ∧
    ((s.ctx k).state = .ready → holderOutcome k r s = some (budgeted e.budget.toNat (s.ctx k).spent r.committed
      (if r.state = .projected then projectedOutcome o else o)))) ∧
  (∀ (k : SignalId) (s : State), (s.ctx k).freshness = .never ∨ (s.planInEffect k).inUse = 0 →
    cycleEstimate k s = none) ∧
  ∀ (k : SignalId) (r : RequestRecord) (s : State) (pf : Bool),
    (∀ n, holderOutcome k r s = some (.extend n, pf) → (s.ctx k).state = .ready ∧ r.state ≠ .projected ∧ 1 ≤ n ∧
      n ≤ (s.planInEffect k).xmax.toNat ∧
      n + (s.ctx k).spent ≤ (s.planInEffect k).budget.toNat + r.committed) ∧
    (∀ n, holderOutcome k r s = some (.early n, pf) → (s.ctx k).state = .ready ∧ 1 ≤ n ∧
      n ≤ (s.planInEffect k).emax.toNat ∧
      n + (s.ctx k).spent ≤ (s.planInEffect k).budget.toNat + r.committed) ∧
    ((s.ctx k).state = .lockout → holderOutcome k r s = some (.defer .lockout, false)) ∧
    ((s.ctx k).state = .disabled → holderOutcome k r s = some (.defer .disabled, false)) ∧
    ((s.ctx k).state = .noStatus → holderOutcome k r s = some (.defer .noStatus, false)) ∧
    ((s.ctx k).state = .inhibited → holderOutcome k r s = some (.defer .inhibited, false))

/-- The holder's outcome is written into its record; an EXTEND or EARLY generates its call unless the call in force carries the
same action and amount or OBSERVE is set, a CLEAR or DEFER withdraws the call in force; with no holder nothing is written
(R136, R137, R138). -/
def Obligations.OutcomeIsActedOn : Prop :=
  ∀ (k : SignalId) (s t : State), t = settleHolder k s →
    (t.holderOf k = none → evaluate k s = t) ∧
    ∀ (i : SlotId) (r : RequestRecord) (o : ServiceOutcome) (pf : Bool) (w : State), t.holderOf k = some (i, r) →
      holderOutcome k r t = some (o, pf) →
      w = t.setRecord i (some { r with lastOutcome := some o, partialFlag := pf }) →
      (∀ (action : CallAction) (n : Nat),
        (action = .extend ∧ o = .extend n ∨ action = .early ∧ o = .early n) →
        (t.observe = true → evaluate k s = w) ∧
        (∀ c, (t.ctx k).call = some c → c.action = action → c.amount = n → evaluate k s = w) ∧
        (t.observe = false → (∀ c, (t.ctx k).call = some c → c.action ≠ action ∨ c.amount ≠ n) →
          evaluate k s = generateCall k i r action n pf w)) ∧
      (o = .clear ∨ (∃ reason, o = .defer reason) →
        ((t.ctx k).call = none → evaluate k s = w) ∧
        ∀ c, (t.ctx k).call = some c → evaluate k s = generateCancel k w)

/-- The generation of a call charges S by what exceeds the holder's commitment, fixes the content, writes the record's last
call and commitment, clears both refresh counts, sets the timer by the refresh delay and places the call; a CANCEL
removes the content, stops the timer, clears the context's count, keeps S and every record, and places a call of amount
0 with the call's other fields. A call placed takes the place of its signal's slot, and stands at the tail when the signal has
none; the other slots and the other port stay as they are (R14). A CALL frame carries them at their places, and ends in the CHECK of its bytes from DEST
through the last of its payload (R7, R15, R135, R143 to R146, R149, R185). -/
def Obligations.CallsAndCancels : Prop :=
  (∀ (k : SignalId) (i : SlotId) (r : RequestRecord) (action : CallAction) (n : Nat) (pf : Bool) (s t : State)
    (c : CallContent), s.record i = some r → t = generateCall k i r action n pf s →
    c = { action := action, amount := n, route := r.routeNumber, bus := r.bus, score := r.score,
          partialFlag := pf,
          direction := if (s.planInEffect k).shared ≠ 0 then .both
            else if r.direction = .a then .a else .b } →
    t.ctx k = { s.ctx k with
      spent := (s.ctx k).spent + (n - r.committed), call := some c, refreshCount := 0,
      refreshTimer := some (later s.clock ((1 + (s.planInEffect k).delayCode.toNat) * 5)) } ∧
    t.record i = some { r with
      committed := max r.committed n, lastCall := some (action, n), refreshCount := 0 } ∧
    CallGenerated k c s t ∧
    ∀ q : PortId, (s.signalEntry k).configuredPort = some q →
      (⟨k, (s.signalEntry k).cabinet, c⟩ : CallSlot) ∈ (t.port q).callQueue) ∧
  (∀ (k : SignalId) (s : State) (c : CallContent), (s.ctx k).call = some c →
    (generateCancel k s).ctx k =
      { s.ctx k with call := none, refreshTimer := none, refreshCount := 0 } ∧
    (∀ i, (generateCancel k s).record i = s.record i) ∧
    CallGenerated k { c with action := .cancel, amount := 0, partialFlag := false } s (generateCancel k s) ∧
    ∀ q : PortId, (s.signalEntry k).configuredPort = some q →
      (⟨k, (s.signalEntry k).cabinet, { c with action := .cancel, amount := 0, partialFlag := false }⟩ :
        CallSlot) ∈ ((generateCancel k s).port q).callQueue) ∧
  ∀ (x : CallSlot) (src : Byte) (covered : List Byte), covered =
    [x.dest, src, 0x41, 10, byteOf x.signal.val, x.content.action.code, byteOf x.content.amount,
      x.content.direction.code] ++ halfBytes x.content.route ++ halfBytes x.content.bus ++
      [byteOf x.content.score, if x.content.partialFlag then 1 else 0] →
    x.frame src = [0xD3] ++ covered ++ halfBytes (frameCheck covered)

/-! ## Tables -/

/-- The checks of R169 in the manual's terms: each of the eleven rows concerns its tables, passes exactly when its check holds
at every entry index, and otherwise reports the lowest index at which it does not; the failure of a CLOSE is that of the
first row made that has one. So in VALID ZONE and SIGNAL tables a position lies in at most one in-use zone of a direction,
and a CHECK_IN zone places it short of its signal's stop bar while a CHECK_OUT zone places it at or past it (R22, R23, R24,
R40, R169). -/
def Obligations.ValidTablesMeetTheChecks : Prop :=
  (∀ (own : Option (BitVec 6)) (t : TableStore), (checkRows own t).map (fun row => (row.tables, row.reported)) =
    [([.global], .global), ([.signal], .signal), ([.signal], .signal), ([.plan], .plan),
      ([.signal, .plan], .plan), ([.zone], .zone), ([.zone], .zone), ([.zone, .signal], .zone),
      ([.route], .route), ([.segment], .segment), ([.route, .segment], .route)]) ∧
  (∀ (own : Option (BitVec 6)) (t : TableStore) (n : Nat) (row : CheckRow), (checkRows own t)[n]? = some row →
    (row.failure = none ↔ ∀ i, CheckMet own t (n + 1) i) ∧
    ∀ i, row.failure = some i ↔ ¬ CheckMet own t (n + 1) i ∧ ∀ j, j < i → CheckMet own t (n + 1) j) ∧
  (∀ (closing id : TableId) (i : Nat) (s : State), firstFailedCheck closing s = some (id, i) ↔
    ∃ (n : Nat) (row : CheckRow), (checkRows s.ownAddress s.tables)[n]? = some row ∧ CheckMade closing s row ∧
      row.reported = id ∧ row.failure = some i ∧
      ∀ (m : Nat) (other : CheckRow), m < n → (checkRows s.ownAddress s.tables)[m]? = some other →
        CheckMade closing s other → other.failure = none) ∧
  ∀ (s : State) (i : Fin 64) (x : Half), ValidTablesPass s →
    s.validity.zone = .valid → flagSet s.tables.zone[i].inUse = true → s.tables.zone[i].contains x = true →
    (∀ j : Fin 64, flagSet s.tables.zone[j].inUse = true →
      s.tables.zone[j].direction = s.tables.zone[i].direction → s.tables.zone[j].contains x = true → j = i) ∧
    (s.validity.signal = .valid → ∃ (k : SignalId) (d : Direction),
      s.tables.zone[i].signal.toNat = k.val ∧ directionOf s.tables.zone[i].direction = some d ∧
      (s.tables.zone[i].kind = 0 → 1 ≤ distance (s.signalEntry k) d x) ∧
      (s.tables.zone[i].kind = 1 → distance (s.signalEntry k) d x ≤ 0))

/-- Only a TABLE WRITE, alone or brought by a frame, and the resets change the table store; only the resets change the own
address; only CONTROL changes the DISABLE flags and OBSERVE; and a command that is neither a reset, a table request, a
CONTROL nor a frame leaves the whole configuration (R9, R114, R115, R157, R173). -/
def Obligations.ConfigurationChanges : Prop :=
  ∀ (c : Instr) (s t : State), exec c s = .next t → t.pending = s.pending ∧
    ((∀ v, c ≠ .powerOn v) → c ≠ .resetnAssert → (∀ v, c ≠ .resetnRelease v) →
      t.ownAddress = s.ownAddress ∧ t.resetHeld = s.resetHeld ∧ t.clock = s.clock ∧
      ((∀ p b l, c ≠ .frameEndingGap p b l) →
        ((∀ r, requestOf c = some r → r.kind ≠ 0x66) → t.tables = s.tables) ∧
        ((∀ r, requestOf c = some r → r.kind ≠ 0x64) →
          t.disabled = s.disabled ∧ t.observe = s.observe) ∧
        ((∀ r, requestOf c = some r → r.kind = 0x60 ∨ r.kind = 0x61 ∨ r.kind = 0x62 ∨ r.kind = 0x63 ∨
          r.kind = 0x6A) → SameConfig s t)))

/-! ## Invariants that every step keeps -/

/-- Every service state is the one R111 gives, the mode the one R172 gives and ALERT the level R182 gives. -/
def Obligations.DerivedValuesStayDerived : Prop :=
  ∀ s t : State, DerivedOk s → step s = .next t → DerivedOk t

/-- The report queue holds at most 32 records and its newest is an OVERRUN marker when it holds 32 (R180); a repeat queue holds
at most four frames (R13); a call queue holds at most one call per signal, and only calls for signals configured on that
port (R14). -/
def Obligations.QueuesStayBounded : Prop :=
  ∀ s t : State, ReportsOk s → QueuesOk s → step s = .next t → ReportsOk t ∧ QueuesOk t

/-- Never two records of one bus at one signal (R55), and each record's timers stand with its state (R57). -/
def Obligations.RecordsStayUnique : Prop :=
  ∀ s t : State, UniqueRecords s → RecordTimersOk s → step s = .next t → UniqueRecords t ∧ RecordTimersOk t

/-- At each signal at most one record is HOLDING, it is a record of that signal and its holder (R63), and an UNCONFIGURED or
SUSPENDED signal has no holder (R122). -/
def Obligations.HoldersStayTrue : Prop :=
  ∀ s t : State, DerivedOk s → HoldersOk s → HolderStatesOk s → step s = .next t →
    HoldersOk t ∧ HolderStatesOk t

/-- The seconds spent in the current cycle never exceed the budget of the plan in effect (R108), and the taken position is
present from the first frame taken (R99). -/
def Obligations.SpentStaysWithinBudget : Prop :=
  ∀ s t : State, DerivedOk s → LoadOk s → TakenOk s → BudgetOk s → step s = .next t → TakenOk t ∧ BudgetOk t

/-- A call in force has a holder and a READY signal, none is in force under OBSERVE, and the refresh timer runs exactly while
a call is in force (R137, R138, R148, R149); a port's call queue never holds an EXTEND or EARLY call for a signal whose
service state is other than READY (R148). -/
def Obligations.CallsStayInForceRightly : Prop :=
  ∀ s t : State, DerivedOk s → QueuesOk s → HoldersOk s → CallsOk s → QueuedCallsOk s → step s = .next t →
    CallsOk t ∧ QueuedCallsOk t

/-- While a call is in force its refresh count, in the context and in the holder's record, never exceeds N of the plan in
effect (R153). -/
def Obligations.RefreshCountsStayBounded : Prop :=
  ∀ s t : State, DerivedOk s → LoadOk s → TakenOk s → HoldersOk s → CallsOk s → RefreshCountsOk s →
    step s = .next t → RefreshCountsOk t

/-- The load context stays as R160 describes it: its indices in range, its written set without duplicates, its partial entry
shorter than an entry; and a table is RELOADING only while its own load is open (R159). -/
def Obligations.LoadContextStaysInRange : Prop :=
  ∀ s t : State, LoadOk s → step s = .next t → LoadOk t

/-- A VALID table satisfies every check that concerns it alone and every check that concerns it and another VALID table
(R159, R169). -/
def Obligations.ValidTablesKeepPassing : Prop :=
  ∀ s t : State, LoadOk s → ValidTablesPass s → step s = .next t → ValidTablesPass t

/-- The PLAN entries in force stay in their ranges (R142), and a signal's lockout count never exceeds 7 (R109). -/
def Obligations.LockoutNeverExceedsSeven : Prop :=
  ∀ s t : State, DerivedOk s → LoadOk s → ValidTablesPass s → HoldersOk s → HolderStatesOk s →
    PlansInForceOk s → LockoutOk s → step s = .next t → PlansInForceOk t ∧ LockoutOk t

/-- While a record exists the four corridor-wide tables GLOBAL, ZONE, ROUTE and SEGMENT are VALID and its ROUTE entry is in use
(R53), and its score lies between 0 and 253 (R91). -/
def Obligations.ScoresStayBounded : Prop :=
  ∀ s t : State, DerivedOk s → LoadOk s → ValidTablesPass s → RecordTablesOk s → ScoresOk s → step s = .next t →
    RecordTablesOk t ∧ ScoresOk t

/-- No record's times meet the wrap of the corridor clock, and no remaining time is above 36,000 (R88). -/
def Obligations.ArrivalsNeverMeetTheWrap : Prop :=
  ∀ s t : State, RecordTimersOk s → ArrivalsOk s → step s = .next t →
    ArrivalsOk t ∧ ∀ i x, t.record i = some x → remaining t.clock x.arrival ≤ 36000

/-- A RUNNING port has a learned rate (R4), nothing waits at its idle transmitter (R18), and what TXD has carried of a frame
in flight is that frame's characters from its first, in their order (R1, R19). -/
def Obligations.TransmittersStayInOrder : Prop :=
  ∀ s t : State, PortRatesOk s → TransmittersOk s → LineOk s → step s = .next t →
    PortRatesOk t ∧ TransmittersOk t ∧ LineOk t

/-- In NO-ADDRESS no table is VALID, no load is open, no record exists and the call queues and reply slots stay empty, until a
reset brings an own address (R9, R154). -/
def Obligations.NoAddressStaysSilent : Prop :=
  ∀ s t : State, NoAddressOk s → step s = .next t → NoAddressOk t
end

