-- ==== Sys2Proof/Laws/State.lean ====
section
/-! SUPPORT. Sys2Proof/Laws/State.lean: what each update of State leaves as it was, one lemma per field and update, and
what the named accessors read after each update. -/

namespace Sys2Proof.Machine

/-! ## Fields after an update -/
@[simp] theorem State.setPort_pending (s : State) (p : PortId) (q : Port) :
    (s.setPort p q).pending = s.pending := by
  cases p <;> rfl
@[simp] theorem State.setPort_resetHeld (s : State) (p : PortId) (q : Port) :
    (s.setPort p q).resetHeld = s.resetHeld := by
  cases p <;> rfl
@[simp] theorem State.setPort_clock (s : State) (p : PortId) (q : Port) :
    (s.setPort p q).clock = s.clock := by
  cases p <;> rfl
@[simp] theorem State.setPort_ownAddress (s : State) (p : PortId) (q : Port) :
    (s.setPort p q).ownAddress = s.ownAddress := by
  cases p <;> rfl
@[simp] theorem State.setPort_parity (s : State) (p : PortId) (q : Port) :
    (s.setPort p q).parity = s.parity := by
  cases p <;> rfl
@[simp] theorem State.setPort_tables (s : State) (p : PortId) (q : Port) :
    (s.setPort p q).tables = s.tables := by
  cases p <;> rfl
@[simp] theorem State.setPort_validity (s : State) (p : PortId) (q : Port) :
    (s.setPort p q).validity = s.validity := by
  cases p <;> rfl
@[simp] theorem State.setPort_load (s : State) (p : PortId) (q : Port) : (s.setPort p q).load = s.load := by
  cases p <;> rfl
@[simp] theorem State.setPort_mode (s : State) (p : PortId) (q : Port) : (s.setPort p q).mode = s.mode := by
  cases p <;> rfl
@[simp] theorem State.setPort_slots (s : State) (p : PortId) (q : Port) :
    (s.setPort p q).slots = s.slots := by
  cases p <;> rfl
@[simp] theorem State.setPort_ctxs (s : State) (p : PortId) (q : Port) : (s.setPort p q).ctxs = s.ctxs := by
  cases p <;> rfl
@[simp] theorem State.setPort_disabled (s : State) (p : PortId) (q : Port) :
    (s.setPort p q).disabled = s.disabled := by
  cases p <;> rfl
@[simp] theorem State.setPort_observe (s : State) (p : PortId) (q : Port) :
    (s.setPort p q).observe = s.observe := by
  cases p <;> rfl
@[simp] theorem State.setPort_reports (s : State) (p : PortId) (q : Port) :
    (s.setPort p q).reports = s.reports := by
  cases p <;> rfl
@[simp] theorem State.setPort_alert (s : State) (p : PortId) (q : Port) :
    (s.setPort p q).alert = s.alert := by
  cases p <;> rfl
@[simp] theorem State.setPort_freeCount (s : State) (p : PortId) (q : Port) :
    (s.setPort p q).freeCount = s.freeCount := by
  cases p <;> rfl

@[simp] theorem State.setCtx_pending (s : State) (k : SignalId) (c : SignalContext) :
    (s.setCtx k c).pending = s.pending := rfl
@[simp] theorem State.setCtx_resetHeld (s : State) (k : SignalId) (c : SignalContext) :
    (s.setCtx k c).resetHeld = s.resetHeld := rfl
@[simp] theorem State.setCtx_clock (s : State) (k : SignalId) (c : SignalContext) :
    (s.setCtx k c).clock = s.clock := rfl
@[simp] theorem State.setCtx_ownAddress (s : State) (k : SignalId) (c : SignalContext) :
    (s.setCtx k c).ownAddress = s.ownAddress := rfl
@[simp] theorem State.setCtx_parity (s : State) (k : SignalId) (c : SignalContext) :
    (s.setCtx k c).parity = s.parity := rfl
@[simp] theorem State.setCtx_west (s : State) (k : SignalId) (c : SignalContext) :
    (s.setCtx k c).west = s.west := rfl
@[simp] theorem State.setCtx_east (s : State) (k : SignalId) (c : SignalContext) :
    (s.setCtx k c).east = s.east := rfl
@[simp] theorem State.setCtx_tables (s : State) (k : SignalId) (c : SignalContext) :
    (s.setCtx k c).tables = s.tables := rfl
@[simp] theorem State.setCtx_validity (s : State) (k : SignalId) (c : SignalContext) :
    (s.setCtx k c).validity = s.validity := rfl
@[simp] theorem State.setCtx_load (s : State) (k : SignalId) (c : SignalContext) :
    (s.setCtx k c).load = s.load := rfl
@[simp] theorem State.setCtx_mode (s : State) (k : SignalId) (c : SignalContext) :
    (s.setCtx k c).mode = s.mode := rfl
@[simp] theorem State.setCtx_slots (s : State) (k : SignalId) (c : SignalContext) :
    (s.setCtx k c).slots = s.slots := rfl
@[simp] theorem State.setCtx_disabled (s : State) (k : SignalId) (c : SignalContext) :
    (s.setCtx k c).disabled = s.disabled := rfl
@[simp] theorem State.setCtx_observe (s : State) (k : SignalId) (c : SignalContext) :
    (s.setCtx k c).observe = s.observe := rfl
@[simp] theorem State.setCtx_reports (s : State) (k : SignalId) (c : SignalContext) :
    (s.setCtx k c).reports = s.reports := rfl
@[simp] theorem State.setCtx_alert (s : State) (k : SignalId) (c : SignalContext) :
    (s.setCtx k c).alert = s.alert := rfl
@[simp] theorem State.setCtx_freeCount (s : State) (k : SignalId) (c : SignalContext) :
    (s.setCtx k c).freeCount = s.freeCount := rfl

@[simp] theorem State.setRecord_pending (s : State) (i : SlotId) (r : Option RequestRecord) :
    (s.setRecord i r).pending = s.pending := rfl
@[simp] theorem State.setRecord_resetHeld (s : State) (i : SlotId) (r : Option RequestRecord) :
    (s.setRecord i r).resetHeld = s.resetHeld := rfl
@[simp] theorem State.setRecord_clock (s : State) (i : SlotId) (r : Option RequestRecord) :
    (s.setRecord i r).clock = s.clock := rfl
@[simp] theorem State.setRecord_ownAddress (s : State) (i : SlotId) (r : Option RequestRecord) :
    (s.setRecord i r).ownAddress = s.ownAddress := rfl
@[simp] theorem State.setRecord_parity (s : State) (i : SlotId) (r : Option RequestRecord) :
    (s.setRecord i r).parity = s.parity := rfl
@[simp] theorem State.setRecord_west (s : State) (i : SlotId) (r : Option RequestRecord) :
    (s.setRecord i r).west = s.west := rfl
@[simp] theorem State.setRecord_east (s : State) (i : SlotId) (r : Option RequestRecord) :
    (s.setRecord i r).east = s.east := rfl
@[simp] theorem State.setRecord_tables (s : State) (i : SlotId) (r : Option RequestRecord) :
    (s.setRecord i r).tables = s.tables := rfl
@[simp] theorem State.setRecord_validity (s : State) (i : SlotId) (r : Option RequestRecord) :
    (s.setRecord i r).validity = s.validity := rfl
@[simp] theorem State.setRecord_load (s : State) (i : SlotId) (r : Option RequestRecord) :
    (s.setRecord i r).load = s.load := rfl
@[simp] theorem State.setRecord_mode (s : State) (i : SlotId) (r : Option RequestRecord) :
    (s.setRecord i r).mode = s.mode := rfl
@[simp] theorem State.setRecord_ctxs (s : State) (i : SlotId) (r : Option RequestRecord) :
    (s.setRecord i r).ctxs = s.ctxs := rfl
@[simp] theorem State.setRecord_disabled (s : State) (i : SlotId) (r : Option RequestRecord) :
    (s.setRecord i r).disabled = s.disabled := rfl
@[simp] theorem State.setRecord_observe (s : State) (i : SlotId) (r : Option RequestRecord) :
    (s.setRecord i r).observe = s.observe := rfl
@[simp] theorem State.setRecord_reports (s : State) (i : SlotId) (r : Option RequestRecord) :
    (s.setRecord i r).reports = s.reports := rfl
@[simp] theorem State.setRecord_alert (s : State) (i : SlotId) (r : Option RequestRecord) :
    (s.setRecord i r).alert = s.alert := rfl
@[simp] theorem State.setRecord_freeCount (s : State) (i : SlotId) (r : Option RequestRecord) :
    (s.setRecord i r).freeCount = s.freeCount := rfl

@[simp] theorem State.modRecord_pending (s : State) (i : SlotId) (f : RequestRecord → RequestRecord) :
    (s.modRecord i f).pending = s.pending := rfl
@[simp] theorem State.modRecord_resetHeld (s : State) (i : SlotId) (f : RequestRecord → RequestRecord) :
    (s.modRecord i f).resetHeld = s.resetHeld := rfl
@[simp] theorem State.modRecord_clock (s : State) (i : SlotId) (f : RequestRecord → RequestRecord) :
    (s.modRecord i f).clock = s.clock := rfl
@[simp] theorem State.modRecord_ownAddress (s : State) (i : SlotId) (f : RequestRecord → RequestRecord) :
    (s.modRecord i f).ownAddress = s.ownAddress := rfl
@[simp] theorem State.modRecord_parity (s : State) (i : SlotId) (f : RequestRecord → RequestRecord) :
    (s.modRecord i f).parity = s.parity := rfl
@[simp] theorem State.modRecord_west (s : State) (i : SlotId) (f : RequestRecord → RequestRecord) :
    (s.modRecord i f).west = s.west := rfl
@[simp] theorem State.modRecord_east (s : State) (i : SlotId) (f : RequestRecord → RequestRecord) :
    (s.modRecord i f).east = s.east := rfl
@[simp] theorem State.modRecord_tables (s : State) (i : SlotId) (f : RequestRecord → RequestRecord) :
    (s.modRecord i f).tables = s.tables := rfl
@[simp] theorem State.modRecord_validity (s : State) (i : SlotId) (f : RequestRecord → RequestRecord) :
    (s.modRecord i f).validity = s.validity := rfl
@[simp] theorem State.modRecord_load (s : State) (i : SlotId) (f : RequestRecord → RequestRecord) :
    (s.modRecord i f).load = s.load := rfl
@[simp] theorem State.modRecord_mode (s : State) (i : SlotId) (f : RequestRecord → RequestRecord) :
    (s.modRecord i f).mode = s.mode := rfl
@[simp] theorem State.modRecord_ctxs (s : State) (i : SlotId) (f : RequestRecord → RequestRecord) :
    (s.modRecord i f).ctxs = s.ctxs := rfl
@[simp] theorem State.modRecord_disabled (s : State) (i : SlotId) (f : RequestRecord → RequestRecord) :
    (s.modRecord i f).disabled = s.disabled := rfl
@[simp] theorem State.modRecord_observe (s : State) (i : SlotId) (f : RequestRecord → RequestRecord) :
    (s.modRecord i f).observe = s.observe := rfl
@[simp] theorem State.modRecord_reports (s : State) (i : SlotId) (f : RequestRecord → RequestRecord) :
    (s.modRecord i f).reports = s.reports := rfl
@[simp] theorem State.modRecord_alert (s : State) (i : SlotId) (f : RequestRecord → RequestRecord) :
    (s.modRecord i f).alert = s.alert := rfl
@[simp] theorem State.modRecord_freeCount (s : State) (i : SlotId) (f : RequestRecord → RequestRecord) :
    (s.modRecord i f).freeCount = s.freeCount := rfl

@[simp] theorem State.setReports_pending (s : State) (l : List Report) :
    (s.setReports l).pending = s.pending := rfl
@[simp] theorem State.setReports_resetHeld (s : State) (l : List Report) :
    (s.setReports l).resetHeld = s.resetHeld := rfl
@[simp] theorem State.setReports_clock (s : State) (l : List Report) : (s.setReports l).clock = s.clock := rfl
@[simp] theorem State.setReports_ownAddress (s : State) (l : List Report) :
    (s.setReports l).ownAddress = s.ownAddress := rfl
@[simp] theorem State.setReports_parity (s : State) (l : List Report) :
    (s.setReports l).parity = s.parity := rfl
@[simp] theorem State.setReports_west (s : State) (l : List Report) : (s.setReports l).west = s.west := rfl
@[simp] theorem State.setReports_east (s : State) (l : List Report) : (s.setReports l).east = s.east := rfl
@[simp] theorem State.setReports_tables (s : State) (l : List Report) :
    (s.setReports l).tables = s.tables := rfl
@[simp] theorem State.setReports_validity (s : State) (l : List Report) :
    (s.setReports l).validity = s.validity := rfl
@[simp] theorem State.setReports_load (s : State) (l : List Report) : (s.setReports l).load = s.load := rfl
@[simp] theorem State.setReports_mode (s : State) (l : List Report) : (s.setReports l).mode = s.mode := rfl
@[simp] theorem State.setReports_slots (s : State) (l : List Report) : (s.setReports l).slots = s.slots := rfl
@[simp] theorem State.setReports_ctxs (s : State) (l : List Report) : (s.setReports l).ctxs = s.ctxs := rfl
@[simp] theorem State.setReports_disabled (s : State) (l : List Report) :
    (s.setReports l).disabled = s.disabled := rfl
@[simp] theorem State.setReports_observe (s : State) (l : List Report) :
    (s.setReports l).observe = s.observe := rfl
@[simp] theorem State.setReports_alert (s : State) (l : List Report) : (s.setReports l).alert = s.alert := rfl
@[simp] theorem State.setReports_freeCount (s : State) (l : List Report) :
    (s.setReports l).freeCount = s.freeCount := rfl

@[simp] theorem State.setDisabled_pending (s : State) (k : SignalId) (b : Bool) :
    (s.setDisabled k b).pending = s.pending := rfl
@[simp] theorem State.setDisabled_resetHeld (s : State) (k : SignalId) (b : Bool) :
    (s.setDisabled k b).resetHeld = s.resetHeld := rfl
@[simp] theorem State.setDisabled_clock (s : State) (k : SignalId) (b : Bool) :
    (s.setDisabled k b).clock = s.clock := rfl
@[simp] theorem State.setDisabled_ownAddress (s : State) (k : SignalId) (b : Bool) :
    (s.setDisabled k b).ownAddress = s.ownAddress := rfl
@[simp] theorem State.setDisabled_parity (s : State) (k : SignalId) (b : Bool) :
    (s.setDisabled k b).parity = s.parity := rfl
@[simp] theorem State.setDisabled_west (s : State) (k : SignalId) (b : Bool) :
    (s.setDisabled k b).west = s.west := rfl
@[simp] theorem State.setDisabled_east (s : State) (k : SignalId) (b : Bool) :
    (s.setDisabled k b).east = s.east := rfl
@[simp] theorem State.setDisabled_tables (s : State) (k : SignalId) (b : Bool) :
    (s.setDisabled k b).tables = s.tables := rfl
@[simp] theorem State.setDisabled_validity (s : State) (k : SignalId) (b : Bool) :
    (s.setDisabled k b).validity = s.validity := rfl
@[simp] theorem State.setDisabled_load (s : State) (k : SignalId) (b : Bool) :
    (s.setDisabled k b).load = s.load := rfl
@[simp] theorem State.setDisabled_mode (s : State) (k : SignalId) (b : Bool) :
    (s.setDisabled k b).mode = s.mode := rfl
@[simp] theorem State.setDisabled_slots (s : State) (k : SignalId) (b : Bool) :
    (s.setDisabled k b).slots = s.slots := rfl
@[simp] theorem State.setDisabled_ctxs (s : State) (k : SignalId) (b : Bool) :
    (s.setDisabled k b).ctxs = s.ctxs := rfl
@[simp] theorem State.setDisabled_observe (s : State) (k : SignalId) (b : Bool) :
    (s.setDisabled k b).observe = s.observe := rfl
@[simp] theorem State.setDisabled_reports (s : State) (k : SignalId) (b : Bool) :
    (s.setDisabled k b).reports = s.reports := rfl
@[simp] theorem State.setDisabled_alert (s : State) (k : SignalId) (b : Bool) :
    (s.setDisabled k b).alert = s.alert := rfl
@[simp] theorem State.setDisabled_freeCount (s : State) (k : SignalId) (b : Bool) :
    (s.setDisabled k b).freeCount = s.freeCount := rfl

@[simp] theorem updateMode_pending (s : State) : (updateMode s).pending = s.pending := rfl
@[simp] theorem updateMode_resetHeld (s : State) : (updateMode s).resetHeld = s.resetHeld := rfl
@[simp] theorem updateMode_clock (s : State) : (updateMode s).clock = s.clock := rfl
@[simp] theorem updateMode_ownAddress (s : State) : (updateMode s).ownAddress = s.ownAddress := rfl
@[simp] theorem updateMode_parity (s : State) : (updateMode s).parity = s.parity := rfl
@[simp] theorem updateMode_west (s : State) : (updateMode s).west = s.west := rfl
@[simp] theorem updateMode_east (s : State) : (updateMode s).east = s.east := rfl
@[simp] theorem updateMode_tables (s : State) : (updateMode s).tables = s.tables := rfl
@[simp] theorem updateMode_validity (s : State) : (updateMode s).validity = s.validity := rfl
@[simp] theorem updateMode_load (s : State) : (updateMode s).load = s.load := rfl
@[simp] theorem updateMode_slots (s : State) : (updateMode s).slots = s.slots := rfl
@[simp] theorem updateMode_ctxs (s : State) : (updateMode s).ctxs = s.ctxs := rfl
@[simp] theorem updateMode_disabled (s : State) : (updateMode s).disabled = s.disabled := rfl
@[simp] theorem updateMode_observe (s : State) : (updateMode s).observe = s.observe := rfl
@[simp] theorem updateMode_reports (s : State) : (updateMode s).reports = s.reports := rfl
@[simp] theorem updateMode_alert (s : State) : (updateMode s).alert = s.alert := rfl
@[simp] theorem updateMode_freeCount (s : State) : (updateMode s).freeCount = s.freeCount := rfl

@[simp] theorem updateAlert_pending (s : State) : (updateAlert s).pending = s.pending := rfl
@[simp] theorem updateAlert_resetHeld (s : State) : (updateAlert s).resetHeld = s.resetHeld := rfl
@[simp] theorem updateAlert_clock (s : State) : (updateAlert s).clock = s.clock := rfl
@[simp] theorem updateAlert_ownAddress (s : State) : (updateAlert s).ownAddress = s.ownAddress := rfl
@[simp] theorem updateAlert_parity (s : State) : (updateAlert s).parity = s.parity := rfl
@[simp] theorem updateAlert_west (s : State) : (updateAlert s).west = s.west := rfl
@[simp] theorem updateAlert_east (s : State) : (updateAlert s).east = s.east := rfl
@[simp] theorem updateAlert_tables (s : State) : (updateAlert s).tables = s.tables := rfl
@[simp] theorem updateAlert_validity (s : State) : (updateAlert s).validity = s.validity := rfl
@[simp] theorem updateAlert_load (s : State) : (updateAlert s).load = s.load := rfl
@[simp] theorem updateAlert_mode (s : State) : (updateAlert s).mode = s.mode := rfl
@[simp] theorem updateAlert_slots (s : State) : (updateAlert s).slots = s.slots := rfl
@[simp] theorem updateAlert_ctxs (s : State) : (updateAlert s).ctxs = s.ctxs := rfl
@[simp] theorem updateAlert_disabled (s : State) : (updateAlert s).disabled = s.disabled := rfl
@[simp] theorem updateAlert_observe (s : State) : (updateAlert s).observe = s.observe := rfl
@[simp] theorem updateAlert_reports (s : State) : (updateAlert s).reports = s.reports := rfl
@[simp] theorem updateAlert_freeCount (s : State) : (updateAlert s).freeCount = s.freeCount := rfl

@[simp] theorem writeReport_pending (b : ReportBody) (s : State) :
    (writeReport b s).pending = s.pending := rfl
@[simp] theorem writeReport_resetHeld (b : ReportBody) (s : State) :
    (writeReport b s).resetHeld = s.resetHeld := rfl
@[simp] theorem writeReport_clock (b : ReportBody) (s : State) : (writeReport b s).clock = s.clock := rfl
@[simp] theorem writeReport_ownAddress (b : ReportBody) (s : State) :
    (writeReport b s).ownAddress = s.ownAddress := rfl
@[simp] theorem writeReport_parity (b : ReportBody) (s : State) : (writeReport b s).parity = s.parity := rfl
@[simp] theorem writeReport_west (b : ReportBody) (s : State) : (writeReport b s).west = s.west := rfl
@[simp] theorem writeReport_east (b : ReportBody) (s : State) : (writeReport b s).east = s.east := rfl
@[simp] theorem writeReport_tables (b : ReportBody) (s : State) : (writeReport b s).tables = s.tables := rfl
@[simp] theorem writeReport_validity (b : ReportBody) (s : State) :
    (writeReport b s).validity = s.validity := rfl
@[simp] theorem writeReport_load (b : ReportBody) (s : State) : (writeReport b s).load = s.load := rfl
@[simp] theorem writeReport_mode (b : ReportBody) (s : State) : (writeReport b s).mode = s.mode := rfl
@[simp] theorem writeReport_slots (b : ReportBody) (s : State) : (writeReport b s).slots = s.slots := rfl
@[simp] theorem writeReport_ctxs (b : ReportBody) (s : State) : (writeReport b s).ctxs = s.ctxs := rfl
@[simp] theorem writeReport_disabled (b : ReportBody) (s : State) :
    (writeReport b s).disabled = s.disabled := rfl
@[simp] theorem writeReport_observe (b : ReportBody) (s : State) :
    (writeReport b s).observe = s.observe := rfl
@[simp] theorem writeReport_alert (b : ReportBody) (s : State) : (writeReport b s).alert = s.alert := rfl
@[simp] theorem writeReport_freeCount (b : ReportBody) (s : State) :
    (writeReport b s).freeCount = s.freeCount := rfl
@[simp] theorem updateMode_mode (s : State) : (updateMode s).mode = corridorMode s := rfl
@[simp] theorem updateAlert_alert (s : State) : (updateAlert s).alert = alertValue s := rfl
@[simp] theorem State.setReports_reports (s : State) (l : List Report) : (s.setReports l).reports = l := rfl
@[simp] theorem writeReport_reports (b : ReportBody) (s : State) :
    (writeReport b s).reports = storeReport s.clock b s.reports := rfl

/-! ## Ports after an update -/

@[simp] theorem State.port_setPort_self (s : State) (p : PortId) (q : Port) : (s.setPort p q).port p = q := by
  cases p <;> rfl

theorem State.port_setPort_ne (s : State) {p r : PortId} (q : Port) (h : r ≠ p) :
    (s.setPort p q).port r = s.port r := by
  cases p <;> cases r <;> first | rfl | exact absurd rfl h

@[simp] theorem State.port_setPort_opposite (s : State) (p : PortId) (q : Port) :
    (s.setPort p q).port p.opposite = s.port p.opposite := by
  cases p <;> rfl

@[simp] theorem State.setPort_port (s : State) (p : PortId) : s.setPort p (s.port p) = s := by
  cases p <;> rfl

@[simp] theorem State.port_setCtx (s : State) (k : SignalId) (c : SignalContext) (p : PortId) :
    (s.setCtx k c).port p = s.port p := by
  cases p <;> rfl
@[simp] theorem State.port_setRecord (s : State) (i : SlotId) (r : Option RequestRecord) (p : PortId) :
    (s.setRecord i r).port p = s.port p := by
  cases p <;> rfl
@[simp] theorem State.port_modRecord (s : State) (i : SlotId) (f : RequestRecord → RequestRecord) (p : PortId) :
    (s.modRecord i f).port p = s.port p := by
  cases p <;> rfl
@[simp] theorem State.port_setReports (s : State) (l : List Report) (p : PortId) :
    (s.setReports l).port p = s.port p := by
  cases p <;> rfl
@[simp] theorem State.port_setDisabled (s : State) (k : SignalId) (b : Bool) (p : PortId) :
    (s.setDisabled k b).port p = s.port p := by
  cases p <;> rfl
@[simp] theorem port_updateMode (s : State) (p : PortId) :
    (updateMode s).port p = s.port p := by
  cases p <;> rfl
@[simp] theorem port_updateAlert (s : State) (p : PortId) :
    (updateAlert s).port p = s.port p := by
  cases p <;> rfl
@[simp] theorem port_writeReport (s : State) (b : ReportBody) (p : PortId) :
    (writeReport b s).port p = s.port p := by
  cases p <;> rfl

/-! ## Contexts after an update -/

@[simp] theorem State.ctx_setCtx_self (s : State) (k : SignalId) (c : SignalContext) :
    (s.setCtx k c).ctx k = c := by
  simp [State.setCtx, State.ctx]

theorem State.ctx_setCtx_ne (s : State) {k j : SignalId} (c : SignalContext) (h : j ≠ k) :
    (s.setCtx k c).ctx j = s.ctx j := by
  simp only [State.setCtx, State.ctx]
  exact Vector.getElem_set_ne _ _ (fun e => h (Fin.ext e.symm))

@[simp] theorem State.setCtx_ctx (s : State) (k : SignalId) : s.setCtx k (s.ctx k) = s := by
  simp [State.setCtx, State.ctx]

@[simp] theorem State.setCtx_setCtx (s : State) (k : SignalId) (c d : SignalContext) :
    (s.setCtx k c).setCtx k d = s.setCtx k d := by
  simp [State.setCtx]

@[simp] theorem State.ctx_setPort (s : State) (p : PortId) (q : Port) (k : SignalId) :
    (s.setPort p q).ctx k = s.ctx k := by
  cases p <;> rfl
@[simp] theorem State.ctx_setRecord (s : State) (i : SlotId) (r : Option RequestRecord) (k : SignalId) :
    (s.setRecord i r).ctx k = s.ctx k := rfl
@[simp] theorem State.ctx_modRecord (s : State) (i : SlotId) (f : RequestRecord → RequestRecord) (k : SignalId) :
    (s.modRecord i f).ctx k = s.ctx k := rfl
@[simp] theorem State.ctx_setReports (s : State) (l : List Report) (k : SignalId) :
    (s.setReports l).ctx k = s.ctx k := rfl
@[simp] theorem State.ctx_setDisabled (s : State) (j : SignalId) (b : Bool) (k : SignalId) :
    (s.setDisabled j b).ctx k = s.ctx k := rfl
@[simp] theorem ctx_updateMode (s : State) (k : SignalId) :
    (updateMode s).ctx k = s.ctx k := rfl
@[simp] theorem ctx_updateAlert (s : State) (k : SignalId) :
    (updateAlert s).ctx k = s.ctx k := rfl
@[simp] theorem ctx_writeReport (s : State) (b : ReportBody) (k : SignalId) :
    (writeReport b s).ctx k = s.ctx k := rfl

/-! ## Records after an update -/

@[simp] theorem State.record_setRecord_self (s : State) (i : SlotId) (r : Option RequestRecord) :
    (s.setRecord i r).record i = r := by
  simp [State.setRecord, State.record]

theorem State.record_setRecord_ne (s : State) {i j : SlotId} (r : Option RequestRecord) (h : j ≠ i) :
    (s.setRecord i r).record j = s.record j := by
  simp only [State.setRecord, State.record]
  exact Vector.getElem_set_ne _ _ (fun e => h (Fin.ext e.symm))

theorem State.record_setRecord (s : State) (i j : SlotId) (r : Option RequestRecord) :
    (s.setRecord i r).record j = if j = i then r else s.record j := by
  split
  · next h => subst h; simp
  · next h => exact s.record_setRecord_ne r h

@[simp] theorem State.record_modRecord_self (s : State) (i : SlotId) (f : RequestRecord → RequestRecord) :
    (s.modRecord i f).record i = (s.record i).map f :=
  s.record_setRecord_self i _

theorem State.record_modRecord_ne (s : State) {i j : SlotId} (f : RequestRecord → RequestRecord) (h : j ≠ i) :
    (s.modRecord i f).record j = s.record j :=
  s.record_setRecord_ne _ h

theorem State.record_modRecord (s : State) (i j : SlotId) (f : RequestRecord → RequestRecord) :
    (s.modRecord i f).record j = if j = i then (s.record j).map f else s.record j := by
  split
  · next h => subst h; simp
  · next h => exact s.record_modRecord_ne f h

@[simp] theorem State.setRecord_record (s : State) (i : SlotId) : s.setRecord i (s.record i) = s := by
  simp [State.setRecord, State.record]

@[simp] theorem State.record_setPort (s : State) (p : PortId) (q : Port) (i : SlotId) :
    (s.setPort p q).record i = s.record i := by
  cases p <;> rfl
@[simp] theorem State.record_setCtx (s : State) (k : SignalId) (c : SignalContext) (i : SlotId) :
    (s.setCtx k c).record i = s.record i := rfl
@[simp] theorem State.record_setReports (s : State) (l : List Report) (i : SlotId) :
    (s.setReports l).record i = s.record i := rfl
@[simp] theorem State.record_setDisabled (s : State) (j : SignalId) (b : Bool) (i : SlotId) :
    (s.setDisabled j b).record i = s.record i := rfl
@[simp] theorem record_updateMode (s : State) (i : SlotId) :
    (updateMode s).record i = s.record i := rfl
@[simp] theorem record_updateAlert (s : State) (i : SlotId) :
    (updateAlert s).record i = s.record i := rfl
@[simp] theorem record_writeReport (s : State) (b : ReportBody) (i : SlotId) :
    (writeReport b s).record i = s.record i := rfl

/-- The list of records holds exactly the occupied slots (R55). -/
theorem State.mem_records (s : State) (x : SlotId × RequestRecord) : x ∈ s.records ↔ s.record x.1 = some x.2 := by
  obtain ⟨i, r⟩ := x
  simp only [State.records, List.mem_filterMap, Option.map_eq_some_iff, Prod.mk.injEq]
  constructor
  · rintro ⟨j, -, q, h, rfl, rfl⟩
    exact h
  · intro h
    exact ⟨i, List.mem_finRange i, r, h, rfl, rfl⟩

/-- Two states with the same slots list the same records. -/
theorem State.records_congr {s t : State} (h : t.slots = s.slots) : t.records = s.records := by
  simp only [State.records, State.record, h]

/-- A free slot that is found is free. -/
theorem State.freeSlot_free {s : State} {i : SlotId} (h : s.freeSlot = some i) : s.record i = none := by
  have := List.find?_some h
  simpa using this

/-- The record found for a bus at a signal is one, in that slot. -/
theorem State.findRecord_some {s : State} {bus : Half} {k : SignalId} {x : SlotId × RequestRecord}
    (h : s.findRecord bus k = some x) : s.record x.1 = some x.2 ∧ x.2.bus = bus ∧ x.2.signal = k := by
  have hm := List.mem_of_find?_eq_some h
  have hp := List.find?_some h
  simp only [Bool.and_eq_true, beq_iff_eq] at hp
  exact ⟨(s.mem_records x).1 hm, hp.1, hp.2⟩

/-- No record is found for a bus at a signal exactly when no slot holds one. -/
theorem State.findRecord_none {s : State} {bus : Half} {k : SignalId} :
    s.findRecord bus k = none ↔ ∀ i r, s.record i = some r → r.bus = bus → r.signal ≠ k := by
  simp only [State.findRecord, List.find?_eq_none, Bool.and_eq_true, beq_iff_eq, not_and]
  constructor
  · intro h i r hr
    exact h (i, r) ((s.mem_records (i, r)).2 hr)
  · intro h x hx
    exact h x.1 x.2 ((s.mem_records x).1 hx)

end Sys2Proof.Machine
end

