-- ==== Sys2Proof/Laws/Service.lean ====
section
/-! SUPPORT. Sys2Proof/Laws/Service.lean: what the service operations of one signal (chapters 7 and 8) can change. Every
one of them keeps the frame `Serves k`: only signal k's service values, its slot in a call queue and the service fields of
records change. -/

namespace Sys2Proof.Machine

/-- A context without the values an evaluation writes (R99). -/
def SignalContext.unserved (c : SignalContext) : SignalContext :=
  { c with spent := 0, holder := none, call := none, refreshTimer := none, refreshCount := 0 }

/-- A port's values and its call slots for other signals than k. -/
def Port.besideCall (q : Port) (k : SignalId) : Port × List CallSlot :=
  ({ q with callQueue := [] }, q.callQueue.filter fun c => c.signal != k)

/-- From s to t only the service of signal k has changed. -/
structure Serves (k : SignalId) (s t : State) : Prop where
  pending : t.pending = s.pending
  resetHeld : t.resetHeld = s.resetHeld
  clock : t.clock = s.clock
  ownAddress : t.ownAddress = s.ownAddress
  parity : t.parity = s.parity
  tables : t.tables = s.tables
  validity : t.validity = s.validity
  load : t.load = s.load
  mode : t.mode = s.mode
  disabled : t.disabled = s.disabled
  observe : t.observe = s.observe
  reports : t.reports = s.reports
  alert : t.alert = s.alert
  freeCount : t.freeCount = s.freeCount
  ctxOther : ∀ j, j ≠ k → t.ctx j = s.ctx j
  ctxOwn : (t.ctx k).unserved = (s.ctx k).unserved
  port : ∀ p, (t.port p).besideCall k = (s.port p).besideCall k
  record : ∀ i, (t.record i).map RequestRecord.unserved = (s.record i).map RequestRecord.unserved

theorem Serves.refl (k : SignalId) (s : State) : Serves k s s := by
  constructor <;> intros <;> rfl

theorem Serves.trans {k : SignalId} {s t u : State} (h : Serves k s t) (g : Serves k t u) : Serves k s u where
  pending := g.pending.trans h.pending
  resetHeld := g.resetHeld.trans h.resetHeld
  clock := g.clock.trans h.clock
  ownAddress := g.ownAddress.trans h.ownAddress
  parity := g.parity.trans h.parity
  tables := g.tables.trans h.tables
  validity := g.validity.trans h.validity
  load := g.load.trans h.load
  mode := g.mode.trans h.mode
  disabled := g.disabled.trans h.disabled
  observe := g.observe.trans h.observe
  reports := g.reports.trans h.reports
  alert := g.alert.trans h.alert
  freeCount := g.freeCount.trans h.freeCount
  ctxOther j hj := (g.ctxOther j hj).trans (h.ctxOther j hj)
  ctxOwn := g.ctxOwn.trans h.ctxOwn
  port p := (g.port p).trans (h.port p)
  record i := (g.record i).trans (h.record i)

/-! ## The two updates and the call queue -/

theorem serves_setCtx (k : SignalId) (c : SignalContext) (s : State) (h : c.unserved = (s.ctx k).unserved) :
    Serves k s (s.setCtx k c) := by
  constructor <;> intros <;> simp_all [State.ctx_setCtx_ne]

theorem serves_modRecord (k : SignalId) (i : SlotId) (f : RequestRecord → RequestRecord) (s : State)
    (h : ∀ r, s.record i = some r → (f r).unserved = r.unserved) : Serves k s (s.modRecord i f) := by
  constructor
  case record =>
    intro j
    rw [State.record_modRecord]
    split
    · next e =>
      subst e
      cases hr : s.record j with
      | none => rfl
      | some r => simp [h r hr]
    · rfl
  all_goals intros; simp

/-- A call's place leaves the slots of other signals as they stand, in their order (R14). -/
theorem placeInQueue_filter (c : CallSlot) (l : List CallSlot) :
    ((placeInQueue c l).filter fun d => d.signal != c.signal) = l.filter fun d => d.signal != c.signal := by
  unfold placeInQueue
  split
  · clear * -
    unfold replaceCall
    induction l with
    | nil => rfl
    | cons d l ih =>
      simp only [List.map_cons, List.filter_cons]
      by_cases e : d.signal = c.signal
      · simp only [e, ↓reduceIte, bne_self_eq_false, Bool.false_eq_true]
        exact ih
      · have e' : (d.signal != c.signal) = true := bne_iff_ne.2 e
        simp only [e, ↓reduceIte, e']
        rw [ih]
  · simp

/-- A generated call changes nothing but its signal's slot in one call queue (R14, R147). -/
theorem serves_placeCall (k : SignalId) (c : CallContent) (s : State) : Serves k s (placeCall k c s) := by
  unfold placeCall
  split
  · exact Serves.refl k s
  · next p hp =>
    constructor
    case port =>
      intro q
      by_cases e : q = p
      · subst e
        simp only [State.port_setPort_self, Port.besideCall]
        rw [placeInQueue_filter { signal := k, dest := (s.signalEntry k).cabinet, content := c }]
      · rw [State.port_setPort_ne _ _ e]
    all_goals intros; simp

/-! ## Calls -/

/-- A CANCEL keeps the frame of its signal (R146). -/
theorem serves_generateCancel (k : SignalId) (s : State) : Serves k s (generateCancel k s) := by
  unfold generateCancel
  split
  · exact Serves.refl k s
  · exact (serves_setCtx k (s.ctx k).withoutCall s rfl).trans (serves_placeCall k _ _)

/-- After a CANCEL no call is in force and no refresh timer runs (R146). -/
theorem generateCancel_call (k : SignalId) (s : State) : ((generateCancel k s).ctx k).call = none := by
  unfold generateCancel
  split
  · next h => exact h
  · unfold placeCall
    split <;> simp [SignalContext.withoutCall]

/-- A CANCEL keeps the holder of its signal (R146). -/
theorem generateCancel_holder (k : SignalId) (s : State) : ((generateCancel k s).ctx k).holder = (s.ctx k).holder := by
  unfold generateCancel
  split
  · rfl
  · unfold placeCall
    split <;> simp [SignalContext.withoutCall]

/-- A CANCEL changes no record (R146). -/
theorem generateCancel_record (k : SignalId) (s : State) (i : SlotId) :
    (generateCancel k s).record i = s.record i := by
  unfold generateCancel
  split
  · rfl
  · unfold placeCall
    split <;> simp

/-- The generation of an EXTEND or EARLY call keeps the frame of its signal (R143). -/
theorem serves_generateCall (k : SignalId) (i : SlotId) (r : RequestRecord) (action : CallAction) (amount : Nat)
    (pf : Bool) (s : State) : Serves k s (generateCall k i r action amount pf s) := by
  unfold generateCall
  refine Serves.trans ?_ (serves_placeCall k _ _)
  refine Serves.trans (serves_setCtx k _ s ?_) (serves_modRecord k i _ _ ?_)
  · simp [SignalContext.unserved, SignalContext.withCall]
  · exact fun _ _ => rfl

/-- A refresh copy keeps the frame of its signal (R151). -/
theorem serves_refreshCopy (k : SignalId) (s : State) : Serves k s (refreshCopy k s) := by
  unfold refreshCopy
  split
  · exact Serves.refl k s
  · split
    · refine Serves.trans ?_ (serves_placeCall k _ _)
      exact serves_setCtx k _ s (by simp [SignalContext.unserved])
    · refine Serves.trans ?_ (serves_placeCall k _ _)
      refine Serves.trans (serves_setCtx k _ s ?_) (serves_modRecord k _ _ _ ?_)
      · simp [SignalContext.unserved]
      · exact fun _ _ => rfl

/-! ## Holding -/

/-- Placing a record by the horizon changes its state and horizon entry time only (R59, R63). -/
theorem byHorizon_unserved (r : RequestRecord) (now : Time) (h : Nat) : (r.byHorizon now h).unserved = r.unserved := by
  unfold RequestRecord.byHorizon
  split <;> rfl

theorem released_unserved (r : RequestRecord) (now : Time) (h : Nat) : (r.released now h).unserved = r.unserved := by
  unfold RequestRecord.released
  split
  · rfl
  · exact byHorizon_unserved r now h

theorem held_unserved (r : RequestRecord) : r.held.unserved = r.unserved := by
  unfold RequestRecord.held
  split <;> rfl

/-- Giving up holding keeps the frame of its signal (R124). -/
theorem serves_giveUp (k : SignalId) (s : State) : Serves k s (giveUp k s) := by
  unfold giveUp
  dsimp only
  split
  · exact serves_generateCancel k s
  · exact ((serves_generateCancel k s).trans
      (serves_modRecord k _ _ _ fun r _ => released_unserved r _ _)).trans
      (serves_setCtx k _ _ (by simp [SignalContext.unserved]))

/-- After holding is given up the signal has no holder and no call in force (R124). -/
theorem giveUp_holder (k : SignalId) (s : State) :
    ((giveUp k s).ctx k).holder = none ∧ ((giveUp k s).ctx k).call = none := by
  unfold giveUp
  dsimp only
  split
  · next h => exact ⟨h, generateCancel_call k s⟩
  · simp [generateCancel_call]

/-- Taking holding keeps the frame of its signal (R63). -/
theorem serves_takeHolding (k : SignalId) (i : SlotId) (s : State) : Serves k s (takeHolding k i s) := by
  unfold takeHolding
  exact (serves_modRecord k i _ s fun r _ => held_unserved r).trans
    (serves_setCtx k _ _ (by simp [SignalContext.unserved]))

theorem takeHolding_holder (k : SignalId) (i : SlotId) (s : State) :
    ((takeHolding k i s).ctx k).holder = some i := by
  simp [takeHolding]

theorem serves_takeCandidate (k : SignalId) (c : Option (SlotId × RequestRecord)) (s : State) :
    Serves k s (takeCandidate k c s) := by
  unfold takeCandidate
  split
  · exact Serves.refl k s
  · exact serves_takeHolding k _ s

/-! ## An evaluation -/

/-- The choice of holder keeps the frame of its signal (R123). -/
theorem serves_settleHolder (k : SignalId) (s : State) : Serves k s (settleHolder k s) := by
  unfold settleHolder
  dsimp only
  split
  · exact serves_takeCandidate k _ s
  · split
    · exact (serves_giveUp k s).trans (serves_takeCandidate k _ _)
    · split
      · exact Serves.refl k s
      · split
        · exact Serves.refl k s
        · split
          · exact (serves_giveUp k s).trans (serves_takeHolding k _ _)
          · split
            · exact (serves_giveUp k s).trans (serves_takeHolding k _ _)
            · exact Serves.refl k s

theorem serves_recordOutcome (k : SignalId) (i : SlotId) (o : ServiceOutcome × Bool) (s : State) :
    Serves k s (recordOutcome i o s) :=
  serves_modRecord k i _ s fun _ _ => rfl

theorem serves_actOnOutcome (k : SignalId) (i : SlotId) (r : RequestRecord) (o : ServiceOutcome × Bool) (s : State) :
    Serves k s (actOnOutcome k i r o s) := by
  unfold actOnOutcome
  split
  · exact serves_generateCancel k s
  · split
    · exact Serves.refl k s
    · exact serves_generateCall k i r _ _ _ s

theorem serves_serveHolder (k : SignalId) (s : State) : Serves k s (serveHolder k s) := by
  unfold serveHolder
  split
  · exact Serves.refl k s
  · split
    · exact Serves.refl k s
    · exact (serves_recordOutcome k _ _ s).trans (serves_actOnOutcome k _ _ _ _)

/-- An evaluation acts on the context of its own signal, on records' service fields and on that signal's slot in one
call queue (R120). -/
theorem serves_evaluate (k : SignalId) (s : State) : Serves k s (evaluate k s) :=
  (serves_settleHolder k s).trans (serves_serveHolder k _)

/-- A lapse keeps the frame of its signal (R152). -/
theorem serves_lapse (k : SignalId) (s : State) : Serves k s (lapse k s) := by
  unfold lapse
  dsimp only
  refine (Serves.trans ?_ (serves_giveUp k _)).trans (serves_evaluate k _)
  split
  · exact serves_generateCancel k s
  · exact (serves_generateCancel k s).trans (serves_modRecord k _ _ _ fun _ _ => rfl)

/-- A refresh expiry keeps the frame of its signal (R150). -/
theorem serves_refreshOrLapse (k : SignalId) (s : State) : Serves k s (refreshOrLapse k s) := by
  unfold refreshOrLapse
  dsimp only
  split
  · split
    · exact (serves_evaluate k s).trans (serves_refreshCopy k _)
    · exact (serves_evaluate k s).trans (serves_lapse k _)
  · exact serves_evaluate k s

/-! ## What the frame says of the values others read -/

theorem Serves.signalEntry {k : SignalId} {s t : State} (h : Serves k s t) (j : SignalId) :
    t.signalEntry j = s.signalEntry j := by
  simp only [State.signalEntry, h.tables]

/-- The values of a context that an evaluation does not write are kept at every signal (R120). -/
theorem Serves.ctxUnserved {k : SignalId} {s t : State} (h : Serves k s t) (j : SignalId) :
    (t.ctx j).unserved = (s.ctx j).unserved := by
  by_cases e : j = k
  · subst e
    exact h.ctxOwn
  · rw [h.ctxOther j e]

theorem Serves.plan {k : SignalId} {s t : State} (h : Serves k s t) (j : SignalId) : (t.ctx j).plan = (s.ctx j).plan := by
  have e := congrArg SignalContext.plan (h.ctxUnserved j)
  exact e

theorem Serves.state {k : SignalId} {s t : State} (h : Serves k s t) (j : SignalId) :
    (t.ctx j).state = (s.ctx j).state := by
  have e := congrArg SignalContext.state (h.ctxUnserved j)
  exact e

theorem Serves.freshness {k : SignalId} {s t : State} (h : Serves k s t) (j : SignalId) :
    (t.ctx j).freshness = (s.ctx j).freshness := by
  have e := congrArg SignalContext.freshness (h.ctxUnserved j)
  exact e

theorem Serves.planInEffect {k : SignalId} {s t : State} (h : Serves k s t) (j : SignalId) :
    t.planInEffect j = s.planInEffect j := by
  simp only [State.planInEffect, h.tables, h.plan j]

theorem Serves.covered {k : SignalId} {s t : State} (h : Serves k s t) (j : SignalId) : t.covered j = s.covered j := by
  simp only [State.covered, h.load]

/-- An evaluation changes none of the conditions a service state depends on (R111, R120). -/
theorem Serves.serviceState {k : SignalId} {s t : State} (h : Serves k s t) (j : SignalId) :
    serviceState j t = serviceState j s := by
  have hc := h.ctxUnserved j
  have ea := congrArg SignalContext.accepting hc
  have el := congrArg SignalContext.lockout hc
  have ha : (t.ctx j).accepting = (s.ctx j).accepting := ea
  have hl : (t.ctx j).lockout = (s.ctx j).lockout := el
  simp only [Machine.serviceState, h.signalEntry, h.tables, h.validity, h.covered, State.isDisabled, h.disabled,
    h.freshness, ha, hl, h.planInEffect]
  rfl

/-- No record is created or freed by an evaluation. -/
theorem Serves.record_isSome {k : SignalId} {s t : State} (h : Serves k s t) (i : SlotId) :
    (t.record i).isSome = (s.record i).isSome := by
  have := congrArg Option.isSome (h.record i)
  simpa using this

end Sys2Proof.Machine
end

