-- ==== Sys2Proof/Laws/Events.lean ====
section
/-! SUPPORT. Sys2Proof/Laws/Events.lean: what the shared operations of an event can do: the report queue, recomputing a
service state, closing a record, and the end of an event. -/

namespace Sys2Proof.Machine

/-! ## The report queue (R180) -/

theorem bumpOverrun_length (l : List Report) : (bumpOverrun l).length = l.length := by
  induction l with
  | nil => rfl
  | cons r l ih =>
    cases l with
    | nil =>
      unfold bumpOverrun
      split <;> rfl
    | cons q l =>
      unfold bumpOverrun
      simpa using ih

/-- A record written never takes the queue beyond its capacity (R180). -/
theorem storeReport_length_le (now : Time) (b : ReportBody) (l : List Report) (h : l.length ≤ reportCapacity) :
    (storeReport now b l).length ≤ reportCapacity := by
  unfold storeReport
  split
  · simp; omega
  · split
    · simp; omega
    · rw [bumpOverrun_length]; exact h

/-- A record written with 30 or fewer held is stored at the tail (R180). -/
theorem storeReport_tail (now : Time) (b : ReportBody) (l : List Report) (h : l.length + 1 < reportCapacity) :
    storeReport now b l = l ++ [{ time := now, body := b }] := by
  simp [storeReport, h]

/-! ## Recomputing a service state (R112, R113) -/

theorem recompute_eq (k : SignalId) (s : State) :
    recompute k s =
      (s.setCtx k { s.ctx k with state := serviceState k s }).setReports
        (if reportsStateChange (s.ctx k).state (serviceState k s) then
          storeReport s.clock (.signalState k (s.ctx k).state (serviceState k s)) s.reports
        else s.reports) := by
  unfold recompute
  dsimp only
  split <;> rfl

theorem recompute_ctx_self (k : SignalId) (s : State) :
    (recompute k s).ctx k = { s.ctx k with state := serviceState k s } := by
  simp [recompute_eq]

theorem recompute_ctx_ne {k j : SignalId} (s : State) (h : j ≠ k) : (recompute k s).ctx j = s.ctx j := by
  simp [recompute_eq, State.ctx_setCtx_ne, h]

@[simp] theorem recompute_record (k : SignalId) (s : State) (i : SlotId) :
    (recompute k s).record i = s.record i := by
  simp [recompute_eq]

@[simp] theorem recompute_port (k : SignalId) (s : State) (p : PortId) : (recompute k s).port p = s.port p := by
  simp [recompute_eq]

@[simp] theorem recompute_tables (k : SignalId) (s : State) : (recompute k s).tables = s.tables := by
  simp [recompute_eq]
@[simp] theorem recompute_validity (k : SignalId) (s : State) : (recompute k s).validity = s.validity := by
  simp [recompute_eq]
@[simp] theorem recompute_load (k : SignalId) (s : State) : (recompute k s).load = s.load := by
  simp [recompute_eq]
@[simp] theorem recompute_clock (k : SignalId) (s : State) : (recompute k s).clock = s.clock := by
  simp [recompute_eq]
@[simp] theorem recompute_mode (k : SignalId) (s : State) : (recompute k s).mode = s.mode := by
  simp [recompute_eq]
@[simp] theorem recompute_disabled (k : SignalId) (s : State) : (recompute k s).disabled = s.disabled := by
  simp [recompute_eq]
@[simp] theorem recompute_observe (k : SignalId) (s : State) : (recompute k s).observe = s.observe := by
  simp [recompute_eq]
@[simp] theorem recompute_ownAddress (k : SignalId) (s : State) :
    (recompute k s).ownAddress = s.ownAddress := by
  simp [recompute_eq]
@[simp] theorem recompute_pending (k : SignalId) (s : State) : (recompute k s).pending = s.pending := by
  simp [recompute_eq]
@[simp] theorem recompute_resetHeld (k : SignalId) (s : State) : (recompute k s).resetHeld = s.resetHeld := by
  simp [recompute_eq]
@[simp] theorem recompute_parity (k : SignalId) (s : State) : (recompute k s).parity = s.parity := by
  simp [recompute_eq]

/-! ## Closing a record (R78) -/

/-- A closed slot is free (R77, R78). -/
theorem closeRecord_slot (i : SlotId) (reason : ClosureReason) (s : State) :
    (closeRecord i reason s).record i = none := by
  unfold closeRecord closureNotice
  split
  · next h => exact h
  · simp

/-- The first step of a closure: the CANCEL of a holder's call, which changes no record (R78). -/
theorem closeRecord_other (i j : SlotId) (reason : ClosureReason) (s : State) (h : j ≠ i) :
    (closeRecord i reason s).record j = s.record j := by
  unfold closeRecord closureNotice
  split
  · rfl
  · dsimp only
    split <;> simp [State.record_setRecord_ne, h, generateCancel_record]

/-- A closure touches no context but that of the record's signal (R78). -/
theorem closeRecord_ctx_ne (i : SlotId) (reason : ClosureReason) (s : State) (r : RequestRecord) (k : SignalId)
    (hr : s.record i = some r) (h : k ≠ r.signal) : (closeRecord i reason s).ctx k = s.ctx k := by
  unfold closeRecord closureNotice
  simp only [hr]
  rw [recompute_ctx_ne _ h, State.ctx_setCtx_ne _ _ h]
  split
  · simpa using (serves_generateCancel r.signal s).ctxOther k h
  · simp

/-- A closure of a free slot is no event (R77). -/
theorem closeRecord_free (i : SlotId) (reason : ClosureReason) (s : State) (h : s.record i = none) :
    closeRecord i reason s = s := by
  simp [closeRecord, h]

theorem SameConfig.refl (s : State) : SameConfig s s := by
  constructor <;> rfl

theorem SameConfig.trans {s t u : State} (h : SameConfig s t) (g : SameConfig t u) : SameConfig s u where
  pending := g.pending.trans h.pending
  resetHeld := g.resetHeld.trans h.resetHeld
  clock := g.clock.trans h.clock
  ownAddress := g.ownAddress.trans h.ownAddress
  parity := g.parity.trans h.parity
  tables := g.tables.trans h.tables
  validity := g.validity.trans h.validity
  load := g.load.trans h.load
  mode := g.mode.trans h.mode
  disabled := g.disabled.trans h.disabled
  observe := g.observe.trans h.observe

/-- An evaluation keeps all that a closure keeps. -/
theorem Serves.keeps {k : SignalId} {s t : State} (h : Serves k s t) : SameConfig s t where
  pending := h.pending
  resetHeld := h.resetHeld
  clock := h.clock
  ownAddress := h.ownAddress
  parity := h.parity
  tables := h.tables
  validity := h.validity
  load := h.load
  mode := h.mode
  disabled := h.disabled
  observe := h.observe

theorem recompute_keeps (k : SignalId) (s : State) : SameConfig s (recompute k s) := by
  constructor <;> simp

theorem closeRecord_keeps (i : SlotId) (reason : ClosureReason) (s : State) :
    SameConfig s (closeRecord i reason s) := by
  unfold closeRecord closureNotice
  split
  · exact SameConfig.refl s
  · next r _ =>
    dsimp only
    split
    · refine SameConfig.trans (serves_generateCancel r.signal s).keeps ?_
      constructor <;> simp
    · constructor <;> simp

theorem closeAll_keeps (l : List SlotId) (reason : ClosureReason) (s : State) :
    SameConfig s (closeAll l reason s) := by
  unfold closeAll
  induction l generalizing s with
  | nil => exact SameConfig.refl s
  | cons i l ih => exact (closeRecord_keeps i reason s).trans (ih _)

/-- Every slot of the list is free afterwards, and every other slot holds what it held (R79). -/
theorem closeAll_record (l : List SlotId) (reason : ClosureReason) (s : State) (j : SlotId) :
    (closeAll l reason s).record j = if j ∈ l then none else s.record j := by
  unfold closeAll
  induction l generalizing s with
  | nil => simp
  | cons i l ih =>
    rw [List.foldl_cons, ih]
    by_cases hj : j ∈ l
    · simp [hj]
    · by_cases e : j = i
      · subst e
        simp [hj, closeRecord_slot]
      · simp [hj, e, closeRecord_other]

theorem evaluateAll_keeps (l : List SignalId) (s : State) : SameConfig s (evaluateAll l s) := by
  unfold evaluateAll
  induction l generalizing s with
  | nil => exact SameConfig.refl s
  | cons k l ih => exact (serves_evaluate k s).keeps.trans (ih _)

/-! ## The transmitter (R2, R18, R19) -/

/-- Sending on leaves everything of a port but what its TXD pin has carried. -/
theorem Port.sendOn_rest (q : Port) (setting : Parity) (n : Nat) :
    q.sendOn setting n = { q with txd := (q.sendOn setting n).txd } := by
  unfold Port.sendOn
  split <;> rfl

/-- What the TXD pin has carried of a frame in flight once more of it is sent. -/
theorem Port.sendOn_txd (q : Port) (setting : Parity) (n : Nat) (f : TxFrame) (h : q.tx = some f) :
    (q.sendOn setting n).txd = q.txd ++ ((f.bytes.drop q.txd.length).take n).map (sentBits setting) := by
  unfold Port.sendOn
  rw [h]

/-- An idle transmitter sends nothing on. -/
theorem Port.sendOn_idle (q : Port) (setting : Parity) (n : Nat) (h : q.tx = none) : q.sendOn setting n = q := by
  unfold Port.sendOn
  rw [h]

@[simp] theorem Port.sendOn_tx (q : Port) (setting : Parity) (n : Nat) : (q.sendOn setting n).tx = q.tx := by
  rw [Port.sendOn_rest]

/-- A frame begins with its first character on TXD; the rest of the port stays. -/
theorem Port.beginFrame_eq (q : Port) (setting : Parity) (bytes : List Byte) (r : Rate) :
    q.beginFrame setting bytes r =
      { q with tx := some { bytes := bytes, rate := r }, txd := (bytes.take 1).map (sentBits setting) } := by
  simp [Port.beginFrame, Port.sendOn]

/-- A frame ends with all its characters on TXD; the rest of the port stays. -/
theorem Port.endFrame_eq (q : Port) (setting : Parity) (f : TxFrame) (h : q.tx = some f) :
    q.endFrame setting =
      { q with tx := none, txd := q.txd ++ (f.bytes.drop q.txd.length).map (sentBits setting) } := by
  simp [Port.endFrame, Port.sendOn, h, List.take_of_length_le]

/-- What a change of parity does: the port's frame in flight, when it has one, keeps the old setting for what has begun,
and nothing else of the ports changes. -/
theorem setParity_port (v : Parity) (s : State) (p : PortId) :
    ∃ n, (setParity v s).port p = (s.port p).sendOn s.parity n := by
  unfold setParity
  split
  · refine ⟨0, ?_⟩
    unfold Port.sendOn
    split <;> simp
  · cases p
    · exact ⟨_, rfl⟩
    · exact ⟨_, rfl⟩

/-- A change of parity leaves everything but the setting, the ports and the count of free choices. -/
theorem setParity_rest (v : Parity) (s : State) :
    setParity v s =
      { s with parity := v, west := (setParity v s).west, east := (setParity v s).east,
               freeCount := (setParity v s).freeCount } := by
  unfold setParity
  split
  · next h => subst h; rfl
  · rfl

@[simp] theorem setParity_parity (v : Parity) (s : State) : (setParity v s).parity = v := by
  rw [setParity_rest]

/-! ## The end of an event (R18, R182) -/

/-- Taking a frame from its holding place leaves the receiver as it was. -/
theorem Port.nextFrame_keeps (q : Port) (src : Byte) :
    ∀ x ∈ q.nextFrame src, SameReceiver q x.2 := by
  intro x h
  unfold Port.nextFrame at h
  split at h <;> cases h <;> constructor <;> rfl

/-- What an arbiter leaves of a port: the state, the rates and the counts, and the assembly. -/
theorem Port.transmit_keeps (q : Port) (setting : Parity) (src : Byte) :
    SameReceiver q (q.transmit setting src) := by
  unfold Port.transmit
  split
  · split
    · next h =>
      rw [Port.beginFrame_eq]
      exact { Port.nextFrame_keeps q src _ h with }
    · constructor <;> rfl
  · constructor <;> rfl

/-- A port that sends, or that is not RUNNING, begins nothing (R18). -/
theorem Port.transmit_busy (q : Port) (setting : Parity) (src : Byte)
    (h : q.tx.isSome = true ∨ q.state = .learning) : q.transmit setting src = q := by
  unfold Port.transmit
  split
  · next h1 _ h2 => simp [h1, h2] at h
  · rfl

/-- With nothing waiting, nothing begins (R18). -/
theorem Port.transmit_empty (q : Port) (setting : Parity) (src : Byte) (hc : q.callQueue = [])
    (hr : q.repeatQueue = []) (hp : q.reply = none) : q.transmit setting src = q := by
  unfold Port.transmit Port.nextFrame
  split
  · simp [hc, hr, hp]
  · rfl

theorem arbitrate_port (s : State) (p : PortId) :
    (arbitrate s).port p = (s.port p).transmit s.parity s.srcByte := by
  cases p <;> rfl

theorem finish_port (s : State) (p : PortId) : (finish s).port p = (s.port p).transmit s.parity s.srcByte := by
  cases p <;> rfl

/-- The end of an event changes ALERT and the ports, and nothing else. -/
theorem finish_rest (s : State) :
    finish s = { s with alert := alertValue s, west := s.west.transmit s.parity s.srcByte,
                        east := s.east.transmit s.parity s.srcByte } := rfl

@[simp] theorem finish_pending (s : State) : (finish s).pending = s.pending := rfl
@[simp] theorem finish_resetHeld (s : State) : (finish s).resetHeld = s.resetHeld := rfl
@[simp] theorem finish_clock (s : State) : (finish s).clock = s.clock := rfl
@[simp] theorem finish_ownAddress (s : State) : (finish s).ownAddress = s.ownAddress := rfl
@[simp] theorem finish_parity (s : State) : (finish s).parity = s.parity := rfl
@[simp] theorem finish_tables (s : State) : (finish s).tables = s.tables := rfl
@[simp] theorem finish_validity (s : State) : (finish s).validity = s.validity := rfl
@[simp] theorem finish_load (s : State) : (finish s).load = s.load := rfl
@[simp] theorem finish_mode (s : State) : (finish s).mode = s.mode := rfl
@[simp] theorem finish_slots (s : State) : (finish s).slots = s.slots := rfl
@[simp] theorem finish_ctxs (s : State) : (finish s).ctxs = s.ctxs := rfl
@[simp] theorem finish_disabled (s : State) : (finish s).disabled = s.disabled := rfl
@[simp] theorem finish_observe (s : State) : (finish s).observe = s.observe := rfl
@[simp] theorem finish_reports (s : State) : (finish s).reports = s.reports := rfl
@[simp] theorem finish_freeCount (s : State) : (finish s).freeCount = s.freeCount := rfl
@[simp] theorem finish_alert (s : State) : (finish s).alert = alertValue s := rfl
@[simp] theorem finish_ctx (s : State) (k : SignalId) : (finish s).ctx k = s.ctx k := rfl
@[simp] theorem finish_record (s : State) (i : SlotId) : (finish s).record i = s.record i := rfl
@[simp] theorem finish_records (s : State) : (finish s).records = s.records := rfl

/-! ## Frames of events -/

theorem event_held (f : State → State) (s : State) (h : s.resetHeld = true) : event f s = s := by
  simp [event, h]

theorem event_run (f : State → State) (s : State) (h : s.resetHeld = false) : event f s = finish (f s) := by
  simp [event, h]

theorem onArrival_running (p : PortId) (f : State → State) (s : State) (h : s.resetHeld = false)
    (hp : (s.port p).state = .running) : onArrival p f s = finish (f s) := by
  simp [onArrival, event, h, hp]

theorem onArrival_learning (p : PortId) (f : State → State) (s : State) (h : s.resetHeld = false)
    (hp : (s.port p).state = .learning) : onArrival p f s = finish s := by
  simp [onArrival, event, h, hp]

theorem onHandOver_handed (p : PortId) (f : State → State) (s : State) (h : s.resetHeld = false)
    (hp : (s.port p).state = .running) (ha : s.ownAddress.isSome = true) : onHandOver p f s = finish (f s) := by
  have : s.ownAddress.isNone = false := by cases e : s.ownAddress <;> simp_all
  simp [onHandOver, onArrival, event, h, hp, this]

theorem onHandOver_noAddress (p : PortId) (f : State → State) (s : State) (h : s.resetHeld = false)
    (ha : s.ownAddress = none) : onHandOver p f s = finish s := by
  simp [onHandOver, onArrival, event, h, ha]

end Sys2Proof.Machine
end

