-- ==== Sys2Proof/Laws/Contexts.lean ====
section
/-! SUPPORT. Sys2Proof/Laws/Contexts.lean: what the steps of taking a status frame and of a report's update can do to the
records. -/

namespace Sys2Proof.Machine

/-! ## Changes made to every record of a signal (R105, R107, R61) -/

/-- Folding a change over slots changes each slot of the list once, when none is listed twice. -/
theorem foldl_modRecord (f : RequestRecord → RequestRecord) (l : List SlotId) (h : l.Nodup) (s : State)
    (i : SlotId) :
    (l.foldl (fun u j => u.modRecord j f) s).record i =
      if i ∈ l then (s.record i).map f else s.record i := by
  induction l generalizing s with
  | nil => simp
  | cons j l ih =>
    rw [List.nodup_cons] at h
    rw [List.foldl_cons, ih h.2]
    by_cases e : i = j
    · subst e
      simp [h.1]
    · simp [e, State.record_modRecord_ne]

/-- Every record of the signal is changed, and no other (R105, R107). -/
theorem changeRecordsAt_record (k : SignalId) (f : RequestRecord → RequestRecord) (s : State) (i : SlotId) :
    (changeRecordsAt k f s).record i = (s.record i).map fun r => if r.signal = k then f r else r := by
  have h := foldl_modRecord (fun r => if r.signal = k then f r else r) allSlots (List.nodup_finRange 40) s i
  have e : i ∈ allSlots := List.mem_finRange i
  rw [if_pos e] at h
  exact h

/-- A change made to records changes nothing else. -/
theorem changeRecordsAt_slots (k : SignalId) (f : RequestRecord → RequestRecord) (s : State) :
    ∃ v, changeRecordsAt k f s = { s with slots := v } := by
  unfold changeRecordsAt
  generalize allSlots = l
  induction l generalizing s with
  | nil => exact ⟨s.slots, rfl⟩
  | cons i l ih =>
    obtain ⟨v, hv⟩ := ih (s.modRecord i fun r => if r.signal = k then f r else r)
    exact ⟨v, hv⟩

theorem changeRecordsAt_ctx (k : SignalId) (f : RequestRecord → RequestRecord) (s : State) (j : SignalId) :
    (changeRecordsAt k f s).ctx j = s.ctx j := by
  obtain ⟨v, hv⟩ := changeRecordsAt_slots k f s
  rw [hv]
  rfl

theorem changeRecordsAt_keeps (k : SignalId) (f : RequestRecord → RequestRecord) (s : State) :
    SameConfig s (changeRecordsAt k f s) := by
  obtain ⟨v, hv⟩ := changeRecordsAt_slots k f s
  rw [hv]
  constructor <;> rfl

/-! ## Taking a status frame keeps the configuration (R101) -/

theorem clearCommitted_keeps (k : SignalId) (ch : StatusChange) (s : State) :
    SameConfig s (clearCommitted k ch s) := by
  unfold clearCommitted
  split
  · exact SameConfig.refl s
  · exact changeRecordsAt_keeps k _ s
  · exact changeRecordsAt_keeps k _ s

theorem reexamineRecords_keeps (k : SignalId) (b : Bool) (s : State) :
    SameConfig s (reexamineRecords k b s) := by
  unfold reexamineRecords
  split
  · exact changeRecordsAt_keeps k _ s
  · exact SameConfig.refl s

theorem creditService_keeps (k : SignalId) (s : State) : SameConfig s (creditService k s) := by
  unfold creditService
  split
  · exact SameConfig.refl s
  · split
    · constructor <;> simp
    · exact SameConfig.refl s

theorem setCtx_keeps (k : SignalId) (c : SignalContext) (s : State) : SameConfig s (s.setCtx k c) := by
  constructor <;> simp

theorem takeStatus_keeps (k : SignalId) (p : PlanId) (f : SignalStatus) (s : State) :
    SameConfig s (takeStatus k p f s) := by
  unfold takeStatus lapseAboveLimit
  dsimp only
  have h3 := ((((setCtx_keeps k ((s.ctx k).withStatus (statusChange (s.ctx k) p f.position) f p s.clock
    (statusTimeout s)) s).trans (clearCommitted_keeps k (statusChange (s.ctx k) p f.position) _)).trans
    (reexamineRecords_keeps k (decide (p ≠ (s.ctx k).plan)) _)).trans (creditService_keeps k _)).trans
    (recompute_keeps k _)
  split
  · exact (h3.trans (serves_evaluate k _).keeps).trans (serves_lapse k _).keeps
  · exact h3.trans (serves_evaluate k _).keeps

theorem offerStatus_keeps (k : SignalId) (f : SignalStatus) (s : State) : SameConfig s (offerStatus k f s) := by
  unfold offerStatus
  split
  · exact SameConfig.refl s
  · exact takeStatus_keeps k _ f s

/-- A status frame keeps the tables, the load, the flags and the clock, whichever contexts take it (R11, R101). -/
theorem handStatus_keeps (p : PortId) (src : Byte) (f : SignalStatus) (s : State) :
    SameConfig s (handStatus p src f s) := by
  unfold handStatus
  generalize allSignals.filter _ = l
  induction l generalizing s with
  | nil => exact SameConfig.refl s
  | cons k l ih => exact (offerStatus_keeps k f s).trans (ih _)

/-! ## A bus report keeps the configuration (chapter 2) -/

theorem setRecord_keeps (i : SlotId) (r : Option RequestRecord) (s : State) : SameConfig s (s.setRecord i r) := by
  constructor <;> simp

theorem writeReport_keeps (b : ReportBody) (s : State) : SameConfig s (writeReport b s) := by
  constructor <;> simp

theorem setPort_keeps (p : PortId) (q : Port) (s : State) : SameConfig s (s.setPort p q) := by
  constructor <;> simp

theorem attemptProjection_keeps (i : SlotId) (doors : Bool) (s : State) :
    SameConfig s (attemptProjection i doors s).1 := by
  unfold attemptProjection
  split
  · exact SameConfig.refl s
  · split
    · exact SameConfig.refl s
    · split
      · split
        · exact setRecord_keeps _ _ s
        · exact SameConfig.refl s
      · exact SameConfig.refl s

theorem createAndProject_keeps (i : SlotId) (t : TakenReport) (k : SignalId) (z : ZoneEntry) (route : Fin 32)
    (s : State) : SameConfig s (createAndProject i t k z route s).1 :=
  (setRecord_keeps i _ s).trans (attemptProjection_keeps i _ _)

theorem displaceAndCreate_keeps (x : SlotId × RequestRecord) (t : TakenReport) (k : SignalId) (z : ZoneEntry)
    (route : Fin 32) (s : State) : SameConfig s (displaceAndCreate x t k z route s).1 :=
  (closeRecord_keeps x.1 _ s).trans (createAndProject_keeps _ t k z route _)

theorem checkIn_keeps (t : TakenReport) (k : SignalId) (z : ZoneEntry) (route : Fin 32) (s : State) :
    SameConfig s (checkIn t k z route s).1 := by
  unfold checkIn
  split
  · split
    · exact (setRecord_keeps _ _ s).trans (attemptProjection_keeps _ _ _)
    · exact SameConfig.refl s
  · split
    · exact createAndProject_keeps _ t k z route s
    · unfold checkInFull
      split
      · exact displaceAndCreate_keeps _ t k z route s
      · split
        · exact SameConfig.refl s
        · split
          · exact displaceAndCreate_keeps _ t k z route s
          · exact writeReport_keeps _ s

theorem matchZone_keeps (t : TakenReport) (route : Fin 32) (s : State) :
    SameConfig s (matchZone t route s).1 := by
  unfold matchZone
  split
  · exact closeAll_keeps _ _ s
  · split
    · exact SameConfig.refl s
    · unfold inZone
      split
      · split
        · exact SameConfig.refl s
        · exact closeAll_keeps _ _ s
      · split
        · exact checkIn_keeps t _ _ route s
        · exact SameConfig.refl s

theorem foldl_setRecord_keeps (f : State → SlotId × RequestRecord → Option RequestRecord)
    (l : List (SlotId × RequestRecord)) (s : State) :
    SameConfig s (l.foldl (fun u x => u.setRecord x.1 (f u x)) s) := by
  induction l generalizing s with
  | nil => exact SameConfig.refl s
  | cons x l ih => exact (setRecord_keeps x.1 _ s).trans (ih _)

theorem updateRecords_keeps (t : TakenReport) (s : State) : SameConfig s (updateRecords t s).1 :=
  (foldl_setRecord_keeps (fun u x => some (x.2.refreshed t u)) _ s).trans
    (foldl_setRecord_keeps (fun u x => some (x.2.reestimated t u)) _ _)

theorem reorderNew_keeps (key : SignalId → Nat) (before : State) (p : PortId) (s : State) :
    SameConfig s (reorderNew key before p s) :=
  setPort_keeps p _ s

theorem evaluateTouched_keeps (l : List SignalId) (s : State) : SameConfig s (evaluateTouched l s) := by
  have h := ((evaluateAll_keeps (allSignals.filter fun k => l.contains k) s).trans
    (reorderNew_keeps (Config.slotOrderKey s.freeCount) s .west _)).trans
    (reorderNew_keeps (Config.slotOrderKey s.freeCount) s .east _)
  exact ⟨h.pending, h.resetHeld, h.clock, h.ownAddress, h.parity, h.tables, h.validity, h.load, h.mode,
    h.disabled, h.observe⟩

/-- A bus report keeps the tables, the load, the flags, the mode and the clock, whatever it leads to (R25). -/
theorem takeBusReport_keeps (r : BusReport) (s : State) : SameConfig s (takeBusReport r s) := by
  unfold takeBusReport
  split
  · split
    · exact SameConfig.refl s
    · split
      · exact SameConfig.refl s
      · unfold actOnReport
        dsimp only
        split
        · exact (closeAll_keeps _ _ s).trans (evaluateTouched_keeps _ _)
        · exact ((matchZone_keeps _ _ s).trans (updateRecords_keeps _ _)).trans (evaluateTouched_keeps _ _)
  · exact SameConfig.refl s

end Sys2Proof.Machine
end

