-- ==== Sys2Proof/Laws/Tables.lean ====
section
/-! SUPPORT. Sys2Proof/Laws/Tables.lean: the laws of the addressed table store (R157, R165): an entry and its bytes, reading
after storing, and what a load's requests leave as it is. -/

namespace Sys2Proof.Machine

/-! ## Two-byte fields -/

theorem getLsbD_half (a b : Byte) (i : Nat) :
    (a ++ b : Half).getLsbD i = bif i < 8 then b.getLsbD i else a.getLsbD (i - 8) := by
  have h := BitVec.getLsbD_append (x := a) (y := b) (i := i)
  by_cases g : i < 8 <;> simpa [g] using h

theorem halfBytes_high (h : Half) : (h.extractLsb' 8 8 ++ h.extractLsb' 0 8 : Half) = h := by
  apply BitVec.eq_of_getLsbD_eq
  intro i hi
  rw [getLsbD_half]
  by_cases g : i < 8
  · simp [g, BitVec.getLsbD_extractLsb']
  · have h8 : i - 8 < 8 := by omega
    have e : 8 + (i - 8) = i := by omega
    simp [g, BitVec.getLsbD_extractLsb', h8, e]

theorem append_high (a b : Byte) : (a ++ b : Half).extractLsb' 8 8 = a := by
  apply BitVec.eq_of_getLsbD_eq
  intro i hi
  simp [getLsbD_half, hi]

theorem append_low (a b : Byte) : (a ++ b : Half).extractLsb' 0 8 = b := by
  apply BitVec.eq_of_getLsbD_eq
  intro i hi
  simp [getLsbD_half, hi]

/-- The bytes of a field read at an offset are the two bytes there (R187). -/
theorem halfBytes_halfAt (l : List Byte) (i : Nat) : halfBytes (halfAt l i) = [byteAt l i, byteAt l (i + 1)] := by
  simp [halfBytes, halfAt, append_high, append_low]

/-! ## Entries and their bytes (R187) -/

theorem GlobalEntry.ofBytes_bytes (e : GlobalEntry) : GlobalEntry.ofBytes e.bytes = e := by
  cases e; simp [GlobalEntry.ofBytes, GlobalEntry.bytes, byteAt]

theorem SignalEntry.ofBytes_bytes (e : SignalEntry) : SignalEntry.ofBytes e.bytes = e := by
  cases e; simp [SignalEntry.ofBytes, SignalEntry.bytes, byteAt, halfAt, halfBytes, halfBytes_high]

theorem PlanEntry.ofBytes_bytes (e : PlanEntry) : PlanEntry.ofBytes e.bytes = e := by
  cases e; simp [PlanEntry.ofBytes, PlanEntry.bytes, byteAt, halfAt, halfBytes, halfBytes_high]

theorem ZoneEntry.ofBytes_bytes (e : ZoneEntry) : ZoneEntry.ofBytes e.bytes = e := by
  cases e; simp [ZoneEntry.ofBytes, ZoneEntry.bytes, byteAt, halfAt, halfBytes, halfBytes_high]

theorem RouteEntry.ofBytes_bytes (e : RouteEntry) : RouteEntry.ofBytes e.bytes = e := by
  cases e; simp [RouteEntry.ofBytes, RouteEntry.bytes, byteAt, halfAt, halfBytes, halfBytes_high]

theorem SegmentEntry.ofBytes_bytes (e : SegmentEntry) : SegmentEntry.ofBytes e.bytes = e := by
  cases e; simp [SegmentEntry.ofBytes, SegmentEntry.bytes, byteAt, halfAt, halfBytes, halfBytes_high]

/-- A list of a known length is the list of its bytes by offset. -/
theorem eq_bytes_of_length (l m : List Byte) (h : l.length = m.length)
    (g : ∀ i, i < m.length → byteAt l i = byteAt m i) : l = m := by
  apply List.ext_getElem h
  intro i h1 h2
  have := g i h2
  simpa [byteAt, List.getD_eq_getElem?_getD, h1, h2] using this

/-! ## Reading and storing entries (R157, R165) -/

/-- Storing an entry of one table leaves every entry of the others (R165). -/
theorem TableStore.entryBytes_storeEntry_table (t : TableStore) (id other : TableId) (i j : Nat) (l : List Byte)
    (h : other ≠ id) : (t.storeEntry id i l).entryBytes other j = t.entryBytes other j := by
  cases id <;> cases other <;> first
    | exact absurd rfl h
    | rfl
    | (simp only [TableStore.storeEntry, TableStore.entryBytes]; split <;> rfl)

/-- Storing an entry leaves the other entries of its table (R165). -/
theorem TableStore.entryBytes_storeEntry_index (t : TableStore) (id : TableId) (i j : Nat) (l : List Byte)
    (h : j ≠ i) : (t.storeEntry id i l).entryBytes id j = t.entryBytes id j := by
  cases id
  case global =>
    simp only [TableStore.storeEntry, TableStore.entryBytes]
    by_cases hi : i = 0
    · have hj : j ≠ 0 := fun e => h (e.trans hi.symm)
      simp [hj]
    · simp [hi]
  all_goals
    simp only [TableStore.storeEntry, TableStore.entryBytes]
    rw [Vector.getElem?_setIfInBounds_ne (Ne.symm h)]

/-- An index outside a table is stored nowhere. -/
theorem TableStore.storeEntry_out (t : TableStore) (id : TableId) (i : Nat) (l : List Byte) (h : id.entries ≤ i) :
    t.storeEntry id i l = t := by
  cases id
  case global =>
    have : i ≠ 0 := by simp [TableId.entries] at h; omega
    simp [TableStore.storeEntry, this]
  all_goals
    simp only [TableId.entries] at h
    simp only [TableStore.storeEntry]
    rw [Vector.setIfInBounds_eq_of_size_le h]

/-- The fixed size of every entry (R187). -/
theorem TableStore.entryBytes_length (t : TableStore) (id : TableId) (i : Nat) (h : i < id.entries) :
    (t.entryBytes id i).length = id.entrySize := by
  cases id
  case global =>
    have : i = 0 := by simp [TableId.entries] at h; omega
    simp [TableStore.entryBytes, this, GlobalEntry.bytes, TableId.entrySize]
  all_goals
    simp only [TableId.entries] at h
    simp [TableStore.entryBytes, h, SignalEntry.bytes, PlanEntry.bytes, ZoneEntry.bytes, RouteEntry.bytes,
      SegmentEntry.bytes, TableId.entrySize, halfBytes]

/-! ## Validity (R159) -/

@[simp] theorem Validities.get_set_self (v : Validities) (id : TableId) (x : Validity) : (v.set id x).get id = x := by
  cases id <;> rfl

theorem Validities.get_set_ne (v : Validities) {id other : TableId} (x : Validity) (h : other ≠ id) :
    (v.set id x).get other = v.get other := by
  cases id <;> cases other <;> first | rfl | exact absurd rfl h

/-! ## The written set (R160) -/

theorem mem_insertIndex (i j : Nat) (l : List Nat) : j ∈ insertIndex i l ↔ j = i ∨ j ∈ l := by
  induction l with
  | nil => simp [insertIndex]
  | cons k l ih =>
    unfold insertIndex
    split
    · simp
    · split
      · next h => subst h; simp
      · simp [ih]; tauto

/-- The written set stays in rising order, so it holds no duplicates (R160). -/
theorem pairwise_insertIndex (i : Nat) (l : List Nat) (h : l.Pairwise (· < ·)) :
    (insertIndex i l).Pairwise (· < ·) := by
  induction l with
  | nil => simp [insertIndex]
  | cons k l ih =>
    rw [List.pairwise_cons] at h
    unfold insertIndex
    split
    · next hik =>
      refine List.pairwise_cons.2 ⟨?_, List.pairwise_cons.2 h⟩
      intro a ha
      rcases List.mem_cons.1 ha with rfl | ha
      · exact hik
      · exact lt_trans hik (h.1 a ha)
    · split
      · exact List.pairwise_cons.2 h
      · refine List.pairwise_cons.2 ⟨?_, ih h.2⟩
        intro a ha
        rcases (mem_insertIndex i a l).1 ha with rfl | ha
        · omega
        · exact h.1 a ha

/-! ## Requests -/

/-- A request whose LEN is not the one required is refused and changes nothing (R174). -/
theorem needLength_wrong (kind : Byte) (n : Nat) (payload : List Byte) (act : State → State × Answer) (s : State)
    (h : payload.length ≠ n) : needLength kind n payload act s = (s, refuseWith kind .badLength) := by
  simp [needLength, h]

theorem needLength_right (kind : Byte) (n : Nat) (payload : List Byte) (act : State → State × Answer) (s : State)
    (h : payload.length = n) : needLength kind n payload act s = act s := by
  simp [needLength, h]

/-- A consumed request acted on: a RUNNING port, an own address and an empty reply slot (R12). -/
theorem requestEvent_answered (p : PortId) (src : Byte) (act : State → State × Answer) (s : State)
    (h : s.resetHeld = false) (hp : (s.port p).state = .running) (ha : s.ownAddress.isSome = true)
    (hr : (s.port p).reply = none) :
    requestEvent p src act s = finish (placeReply p src (act s).2 (act s).1) := by
  rw [requestEvent, onHandOver_handed p _ s h hp ha]
  simp [answerRequest, hr]

/-- A request that meets an occupied reply slot is dropped (R12). -/
theorem requestEvent_dropped (p : PortId) (src : Byte) (act : State → State × Answer) (s : State)
    (h : s.resetHeld = false) (hr : (s.port p).reply.isSome = true) : requestEvent p src act s = finish s := by
  unfold requestEvent onHandOver onArrival event answerRequest
  simp [h, hr]

end Sys2Proof.Machine
end

