-- ==== Sys2Proof/Laws/Exec.lean ====
section
/-! SUPPORT. Sys2Proof/Laws/Exec.lean: what holds of a command's outcome whatever the command is. -/

namespace Sys2Proof.Machine

/-- No command faults and none is refused: every command of the part has an effect (R174 included). -/
theorem exec_next (c : Instr) (s : State) : ∃ t, exec c s = .next t := by
  cases c <;> exact ⟨_, rfl⟩

/-- Each timer event of the part is one of the five timer commands. -/
theorem mem_dueEvents (s : State) (c : Instr) (h : c ∈ dueEvents s) :
    (∃ k, c = .freshnessExpiry k ∧ freshnessDue s k = true) ∨
      (∃ i, c = .horizonEntry i ∧ slotMeets s horizonDue i = true) ∨
      (∃ i, c = .ageExpiry i ∧ slotMeets s ageDue i = true) ∨
      (∃ i, c = .projectionExpiry i ∧ slotMeets s projectionDue i = true) ∨
      ∃ k, c = .refreshExpiry k ∧ refreshDue s k = true := by
  simp only [dueEvents, List.mem_append, List.mem_map, List.mem_filter] at h
  rcases h with (((h | h) | h) | h) | h <;> obtain ⟨x, ⟨-, hx⟩, rfl⟩ := h
  · exact .inl ⟨x, rfl, hx⟩
  · exact .inr (.inl ⟨x, rfl, hx⟩)
  · exact .inr (.inr (.inl ⟨x, rfl, hx⟩))
  · exact .inr (.inr (.inr (.inl ⟨x, rfl, hx⟩)))
  · exact .inr (.inr (.inr (.inr ⟨x, rfl, hx⟩)))

/-- A due event that is taken is one of those due. -/
theorem chooseDue_mem (n : Nat) (l : List Instr) (c : Instr) (h : chooseDue n l = some c) : c ∈ l := by
  unfold chooseDue at h
  split at h
  · cases h
  · cases h; simp
  · exact List.mem_of_getElem? h

/-- A due event is taken whenever one is due. -/
theorem chooseDue_isSome (n : Nat) (l : List Instr) (h : l ≠ []) : (chooseDue n l).isSome = true := by
  unfold chooseDue
  split
  · exact absurd rfl h
  · rfl
  · next c d l =>
    have hlt : Config.dueChoice n % (l.length + 2) < (c :: d :: l).length :=
      Nat.mod_lt _ (Nat.succ_pos _)
    rw [List.getElem?_eq_getElem hlt]
    rfl

/-- A step of the part either runs a command on the state with the rest of its queue, or a timer event, or lets the
clock run, or stands still under RESETn. -/
theorem step_cases (s : State) :
    (∃ c rest, s.pending = c :: rest ∧ step s = exec c { s with pending := rest }) ∨
      (s.pending = [] ∧ s.resetHeld = true ∧ step s = .next s) ∨
      (s.pending = [] ∧ s.resetHeld = false ∧ dueEvents s = [] ∧ step s = .next (tick s)) ∨
      ∃ c ∈ dueEvents s, s.pending = [] ∧ s.resetHeld = false ∧
        step s = exec c { s with freeCount := s.freeCount + 1 } := by
  unfold step
  split
  · next c rest h => exact .inl ⟨c, rest, h, rfl⟩
  · next h =>
    refine .inr ?_
    unfold idle
    by_cases hr : s.resetHeld = true
    · exact .inl ⟨h, hr, by simp [hr]⟩
    · have hr' : s.resetHeld = false := by simpa using hr
      refine .inr ?_
      cases hc : chooseDue s.freeCount (dueEvents s) with
      | none =>
        refine .inl ⟨h, hr', ?_, by simp [hr']⟩
        by_contra hne
        have := chooseDue_isSome s.freeCount _ hne
        simp [hc] at this
      | some c => exact .inr ⟨c, chooseDue_mem _ _ _ hc, h, hr', by simp [hr']⟩

/-- Every step answers a next state. -/
theorem step_next (s : State) : ∃ t, step s = .next t := by
  rcases step_cases s with ⟨c, rest, -, h⟩ | ⟨-, -, h⟩ | ⟨-, -, -, h⟩ | ⟨c, -, -, -, h⟩ <;> rw [h]
  · exact exec_next c _
  · exact ⟨_, rfl⟩
  · exact ⟨_, rfl⟩
  · exact exec_next c _

end Sys2Proof.Machine
end

