-- ==== Sys2Proof/WellFormed.lean ====
section
/-! DEFINITION. Sys2Proof/WellFormed.lean: which commands can come from a corridor link. Operand ranges that a type
already bounds (slots, signals, straps, KIND codes) need no check here. -/

namespace Sys2Proof

/-- A payload fits in a link frame: LEN is at most 56 (R8). -/
def payloadFits (payload : List Byte) : Bool :=
  payload.length ≤ 56

/-- The characters that complete at one moment: at least one, and at most one at each candidate rate (R3). -/
def candidatesOk (seen : List (Rate × LineChar)) : Bool :=
  !seen.isEmpty && decide (seen.map Prod.fst).Nodup

/-- A frame has at least its first character (R6). -/
def runOk (chars : List LineChar) : Bool :=
  !chars.isEmpty

/-- The CONTROL row stands for requests that are none of the five subcommand rows: LEN other than 2, or a subcommand
code that is not 1 to 5 (R178). -/
def controlOk (payload : List Byte) : Bool :=
  payloadFits payload &&
    (payload.length != 2 || !([1, 2, 3, 4, 5].contains (payload.getD 0 0)))

/-- The well-formed commands. -/
def Instr.wellFormed : Instr → Bool
  | .cleanSyncLearned _ seen => candidatesOk seen
  | .frameEndingGap _ _ chars => runOk chars
  | .queryStatus _ _ payload => payloadFits payload
  | .querySignal _ _ payload => payloadFits payload
  | .queryRequests _ _ payload => payloadFits payload
  | .readReports _ _ payload => payloadFits payload
  | .tableOpen _ _ payload => payloadFits payload
  | .tableWrite _ _ payload => payloadFits payload
  | .tableSeek _ _ payload => payloadFits payload
  | .tableClose _ _ payload => payloadFits payload
  | .tableAbandon _ _ payload => payloadFits payload
  | .tableRead _ _ payload => payloadFits payload
  | .control _ _ payload => controlOk payload
  | .powerOn _ => true
  | .resetnAssert => true
  | .resetnRelease _ => true
  | .returnToLearning _ => true
  | .badKind _ _ _ => true
  | .busReport _ _ => true
  | .signalStatus _ _ _ => true
  | .freshnessExpiry _ => true
  | .horizonEntry _ => true
  | .ageExpiry _ => true
  | .projectionExpiry _ => true
  | .refreshExpiry _ => true
  | .transmitGapEnd _ => true
  | .disable _ _ _ => true
  | .enable _ _ _ => true
  | .observeOn _ _ => true
  | .observeOff _ _ => true
  | .corridorReset _ _ => true

end Sys2Proof
end

