-- ==== Sys2Proof/Tests/Slice0.lean ====
section
/-! SUPPORT. Sys2Proof/Tests/Slice0.lean: the tests: refused ill-formed commands, the manual's worked cases, and for every
statement with hypotheses a state that meets them. -/

namespace Sys2Proof.Machine.Tests

set_option Elab.async false

/-! ## Ill-formed commands are refused -/

theorem test_payload_of_57_bytes_is_ill_formed :
    (Instr.tableWrite .west 9 (List.replicate 57 0)).wellFormed = false := by decide

theorem test_no_candidate_is_ill_formed : (Instr.cleanSyncLearned .west []).wellFormed = false := by decide

theorem test_two_candidates_at_one_rate_are_ill_formed :
    (Instr.cleanSyncLearned .east
      [(.r19200, ⟨0xD3, false, true, none⟩), (.r19200, ⟨0, false, true, none⟩)]).wellFormed = false := by decide

theorem test_empty_run_is_ill_formed : (Instr.frameEndingGap .east true []).wellFormed = false := by decide

theorem test_control_of_a_subcommand_row_is_ill_formed :
    (Instr.control .west 9 [5, 0]).wellFormed = false := by decide

theorem test_control_of_unknown_code_is_well_formed :
    (Instr.control .west 9 [6, 0]).wellFormed = true := by decide

theorem test_no_word_spells_a_command (nbits w : Nat) : decodeTableWord nbits w = none := rfl

theorem test_fetch_word_changes_nothing (s : State) (nbits w : Nat) : s.withFetchWord nbits w = s := rfl

/-! ## A small corridor: two signals, one route of two segments -/

/-- GLOBAL with speed floor 3.0 m/s, status timeout 5 s, hold time 60 s, hold margin 20 and points 0, 4, 8, 16. -/
def demoGlobal : GlobalEntry := ⟨1, 30, 50, 60, 20, 0, 4, 8, 16, 0, 30⟩

/-- Stop bars at 1,000 and 1,010 m, both projection enables set. -/
def demoSignal (cabinet port : Byte) (a b : Half) : SignalEntry := ⟨1, cabinet, port, a, b, 3, 10, 10⟩

/-- The plan of the worked placements of section 7.5: C 900, window A from 0 for 400, m 30, Xmax 10, Emax 15. -/
def demoPlan : PlanEntry := ⟨1, 0, 900, 0, 400, 600, 200, 30, 10, 15, 20, 2, 40, 3, 2, 1, 2⟩

/-- A table store of two signals, three plans, two zones, one route and two segments. -/
def demoTables : TableStore :=
  { TableStore.reset with
    global := demoGlobal
    signal := (TableStore.reset.signal.set 0 (demoSignal 20 0 1000 1010)).set 1 (demoSignal 21 1 1500 1510)
    plan := ((TableStore.reset.plan.set 0 demoPlan).set 1 { demoPlan with maxRefreshes := 1 }).set 2 demoPlan
    zone := (TableStore.reset.zone.set 0 ⟨1, 0, 700, 300, 0, 0, 110, 50⟩).set 1 ⟨1, 0, 1005, 40, 1, 0, 110, 0⟩
    route := TableStore.reset.route.set 0 ⟨1, 7, 30, 0, 16, 100, 10⟩
    segment := (TableStore.reset.segment.set 10 ⟨1, 0, 0, 0, 0, 0, 11⟩).set 11 ⟨1, 1, 0, 300, 20, 1, 0⟩ }

/-- A port that has learned 57,600 bit/s. -/
def demoPort : Port := { Port.reset with state := .running, rate := some .r57600, hasRun := true }

/-- The corridor ACTIVE at corridor time 1,000, no status frame taken yet. -/
def demo : State :=
  { State.reset with
    clock := 1000, west := demoPort, east := demoPort, tables := demoTables,
    validity := ⟨.valid, .valid, .valid, .valid, .valid, .valid⟩, mode := .active, alert := false
    ctxs := (State.reset.ctxs.set 0 { SignalContext.reset with state := .noStatus }).set 1
      { SignalContext.reset with state := .noStatus } }

/-- A context that has taken position 100 at time 990 under plan A. -/
def demoCtx : SignalContext :=
  { SignalContext.reset with
    freshness := .fresh 1040, taken := some (100, 990), accepting := true, state := .ready }

/-- Bus 77 of route 7 checked in at signal 0, 320 m short of the stop bar at 10 m/s. -/
def demoRecord : RequestRecord :=
  { bus := 77, routeIndex := 0, routeNumber := 7, signal := 0, direction := .a, cursor := some 10, position := 680,
    speed := 100, latenessSec := some 12, occupancy := 1, nominalSpeed := 110, stopDwell := 50, arrival := 1320,
    score := 46, ageExpiry := 1600, horizonEntry := none, projectionExpiry := none, state := .waiting,
    stopPending := false, doorsOpen := false, lapsed := false, served := false, lastOutcome := none,
    partialFlag := false, committed := 0, refreshCount := 0, lastCall := none }

/-- The same record ARMED, far from the stop bar. -/
def armedRecord : RequestRecord :=
  { demoRecord with arrival := 2000, state := .armed, horizonEntry := some 1000 }

/-- The record of the same bus projected at signal 1. -/
def projectedDemo : RequestRecord :=
  { demoRecord with
    signal := 1, cursor := some 11, arrival := 1640, score := 36, projectionExpiry := some 1740, state := .projected }

/-- The same record PROJECTED at signal 0. -/
def projectedHere : RequestRecord := { projectedDemo with signal := 0 }

/-- The call in force of the demo's holder. -/
def demoCall : CallContent :=
  { action := .extend, amount := 6, direction := .a, route := 7, bus := 77, score := 46, partialFlag := false }

/-- The corridor with signal 0 READY: bus 77 holds it with an EXTEND 6 in force, its CALL waiting behind a frame on the
line, and is projected at signal 1; the refresh timer and no other is reached. -/
def busy : State :=
  { demo with
    west := { demoPort with
      callQueue := [⟨0, 20, demoCall⟩], repeatQueue := [[1]], reply := none, tx := some ⟨[0xD3, 1], .r57600⟩
      txd := [sentBits .noParity 0xD3] }
    east := { demoPort with reply := none, tx := some ⟨[0xD3], .r57600⟩, txd := [sentBits .odd 0xD3] }
    slots := (demo.slots.set 0 (some { demoRecord with
      state := .holding, committed := 6, lastCall := some (.extend, 6), lastOutcome := some (.extend 6) })).set 1
        (some projectedDemo)
    ctxs := demo.ctxs.set 0 { demoCtx with
      holder := some 0, call := some demoCall, spent := 6, refreshTimer := some 1000 } }

/-- The corridor during a reload of ZONE from WEST, eight bytes of an entry pending. -/
def loading : State :=
  { demo with
    validity := { demo.validity with zone := .reloading }, mode := .loading, alert := true
    load := some { table := .zone, start := 2, rangeEnd := 5, expected := 4, writeIndex := 2, written := [],
                   buffer := [1, 0, 4, 0, 0, 100, 0, 0], port := .west }
    ctxs := (demo.ctxs.set 0 { SignalContext.reset with state := .suspended }).set 1
      { SignalContext.reset with state := .suspended } }

/-- The corridor during a reload of ZONE with nothing pending and every expected entry written. -/
def loaded : State :=
  { loading with
    load := some { table := .zone, start := 0, rangeEnd := 1, expected := 2, writeIndex := 2, written := [0, 1],
                   buffer := [], port := .west } }

/-- The same with a zone of no direction at the last index. -/
def badZone : State :=
  { loaded with tables := { demoTables with zone := demoTables.zone.set 63 ⟨1, 2, 0, 10, 0, 0, 110, 0⟩ } }

/-- Forty records, none of them PROJECTED, with slot 39 the lowest scored: bus 100 + i in slot i at signal 1. -/
def fullSlots : Vector (Option RequestRecord) 40 :=
  Vector.ofFn fun i =>
    some { demoRecord with bus := BitVec.ofNat 16 (100 + i.val), signal := 1, score := if i = 39 then 5 else 60 }

/-- The corridor with its request table full of records of signal 1. -/
def full : State := { demo with slots := fullSlots }

/-- The corridor with one record in slot 0. -/
def withRecord (r : RequestRecord) : State := { demo with slots := demo.slots.set 0 (some r) }

/-- The corridor with signal 0 READY and held by one record, in slot 0. -/
def heldBy (r : RequestRecord) : State :=
  { withRecord r with ctxs := demo.ctxs.set 0 { demoCtx with holder := some 0 } }

/-- The corridor during a load of SIGNAL from WEST that covers signal 0, a CANCEL of it and a CALL of signal 1 waiting. -/
def movingSignal : State :=
  { demo with
    validity := { demo.validity with signal := .reloading }
    load := some { table := .signal, start := 0, rangeEnd := 0, expected := 1, writeIndex := 0, written := [],
                   buffer := [], port := .west }
    west := { demoPort with
      callQueue := [⟨0, 20, demoCall.cancelled⟩], repeatQueue := [], reply := none, tx := some ⟨[0xD3], .r57600⟩ }
    ctxs := demo.ctxs.set 0 { demoCtx with state := .suspended } }

/-- The busy corridor with its holder SERVED. -/
def servedBusy : State :=
  { busy with slots := busy.slots.set 0 (some { demoRecord with
      state := .holding, committed := 6, lastCall := some (.extend, 6), lastOutcome := some (.extend 6)
      served := true }) }

/-- The busy corridor with a second record at signal 0, of a given score. -/
def contested (score : Nat) : State :=
  { busy with slots := busy.slots.set 2 (some { demoRecord with bus := 78, score := score }) }

/-- The busy corridor with its call refreshed twice, N times under the plan in effect. -/
def refreshed : State :=
  { busy with
    slots := busy.slots.set 0 (some { demoRecord with
      state := .holding, committed := 6, lastCall := some (.extend, 6), refreshCount := 2 })
    ctxs := busy.ctxs.set 0 { busy.ctx 0 with refreshCount := 2 } }

/-- The full corridor with a record of bus 200, in a state and of a score, in one slot. -/
def fullWith (i : SlotId) (st : RecordState) (score : Nat) : State :=
  let r := { demoRecord with bus := 200, signal := 1, state := st, score := score }
  let x := if st = .projected then { r with projectionExpiry := some 1740 } else r
  { full with slots := full.slots.set i (some x) }

/-- A character received without an error under parity NONE. -/
def goodChar (b : Byte) : LineChar := ⟨b, false, true, none⟩

/-- A report of bus 77 of route 7 in direction A at 10 m/s. -/
def demoReport (position : Half) (flags : Byte) : BusReport := ⟨77, 7, position, 0, 100, 12, 1, flags⟩

/-- That report as taken. -/
def demoTaken (position : Half) (cancel doors : Bool) : TakenReport :=
  ⟨77, 7, position, .a, 100, some 12, 1, cancel, doors⟩

/-! ## The manual's worked cases -/

/-- R7: the register fed with 0x31 to 0x39 ends at 0x29B1. -/
theorem test_check_of_123456789 :
    frameCheck [0x31, 0x32, 0x33, 0x34, 0x35, 0x36, 0x37, 0x38, 0x39] = 0x29B1 := by decide +kernel

/-- R1: 0x07 under EVEN is sent with its parity bit set, least significant bit first, and judged without it an error. -/
theorem test_parity_even :
    sentBits .even 0x07 = [false, true, true, true, false, false, false, false, false, true, true] ∧
      charError .even ⟨0x07, false, true, none⟩ = true ∧ charError .even ⟨0x07, true, true, none⟩ = false := by
  decide

/-- Section 5.1, cases a to f: travel sums of a bus short of stop bar 2,050. -/
theorem test_worked_travel_sums :
    let r := { demoRecord with nominalSpeed := 110, stopDwell := 200, stopPending := true }
    let e := demoSignal 20 0 2050 0
    travelSum demoGlobal e { r with position := 1850, speed := 110 } = 382 ∧
      travelSum demoGlobal e { r with position := 1850, speed := 20 } = 382 ∧
      travelSum demoGlobal e { r with position := 1850, speed := 30 } = 867 ∧
      travelSum demoGlobal e { r with position := 1900, speed := 90, doorsOpen := true, stopPending := false } =
        137 ∧
      travelSum demoGlobal e { r with position := 1990, speed := 400, stopPending := false } = 15 ∧
      travelSum demoGlobal e { r with position := 2080, speed := 120 } = 0 := by decide +kernel

/-- Section 5.2: the worked scores of routes 62 and 71. -/
theorem test_worked_scores :
    let a : RouteEntry := ⟨1, 62, 20, 30, 24, 120, 0xFF⟩
    let b : RouteEntry := ⟨1, 71, 10, BitVec.ofInt 8 (-20), 16, 0, 0xFF⟩
    baseScore demoGlobal a (some 95) 2 = 125 ∧ baseScore demoGlobal a none 2 = 28 ∧
      baseScore demoGlobal a (some 31) 0 = 21 ∧ baseScore demoGlobal a (some 20) 1 = 24 ∧
      baseScore demoGlobal a (some 150) 3 = 163 ∧ baseScore demoGlobal a (some (-120)) 3 = 36 ∧
      baseScore demoGlobal a (some (-121)) 3 = 0 ∧ baseScore demoGlobal b (some 0) 1 = 34 ∧
      baseScore demoGlobal b (some (-5)) 1 = 0 := by decide +kernel

/-- Section 7.5, rows 1 to 10 and 13: outcomes of a CHECK_IN holder. -/
theorem test_worked_outcomes :
    cycleOutcome demoPlan .a 340 30 = (.clear, false) ∧ cycleOutcome demoPlan .a 340 31 = (.extend 1, false) ∧
      cycleOutcome demoPlan .a 350 111 = (.extend 10, false) ∧ cycleOutcome demoPlan .a 350 121 = (.early 15, true) ∧
      cycleOutcome demoPlan .a 399 71 = (.extend 10, false) ∧ cycleOutcome demoPlan .a 400 70 = (.early 15, true) ∧
      cycleOutcome demoPlan .a 520 0 = (.early 15, true) ∧ cycleOutcome demoPlan .a 500 250 = (.early 15, false) ∧
      cycleOutcome demoPlan .a 509 250 = (.early 15, false) ∧ cycleOutcome demoPlan .a 880 15 = (.early 1, false) ∧
      cycleOutcome demoPlan .a 800 150 = (.clear, false) := by decide +kernel

/-- Section 7.5, rows 11, 12 and 14 to 16. -/
theorem test_worked_outcomes_at_the_limits :
    cycleOutcome { demoPlan with xmax := 0 } .a 340 40 = (.defer .outOfReach, false) ∧
      cycleOutcome { demoPlan with emax := 0 } .a 500 250 = (.defer .outOfReach, false) ∧
      projectedOutcome (cycleOutcome demoPlan .a 350 120) = (.defer .outOfReach, false) ∧
      projectedOutcome (cycleOutcome demoPlan .a 500 250) = (.early 15, false) ∧
      projectedOutcome (cycleOutcome demoPlan .a 340 30) = (.clear, false) := by decide +kernel

/-- Section 7.6, rows 1, 4, 6, 7 and 8: budgets of 20 s. -/
theorem test_worked_budgets :
    budgeted 20 0 0 (.extend 10, false) = (.extend 10, false) ∧
      budgeted 20 12 0 (.early 15, true) = (.early 8, true) ∧
      budgeted 20 20 12 (.extend 8, false) = (.extend 8, false) ∧
      budgeted 20 20 12 (.extend 13, false) = (.extend 12, true) ∧
      budgeted 20 20 0 (.early 6, false) = (.defer .budget, false) := by decide

/-! ## Commands on the small corridor; the expected values are worked by hand from the rules cited -/

/-- The state a command leaves. -/
def run (c : Instr) (s : State) : State :=
  match exec c s with
  | .next t => t
  | .fault _ => s
  | .refused _ => s

/-- R9: straps of 63 give no address, straps of 62 give 62. -/
theorem test_power_on_straps :
    (run (.powerOn 63) demo).ownAddress = none ∧ (run (.powerOn 62) demo).ownAddress = some 62 ∧
      (run (.powerOn 62) demo).mode = .unconfigured := by decide +kernel

/-- R20: under RESETn nothing is taken, and the release reads the straps. -/
theorem test_reset_hold_and_release :
    (run (.resetnRelease 5) (run .resetnAssert demo)).ownAddress = some 5 ∧
      (run (.resetnRelease 5) (run .resetnAssert demo)).resetHeld = false ∧
      (run .resetnAssert demo).west.state = .learning := by decide +kernel

/-- R3, R4: of two clean sync characters the higher rate is learned, and READY is written. -/
theorem test_learning_takes_the_higher_rate :
    (run (.cleanSyncLearned .west [(.r38400, goodChar 0xD3), (.r57600, goodChar 0xD3)]) State.reset).west.rate =
      some .r57600 ∧
      (run (.cleanSyncLearned .west [(.r38400, goodChar 0xD3), (.r57600, goodChar 0xD3)]) State.reset).reports =
        [⟨0, .ready .west .r57600⟩] := by decide +kernel

/-- Section 1.2, worked sequence, step 5: the eighth discard in a row leaves LEARNING, a count of 126 and a LINK. -/
theorem test_eighth_discard_relearns :
    let s := run (.frameEndingGap .east true [goodChar 0xD3])
      { demo with east := { demoPort with consecutiveBad := 7, badFrames := 125 } }
    s.east.state = .learning ∧ s.east.consecutiveBad = 0 ∧
      s.reports = [⟨1000, .link .east .learning (some .r57600) 126⟩] := by decide +kernel

/-- R10, R12, R17: a request for the part is consumed and answered from its arrival port. -/
theorem test_frame_with_a_request_is_answered :
    let s := run (.frameEndingGap .west true ((buildFrame 1 9 0x67 [2]).map goodChar)) loading
    s.west.tx = some ⟨buildFrame 9 1 0x70 [0x67, 2, 0], .r57600⟩ ∧ s.east.tx = none ∧
      s.load.map (fun l => l.buffer) = some [] := by decide +kernel

/-- R10: a request for another node is repeated out of the other port as it was received. -/
theorem test_frame_for_another_node_is_repeated :
    (run (.frameEndingGap .west true ((buildFrame 2 9 0x67 [2]).map goodChar)) demo).east.tx =
      some ⟨buildFrame 2 9 0x67 [2], .r57600⟩ := by decide +kernel

/-- R82 to R86, R46: at 700 m, D = 300 and T = 300, and with the dwell of 50 the arrival is 1,350; the projection at
signal 1 arrives 320 later. -/
theorem test_check_in_and_projection :
    let s := run (.busReport .west (demoReport 700 0)) demo
    (s.record 0).map (fun x => (x.arrival, x.score, x.state)) = some (1350, 46, .holding) ∧
      (s.record 1).map (fun x => (x.arrival, x.score, x.state, x.signal)) = some (1670, 36, .projected, 1) ∧
      (s.ctx 0).holder = some 0 := by decide +kernel

/-- R31, R78: a report in the CHECK_OUT zone closes the record at its signal. -/
theorem test_check_out_closes :
    let s := run (.busReport .west (demoReport 1005 0)) busy
    s.record 0 = none ∧ (s.ctx 0).call = none ∧ (s.ctx 0).spent = 6 ∧ (s.record 1).isSome = true := by
  decide +kernel

/-- R107, R135: position 99 after 100 is a cycle boundary: S falls to 0, the arrival at 99 + 320 needs 4.9 s, and the
EXTEND 5 generated anew is charged. -/
theorem test_status_at_a_cycle_boundary :
    let s := run (.signalStatus .west 20 ⟨0, 99, 1, 1⟩) busy
    (s.ctx 0).taken = some (99, 1000) ∧ (s.ctx 0).freshness = .fresh 1050 ∧ (s.ctx 0).spent = 5 ∧
      (s.record 0).map (fun x => x.served) = some true := by decide +kernel

/-- R152: a call refreshed N times lapses at its next refresh expiry. -/
theorem test_refresh_lapses_after_n :
    let s := run (.refreshExpiry 0) refreshed
    (s.record 0).map (fun x => (x.lapsed, x.refreshCount)) = some (true, 2) ∧ (s.ctx 0).holder = none ∧
      (s.ctx 0).call = none ∧ s.west.callQueue = [⟨0, 20, demoCall.cancelled⟩] := by decide +kernel

/-- R149, R151: below N it is sent again, and the timer is set by (2 + 2) × 2 × 5 = 40. -/
theorem test_refresh_copies :
    let s := run (.refreshExpiry 0) busy
    (s.ctx 0).refreshCount = 1 ∧ (s.ctx 0).refreshTimer = some 1040 ∧ s.west.callQueue = [⟨0, 20, demoCall⟩] := by
  decide +kernel

/-- R103: the freshness expiry leaves NO_STATUS, withdraws the call and reports the change. -/
theorem test_freshness_expires :
    let s := run (.freshnessExpiry 0) { busy with clock := 1040 }
    (s.ctx 0).state = .noStatus ∧ (s.ctx 0).call = none ∧ s.reports = [⟨1040, .signalState 0 .ready .noStatus⟩] := by
  decide +kernel

/-- R180: the record that would be the 32nd is replaced by a marker, and the next one only counted. -/
theorem test_report_overrun :
    let l := List.replicate 31 (⟨7, .ready .west .r19200⟩ : Report)
    (storeReport 9 (.ready .east .r19200) l).getLast? = some ⟨9, .overrun 1⟩ ∧
      (storeReport 10 (.ready .east .r19200) (storeReport 9 (.ready .east .r19200) l)).getLast? =
        some ⟨9, .overrun 2⟩ := by decide +kernel

/-- R171, R187: a PLAN entry reads as its 22 bytes, most significant byte first. -/
theorem test_table_read_plan :
    demoTables.entryBytes .plan 0 =
      [1, 0, 3, 132, 0, 0, 1, 144, 2, 88, 0, 200, 30, 10, 15, 20, 2, 40, 3, 2, 1, 2] := by decide +kernel

/-- R164, R165, R168: the last four bytes complete an entry, and a CLOSE from the other port is refused with NOT_OPEN. -/
theorem test_table_write_and_close :
    let s := run (.tableWrite .west 9 [0, 110, 0, 0]) loading
    s.load.map (fun l => (l.writeIndex, l.written, l.buffer)) = some (3, [2], []) ∧
      s.tables.entryBytes .zone 2 = [1, 0, 4, 0, 0, 100, 0, 0, 0, 110, 0, 0] ∧
      (run (.tableClose .east 9 []) s).east.tx = some ⟨buildFrame 9 1 0x71 [0x68, 5], .r57600⟩ := by
  decide +kernel

/-- R179: CORRIDOR RESET abandons the load, empties the records and keeps the tables. -/
theorem test_corridor_reset :
    let s := run (.corridorReset .west 9) loading
    s.load = none ∧ s.validity.zone = .invalid ∧ s.mode = .unconfigured ∧ s.tables.global = demoGlobal ∧
      (s.ctx 0).state = .unconfigured := by decide +kernel

/-! ## States that meet the statements' hypotheses: the invariants -/

theorem busy_derived : DerivedOk busy := by unfold DerivedOk; decide +kernel
theorem busy_reports : ReportsOk busy := ⟨by decide, fun h => absurd h (by decide)⟩
theorem busy_queues : QueuesOk busy := by unfold QueuesOk PortQueuesOk; decide +kernel
theorem busy_unique : UniqueRecords busy := by unfold UniqueRecords; decide +kernel
theorem busy_record_timers : RecordTimersOk busy := by unfold RecordTimersOk; decide +kernel
theorem busy_holders : HoldersOk busy := by unfold HoldersOk; decide +kernel
theorem busy_holder_states : HolderStatesOk busy := by unfold HolderStatesOk; decide +kernel
theorem busy_taken : TakenOk busy := by unfold TakenOk; decide +kernel
theorem busy_budget : BudgetOk busy := by unfold BudgetOk; decide +kernel
theorem busy_calls : CallsOk busy := by unfold CallsOk; decide +kernel
theorem busy_queued_calls : QueuedCallsOk busy := by
  intro p
  cases p <;> decide +kernel
theorem busy_refresh_counts : RefreshCountsOk busy := by unfold RefreshCountsOk; decide +kernel
theorem busy_lockout : LockoutOk busy := by unfold LockoutOk; decide +kernel
theorem busy_record_tables : RecordTablesOk busy := by unfold RecordTablesOk; decide +kernel
theorem busy_scores : ScoresOk busy := by unfold ScoresOk; decide +kernel
theorem busy_arrivals : ArrivalsOk busy := by
  have h : ∀ x ∈ busy.records,
      (-2550 ≤ timeDiff x.2.arrival busy.clock ∧ timeDiff x.2.arrival busy.clock ≤ 36000 ∧
        (x.2.state ≠ .projected →
          0 ≤ timeDiff x.2.ageExpiry busy.clock ∧ timeDiff x.2.ageExpiry busy.clock ≤ 2550 ∧
            timeDiff x.2.ageExpiry x.2.arrival ≤ 2550)) ∧
        (x.2.projectionExpiry = none ∨ x.2.projectionExpiry = some 1740 ∧ x.2.arrival = 1640) := by
    decide +kernel
  intro x hx
  obtain ⟨⟨h1, h2, h3⟩, h4 | ⟨h4, h5⟩⟩ := h x hx
  · exact ⟨h1, h2, h3, by simp [h4]⟩
  · refine ⟨h1, h2, h3, ?_⟩
    rw [h4, h5]
    rintro t ⟨⟩
    decide
theorem busy_load : LoadOk busy := ⟨by decide, fun id => by cases id <;> decide⟩
theorem busy_tables_pass : ValidTablesPass busy := by
  have h : ∀ r ∈ checkRows busy.ownAddress busy.tables, r.failure = none := by decide +kernel
  exact fun r hr _ => h r hr
theorem busy_plans : PlansInForceOk busy := by
  intro _ k p
  revert k
  cases p <;> decide +kernel
theorem busy_rates : PortRatesOk busy := by intro p; cases p <;> decide
theorem busy_transmitters : TransmittersOk busy := by intro p; cases p <;> decide
theorem busy_line : LineOk busy := by
  have h : ∀ q ∈ [busy.west, busy.east], ∀ f, q.tx = some f →
      q.txd.length = 1 ∧ f.bytes[0]? = some 0xD3 ∧
        (q.txd = [sentBits .noParity 0xD3] ∨ q.txd = [sentBits .odd 0xD3]) := by
    intro q hq f hf
    have : q = busy.west ∨ q = busy.east := by simpa using hq
    rcases this with rfl | rfl <;> cases hf <;> decide
  intro p f hf
  have hp : busy.port p ∈ [busy.west, busy.east] := by cases p <;> simp [State.port]
  obtain ⟨hl, hb, ht⟩ := h _ hp f hf
  refine ⟨?_, fun i bits hi => ?_⟩
  · have : 0 < f.bytes.length := (List.getElem?_eq_some_iff.1 hb).1
    omega
  · obtain rfl : i = 0 := by
      have : i < (busy.port p).txd.length := (List.getElem?_eq_some_iff.1 hi).1
      omega
    rcases ht with ht | ht <;> rw [ht] at hi <;> cases hi <;> exact ⟨_, _, hb, rfl⟩
theorem loading_load : LoadOk loading := ⟨by decide +kernel, fun id => by cases id <;> decide⟩
theorem demo_derived : DerivedOk demo := by unfold DerivedOk; decide +kernel
theorem demo_holders : HoldersOk demo := by unfold HoldersOk; decide +kernel
theorem full_holders : HoldersOk full := by unfold HoldersOk; decide +kernel
theorem loading_derived : DerivedOk loading := by unfold DerivedOk; decide +kernel
theorem loading_holders : HoldersOk loading := by unfold HoldersOk; decide +kernel
theorem loading_holder_states : HolderStatesOk loading := by unfold HolderStatesOk; decide +kernel
theorem loading_calls : CallsOk loading := by unfold CallsOk; decide +kernel

/-! ## States that meet the statements' hypotheses: requests and events -/

/-- A property of every listed record is one of every record. -/
theorem forall_record {s : State} {P : SlotId → RequestRecord → Prop} (h : ∀ x ∈ s.records, P x.1 x.2) :
    ∀ j y, s.record j = some y → P j y :=
  fun j y hy => h (j, y) ((State.mem_records s (j, y)).2 hy)

theorem carries_goodChar (l : List Byte) : Carries .noParity (l.map goodChar) l := by
  constructor
  · simp [goodChar, Function.comp_def]
  · intro c hc
    obtain ⟨b, -, rfl⟩ := List.mem_map.1 hc
    rfl

theorem demo_answers : Answers demo .west := by unfold Answers HandsOn; decide
theorem full_answers : Answers full .west := by unfold Answers HandsOn; decide
theorem loading_answers : Answers loading .west := by unfold Answers HandsOn; decide
theorem loaded_answers : Answers loaded .west := by unfold Answers HandsOn; decide
theorem busy_answers : Answers busy .west := by unfold Answers HandsOn; decide
theorem demo_between : ∀ idleBefore, BetweenFrames idleBefore (demo.port .west) := by unfold BetweenFrames; decide

/-- The wait for an idle line that an idle period before the frame ends (R4). -/
theorem awaiting_between :
    BetweenFrames true { demoPort with awaitingIdle := true } ∧
      ¬ BetweenFrames false { demoPort with awaitingIdle := true } := by unfold BetweenFrames; decide

theorem demo_nothing_due : ∀ c, ¬ Due demo c := by
  have hc : ∀ k, (demo.ctx k).freshness = .never ∧ (demo.ctx k).refreshTimer = none := by decide +kernel
  have hr : ∀ i, demo.record i = none := by decide +kernel
  intro c
  cases c <;> simp [Due, hc, hr]

theorem witness_IdleStep :
    (demo.pending = [] ∧ demo.resetHeld = false ∧ ∀ c, ¬ Due demo c) ∧
      (busy.pending = [] ∧ busy.resetHeld = false ∧ Due busy (.refreshExpiry 0)) ∧
      (assertReset demo).pending = [] ∧ (assertReset demo).resetHeld = true :=
  ⟨⟨rfl, rfl, demo_nothing_due⟩, ⟨rfl, rfl, 1000, by decide +kernel, by decide⟩, rfl, rfl⟩

theorem witness_ResetCommands :
    (assertReset demo).resetHeld = true ∧ (∀ v, Instr.transmitGapEnd .west ≠ .powerOn v) ∧
      Instr.transmitGapEnd .west ≠ .resetnAssert ∧ ∀ v, Instr.transmitGapEnd .west ≠ .resetnRelease v := by
  refine ⟨rfl, ?_, ?_, ?_⟩ <;> simp

theorem witness_LearnsHighestCleanRate :
    (State.reset.resetHeld = false ∧ (State.reset.port .west).state = .learning ∧
      (∃ c, (Rate.r115200, c) ∈ [(Rate.r19200, goodChar 0xD3), (.r115200, goodChar 0xD3)] ∧
        cleanSync State.reset.parity c = true) ∧
      ∀ x ∈ [(Rate.r19200, goodChar 0xD3), (.r115200, goodChar 0xD3)],
        cleanSync State.reset.parity x.2 = true → rateRank x.1 ≤ rateRank .r115200) ∧
      (demo.port .west).state = .running ∧ (∀ x ∈ [(Rate.r19200, goodChar 0xD2)], cleanSync .noParity x.2 = false) ∧
      arrivalPort (.queryStatus .west 9 []) = some .west :=
  ⟨⟨rfl, rfl, ⟨goodChar 0xD3, by decide, by decide⟩, by decide⟩, rfl, by decide, rfl⟩

theorem witness_BadFramesAndRelearning :
    demo.resetHeld = false ∧ BetweenFrames false { demoPort with consecutiveBad := 7 } ∧
      BetweenFrames false { demoPort with consecutiveBad := 6, badFrames := 65535 } ∧
      BetweenFrames true { demoPort with consecutiveBad := 7, awaitingIdle := true } ∧
      acceptedFrame (RxBuffer.empty.pushAll .noParity [goodChar 0xD3]) = none ∧
      ({ demoPort with consecutiveBad := 8 } : Port).state = .running ∧
      ({ demoPort with awaitingIdle := true } : Port).awaitingIdle = true := by
  unfold BetweenFrames
  decide +kernel

theorem witness_RequestFrameActsAsCommand :
    demo.resetHeld = false ∧ BetweenFrames false (demo.port .west) ∧
      BetweenFrames true { demoPort with awaitingIdle := true } ∧ demo.ownAddress = some 1 ∧
      requestOf (.tableWrite .west 9 (List.replicate 56 0)) = some ⟨.west, 9, 0x66, List.replicate 56 0⟩ ∧
      requestOf (.queryStatus .west 9 []) = some ⟨.west, 9, 0x60, []⟩ ∧
      Carries demo.parity ((buildFrame 1 9 0x66 (List.replicate 56 0)).map goodChar)
        (buildFrame 1 9 0x66 (List.replicate 56 0)) :=
  ⟨rfl, demo_between _, awaiting_between.1, rfl, rfl, rfl, carries_goodChar _⟩

theorem witness_ReadFramesActAsCommands :
    BetweenFrames false (demo.port .west) ∧ demo.ownAddress = some 1 ∧
      Carries demo.parity ((buildFrame 63 9 0x21 (List.replicate 13 0)).map goodChar)
        (buildFrame 63 9 0x21 (List.replicate 13 0)) ∧
      Carries demo.parity ((buildFrame 63 20 0x31 (List.replicate 5 0)).map goodChar)
        (buildFrame 63 20 0x31 (List.replicate 5 0)) ∧
      Carries demo.parity ((buildFrame 1 9 0x21 (List.replicate 56 0)).map goodChar)
        (buildFrame 1 9 0x21 (List.replicate 56 0)) :=
  ⟨demo_between _, rfl, carries_goodChar _, carries_goodChar _, carries_goodChar _⟩

theorem witness_OtherFramesAreRepeated :
    BetweenFrames false (demo.port .west) ∧ ({ demo with ownAddress := none } : State).ownAddress = none ∧
      ((0x5F : Byte) ≠ 0x21 ∧ (0x5F : Byte) ≠ 0x31 ∧ ¬ (0x60 ≤ (0x5F : Byte).toNat ∧ (0x5F : Byte).toNat ≤ 0x6F)) ∧
      ¬ (0x60 ≤ (0x70 : Byte).toNat ∧ (0x70 : Byte).toNat ≤ 0x6F) ∧
      demo.ownAddress.map (fun a => a.zeroExtend 8) ≠ some (2 : Byte) ∧
      (List.replicate 12 (0 : Byte)).length ≠ 13 ∧ (List.replicate 6 (0 : Byte)).length ≠ 5 ∧
      Carries demo.parity ((buildFrame 2 9 0x60 []).map goodChar) (buildFrame 2 9 0x60 []) :=
  ⟨demo_between _, rfl, by decide, by decide, by decide, by decide, by decide, carries_goodChar _⟩

theorem witness_ArbiterOrder :
    (busy.west.state = .running ∧ busy.west.rate = some .r57600 ∧
      ({ busy.west with tx := none } : Port).tx = none ∧ busy.west.callQueue = [⟨0, 20, demoCall⟩]) ∧
      (demoPort.callQueue = [] ∧ demoPort.repeatQueue = [] ∧ demoPort.reply = none ∧ demoPort.tx = none) ∧
      State.reset.west.state = .learning ∧ busy.west.tx = some ⟨[0xD3, 1], .r57600⟩ ∧ busy.resetHeld = false ∧
      Instr.transmitGapEnd .east ≠ .transmitGapEnd .west ∧
      (setParity .even busy).parity = .even := by
  refine ⟨by decide, by decide, by decide, by decide, by decide, by decide, setParity_parity _ _⟩

theorem witness_RequestsAreAnsweredOnce :
    requestOf (.tableSeek .west 9 []) = some ⟨.west, 9, 0x67, []⟩ ∧ demo.resetHeld = false ∧
      Answers demo .west ∧
      (({ demo with west := { demoPort with reply := some ⟨9, true, []⟩ } } : State).port .west).reply.isSome = true :=
  ⟨rfl, rfl, demo_answers, rfl⟩

theorem witness_RequestForms :
    Answers demo .west ∧ requestOf (.querySignal .west 9 []) = some ⟨.west, 9, 0x61, []⟩ ∧
      requiredLength 0x61 = some 1 ∧ requiredLength 0x60 = some 0 ∧
      ((0 : Byte).toNat = 0 ∧ 5 < (6 : Byte).toNat ∧ 5 < (255 : Byte).toNat) ∧
      1 ≤ (1 : Byte).toNat ∧ (5 : Byte).toNat ≤ 5 ∧ (15 : Byte).toNat < 16 :=
  ⟨demo_answers, rfl, by decide, by decide, by decide, by decide, by decide, by decide⟩

theorem witness_StatusAndSignalQueries :
    Answers busy .west ∧ busy.load = none ∧ loading.load.isSome = true ∧
      (15 : Byte).toNat = (15 : SignalId).val ∧ 15 < (16 : Byte).toNat ∧
      (busy.ctx 0).holder = some 0 ∧ (busy.record 0).isSome = true ∧ (busy.ctx 1).holder = none ∧
      (busy.ctx 0).call = some demoCall ∧ cycleEstimate 0 busy = some 110 ∧ cycleEstimate 1 busy = none := by
  refine ⟨busy_answers, ?_⟩
  decide +kernel

theorem witness_RequestQueries :
    Answers busy .west ∧ (15 : Byte).toNat < 16 ∧ (39 : Byte).toNat < 40 ∧
      (15 < (16 : Byte).toNat ∧ (254 : Byte) ≠ 255) ∧ 39 < (40 : Byte).toNat ∧
      -2550 ≤ timeDiff demoRecord.arrival busy.clock ∧ timeDiff demoRecord.arrival busy.clock ≤ 36000 ∧
      demoRecord.cursor = some 10 ∧ projectedDemo.projectionExpiry = some 1740 :=
  ⟨busy_answers, by decide, by decide, by decide, by decide, by decide, by decide, rfl, rfl⟩

theorem witness_ReadsOldestReports :
    Answers demo .west ∧ 1 ≤ (1 : Byte).toNat ∧ (3 : Byte).toNat ≤ 3 ∧ (0 : Byte).toNat = 0 ∧
      3 < (4 : Byte).toNat ∧ demo.reports.length ≤ 30 ∧
      (List.replicate 30 (⟨7, .ready .west .r19200⟩ : Report)).length ≤ 30 ∧
      (List.replicate 31 (⟨7, .ready .west .r19200⟩ : Report)).length = 31 :=
  ⟨demo_answers, by decide⟩

theorem witness_FlagSubcommands :
    Answers busy .west ∧ (15 : Byte).toNat = (15 : SignalId).val ∧ 15 < (16 : Byte).toNat ∧ busy.observe = false ∧
      (busy.ctx 0).call = some demoCall ∧ (busy.signalEntry 0).configuredPort = some .west ∧
      ({ busy with observe := true } : State).observe = true :=
  ⟨busy_answers, by decide, by decide, rfl, by decide +kernel, by decide +kernel, rfl⟩

theorem witness_CorridorResetEffect :
    DerivedOk busy ∧ Answers busy .west ∧ busy.load = none ∧ DerivedOk loading ∧ Answers loading .west ∧
      loading.load.isSome = true :=
  ⟨busy_derived, busy_answers, rfl, loading_derived, loading_answers, rfl⟩

theorem witness_TableOpenSuspendsScope :
    (Answers loading .west ∧ loading.load.isSome = true) ∧ (Answers busy .west ∧ busy.load = none) ∧
      5 < (6 : Byte).toNat ∧
      (tableOf 1 = some .signal ∧ TableId.signal.entries ≤ (16 : Byte).toNat ∧
        TableId.signal.entries < (15 : Byte).toNat + (2 : Byte).toNat) ∧
      (15 : Byte).toNat < TableId.signal.entries ∧ (15 : Byte).toNat + (1 : Byte).toNat ≤ TableId.signal.entries ∧
      (busy.record 0).isSome = true ∧ busy.record 2 = none ∧
      (openContext .signal 0 1 .west).covers 0 = true ∧ (openContext .signal 0 1 .west).covers 1 = false := by
  refine ⟨⟨loading_answers, rfl⟩, ⟨busy_answers, rfl⟩, ?_⟩
  decide +kernel

theorem witness_TableWriteStoresEntries :
    (Answers demo .west ∧ ∀ l, demo.load = some l → l.port ≠ .west) ∧
      Answers loading .west ∧ LoadOk loading ∧ ∃ l, loading.load = some l ∧ l.port = .west ∧
        (l.rangeEnd + 1 - l.writeIndex) * l.table.entrySize < l.buffer.length + 41 ∧
        l.buffer.length + 40 ≤ (l.rangeEnd + 1 - l.writeIndex) * l.table.entrySize ∧
        (l.buffer.length + 40) / l.table.entrySize = 4 ∧ (l.buffer.length + 3) / l.table.entrySize = 0 := by
  refine ⟨⟨demo_answers, fun l h => absurd h (by simp [demo, State.reset])⟩, loading_answers, loading_load,
    _, rfl, ?_⟩
  decide

/-- A signal moved to EAST during its load: the hypotheses of R16's clause, and the WEST queue emptied. -/
theorem witness_TableWriteStoresEntries_moved :
    (Answers movingSignal .west ∧ DerivedOk { movingSignal with mode := .active } ∧ HolderStatesOk movingSignal ∧
      QueuesOk movingSignal ∧ LoadOk movingSignal) ∧
      (run (.tableWrite .west 9 ([1, 20, 1] ++ halfBytes 1000 ++ halfBytes 1010 ++ [3, 10, 10]))
        movingSignal).west.callQueue = [] := by
  refine ⟨⟨by unfold Answers HandsOn; decide, by unfold DerivedOk; decide +kernel,
    by unfold HolderStatesOk; decide +kernel, by unfold QueuesOk PortQueuesOk; decide +kernel, ?_⟩, by decide +kernel⟩
  exact ⟨by decide +kernel, fun id => by cases id <;> decide⟩

theorem witness_TableSeekAndRead :
    (Answers demo .west ∧ ∀ l, demo.load = some l → l.port ≠ .west) ∧
      (Answers loading .west ∧ ∃ l, loading.load = some l ∧ l.port = .west) ∧
      tableOf 6 = none ∧ (tableOf 5 = some .segment ∧ TableId.segment.entries ≤ (128 : Byte).toNat) ∧
      (127 : Byte).toNat < TableId.segment.entries ∧ (0 : Byte).toNat = 0 ∧ 128 < (129 : Byte).toNat ∧
      (128 : Byte).toNat ≤ 128 :=
  ⟨⟨demo_answers, fun l h => absurd h (by simp [demo, State.reset])⟩, ⟨loading_answers, _, rfl, rfl⟩,
    by decide, by decide, by decide, by decide, by decide, by decide⟩

theorem witness_TableCloseValidates :
    (Answers demo .west ∧ ∀ l, demo.load = some l → l.port ≠ .west) ∧
      (Answers loading .west ∧ ∃ l, loading.load = some l ∧ l.port = .west ∧ l.buffer ≠ []) ∧
      (∃ l, ({ loaded with load := loaded.load.map fun l => { l with written := [0] } } : State).load = some l ∧
        l.buffer = [] ∧ 0 < l.expected ∧ l.written.length ≠ l.expected) ∧
      (∃ l, loaded.load = some l ∧ l.port = .west ∧ l.buffer = [] ∧ l.written.length = l.expected ∧
        firstFailedCheck l.table loaded = none) ∧
      Answers loaded .west ∧
      firstFailedCheck .zone badZone = some (.zone, 63) := by
  refine ⟨⟨demo_answers, fun l h => absurd h (by simp [demo, State.reset])⟩,
    ⟨loading_answers, _, rfl, rfl, by decide⟩, ⟨_, rfl, by decide⟩, ⟨_, rfl, rfl, rfl, rfl, by decide +kernel⟩,
    loaded_answers, by decide +kernel⟩

theorem witness_TableAbandonLeavesInvalid :
    (Answers demo .west ∧ demo.load = none) ∧ Answers loading .west ∧ DerivedOk loading ∧ HoldersOk loading ∧
      HolderStatesOk loading ∧ CallsOk loading ∧ loading.load.isSome = true :=
  ⟨⟨demo_answers, rfl⟩, loading_answers, loading_derived, loading_holders, loading_holder_states, loading_calls, rfl⟩

theorem demo_handsOn : HandsOn demo .west := demo_answers.1

theorem witness_IgnoredFrames :
    HandsOn loading .west ∧ loading.mode ≠ .active ∧ (0 : Half) = 0 ∧ 1 < (2 : Byte).toNat ∧
      9999 < (10000 : Half).toNat ∧
      (∀ i : Fin 32, flagSet demo.tables.route[i].inUse = true →
        demo.tables.route[i].number ≠ 8 ∧ demo.tables.route[i].number ≠ 0) ∧
      (∀ k : SignalId, flagSet (demo.signalEntry k).inUse = true → (demo.signalEntry k).cabinet = 20 →
        portOf (demo.signalEntry k).port = some .west →
        1 < (0 : Byte).toNat ∨ ∀ q, planOf 0 = some q → flagSet (demo.tables.planEntry k q).inUse = true ∧
          (demo.tables.planEntry k q).cycle.toNat ≤ (900 : Half).toNat) := by
  refine ⟨loading_answers.1, by decide, rfl, by decide, by decide, by decide +kernel, ?_⟩
  intro k h1 h2 _
  refine .inr ?_
  rintro q hq
  obtain rfl : q = .a := by simpa [planOf, eq_comm] using hq
  revert h1 h2
  revert k
  decide +kernel

theorem witness_CancelReportClosesAll :
    HandsOn busy .west ∧ DerivedOk busy ∧ busy.mode = .active ∧
      taken (demoReport 700 1) = some (demoTaken 700 true false) ∧
      resolveRoute busy.tables 7 = some 0 ∧ (demoTaken 700 true false).cancel = true ∧
      (busy.record 0).map (fun x => x.bus) = some 77 ∧
      ((contested 46).record 2).map (fun x => x.bus) = some 78 ∧
      ∀ i x, demo.record i = some x → x.bus ≠ (demoReport 700 1).bus := by
  have hr : ∀ i, demo.record i = none := by decide +kernel
  refine ⟨busy_answers.1, busy_derived, rfl, by decide, by decide +kernel, rfl, by decide +kernel, by decide +kernel, ?_⟩
  intro i x h
  simp [hr] at h

/-- The conditions of R44 from facts that can be evaluated. -/
theorem projectionOpen_of {s : State} {x : RequestRecord} {next : Fin 128} {k : SignalId} {d : Direction} (c : Fin 128)
    (h : x.cursor = some c ∧ s.tables.segment[c].ends = 0 ∧ s.tables.segment[c].next.toNat = next.val ∧
      s.tables.segment[next].signal.toNat = k.val ∧ directionOf s.tables.segment[next].direction = some d ∧
      (s.signalEntry k).inUse ≠ 0 ∧ (s.signalEntry k).projects d = true ∧ (s.ctx k).state ≠ .suspended ∧
      (s.ctx k).state ≠ .unconfigured)
    (hr : ∀ y ∈ s.records, y.2.bus = x.bus → y.2.signal ≠ k) : ProjectionOpen s x next k d :=
  ⟨⟨c, h.1, h.2.1, h.2.2.1⟩, h.2.2.2.1, h.2.2.2.2.1, h.2.2.2.2.2.1, h.2.2.2.2.2.2.1, h.2.2.2.2.2.2.2.1,
    h.2.2.2.2.2.2.2.2, forall_record hr⟩

/-- Bus 77 at 700 m becomes holder of signal 0 and is projected at signal 1; bus 90 there finds the signal held, and its record
in slot 2 stays without an outcome. -/
theorem witness_CheckInCreatesRecord :
    (HandsOn demo .west ∧ HoldersOk demo ∧ demo.mode = .active) ∧
      (taken (demoReport 700 2) = some (demoTaken 700 false true) ∧
        taken (demoReport 999 0) = some (demoTaken 999 false false) ∧ resolveRoute demo.tables 7 = some 0 ∧
        zoneAt demo.tables .a 700 = some ⟨1, 0, 700, 300, 0, 0, 110, 50⟩ ∧
        zoneAt demo.tables .a 999 = some ⟨1, 0, 700, 300, 0, 0, 110, 50⟩ ∧
        ((demo.ctx 0).state ≠ .unconfigured ∧ (demo.ctx 0).state ≠ .suspended) ∧
        demo.findRecord 77 0 = none ∧ demo.freeSlot = some 0 ∧ demo.horizonUnits 0 = 400) ∧
      (LowestFree demo (some 0) 1 ∧ ¬ LowestFree (fullWith 39 .waiting 46) (some 0) 1) ∧
      (∃ x, (run (.busReport .west (demoReport 700 0)) demo).record 0 = some x ∧
        ProjectionOpen demo x 11 1 .a ∧ precedingSegment demo.tables 0 11 = x.cursor) ∧
      busy.findRecord 90 0 = none ∧ busy.freeSlot = some 2 ∧
      ((run (.busReport .west { demoReport 700 0 with bus := 90 }) busy).ctx 0).holder = some 0 := by
  refine ⟨⟨demo_handsOn, demo_holders, rfl⟩, by decide +kernel, ?_, ⟨_, rfl, ?_, by decide +kernel⟩, by decide +kernel⟩
  · unfold LowestFree
    decide +kernel
  · exact projectionOpen_of 10 (by decide +kernel) (by decide +kernel)

theorem witness_CheckInConvertsOrDisplaces_convert :
    HandsOn (withRecord projectedHere) .west ∧ HoldersOk (withRecord projectedHere) ∧
      UniqueRecords (withRecord projectedHere) ∧ (withRecord projectedHere).record 0 = some projectedHere ∧
      HandsOn (withRecord demoRecord) .west ∧ HoldersOk (withRecord demoRecord) ∧
      UniqueRecords (withRecord demoRecord) ∧ (withRecord demoRecord).record 0 = some demoRecord ∧
      RecordTimersOk (withRecord demoRecord) ∧ ((withRecord projectedHere).ctx 0).holder ≠ some 0 ∧
      ((heldBy projectedHere).ctx 0).holder = some 0 ∧ HoldersOk (heldBy projectedHere) ∧
      LowestFree (withRecord projectedHere) none 1 := by
  refine ⟨?_, ?_, ?_, by decide +kernel, ?_, ?_, ?_, by decide +kernel, ?_, by decide +kernel, by decide +kernel, ?_,
    ?_⟩ <;>
    first
      | (unfold HandsOn; decide +kernel)
      | (unfold HoldersOk; decide +kernel)
      | (unfold UniqueRecords; decide +kernel)
      | (unfold RecordTimersOk; decide +kernel)
      | (unfold LowestFree; decide +kernel)

/-- The full table of the displacement: slot 39 scores 5, below the newcomer's 46; the table's other record that the
newcomer meets is PROJECTED in slot 3; and slot 39 scores the newcomer's own 46. -/
theorem witness_CheckInConvertsOrDisplaces_full :
    HandsOn full .west ∧ HoldersOk full ∧ UniqueRecords full ∧
      baseScore full.tables.global full.tables.route[0] (some 12) 1 = 46 ∧
      (∀ j, (full.record j).isSome = true) ∧
      (∀ j y, full.record j = some y → y.bus = 77 → y.signal ≠ 0) ∧
      (∀ j y, full.record j = some y → y.state ≠ .projected) ∧
      (full.ctx 1).holder ≠ some 39 ∧
      (∀ j y, full.record j = some y → (full.ctx y.signal).holder ≠ some j →
        5 < y.score ∨ (5 = y.score ∧ j ≤ 39)) := by
  refine ⟨full_answers.1, full_holders, ?_, by decide +kernel, by decide +kernel,
    forall_record (by decide +kernel), forall_record (by decide +kernel), by decide +kernel,
    forall_record (by decide +kernel)⟩
  unfold UniqueRecords
  decide +kernel

theorem witness_CheckInConvertsOrDisplaces_projected :
    HandsOn (fullWith 3 .projected 50) .west ∧ HoldersOk (fullWith 3 .projected 50) ∧
      (∀ j, ((fullWith 3 .projected 50).record j).isSome = true) ∧
      (∀ j y, (fullWith 3 .projected 50).record j = some y → y.state = .projected →
        50 < y.score ∨ (50 = y.score ∧ j ≤ 3)) ∧
      (∀ j y, (fullWith 39 .waiting 46).record j = some y → y.state ≠ .projected) ∧
      (∀ j y, (fullWith 39 .waiting 46).record j = some y →
        ((fullWith 39 .waiting 46).ctx y.signal).holder ≠ some j → 46 < y.score ∨ (46 = y.score ∧ j ≤ 39)) := by
  refine ⟨by unfold HandsOn; decide, by unfold HoldersOk; decide +kernel, by decide +kernel,
    forall_record (by decide +kernel), forall_record (by decide +kernel), forall_record (by decide +kernel)⟩

/-- The record of bus 77 has segment 10 as its cursor, whose next is 11, at signal 1; without a cursor, at the END segment 11
or with the bus already at signal 1 no projection is open. -/
theorem witness_ProjectionFollowsChain :
    (withRecord demoRecord).record 0 = some demoRecord ∧ ProjectionOpen (withRecord demoRecord) demoRecord 11 1 .a ∧
      LowestFree (withRecord demoRecord) none 1 ∧
      (∀ next k d, ¬ ProjectionOpen (withRecord { demoRecord with cursor := none })
        { demoRecord with cursor := none } next k d) ∧
      (∀ next k d, ¬ ProjectionOpen busy projectedDemo next k d) ∧
      (∀ next k d, ¬ ProjectionOpen busy demoRecord next k d) ∧
      ∀ j, ¬ LowestFree (fullWith 39 .waiting 46) none j := by
  refine ⟨by decide +kernel, ?_, by unfold LowestFree; decide +kernel, ?_, ?_, ?_, ?_⟩
  · exact projectionOpen_of 10 (by decide +kernel) (by decide +kernel)
  · rintro next k d ⟨⟨c, hc, -⟩, -⟩
    exact absurd hc (by simp)
  · rintro next k d ⟨⟨c, hc, he, -⟩, -⟩
    obtain rfl : 11 = c := by simpa [projectedDemo] using hc
    exact absurd he (by decide +kernel)
  · rintro next k d ⟨⟨c, hc, -, hn⟩, hk, -, -, -, -, -, hu⟩
    obtain rfl : 10 = c := by simpa [demoRecord] using hc
    obtain rfl : 11 = next := Fin.ext (Eq.trans (by decide +kernel) hn)
    obtain rfl : 1 = k := Fin.ext (Eq.trans (by decide +kernel) hk)
    exact hu 1 projectedDemo (by decide +kernel) rfl rfl
  · unfold LowestFree
    decide +kernel

/-- Positions 1,005 and 1,044 lie in the CHECK_OUT zone of signal 0; 1,000, 1,045 and 599 lie in no zone, at distances 0, −45
and 401 from it. The holder of `servedBusy` is SERVED, and L is 2. A report at 599 refreshes the record at signal 0, which
becomes ARMED, and re-estimates the one at signal 1 behind it. -/
theorem witness_ReportsCloseAndUpdateRecords :
    HandsOn servedBusy .west ∧ UniqueRecords servedBusy ∧ DerivedOk servedBusy ∧ HoldersOk servedBusy ∧
      RecordTimersOk servedBusy ∧ servedBusy.mode = .active ∧
      taken (demoReport 1005 0) = some (demoTaken 1005 false false) ∧
      taken (demoReport 1044 0) = some (demoTaken 1044 false false) ∧
      taken (demoReport 599 0) = some (demoTaken 599 false false) ∧ resolveRoute servedBusy.tables 7 = some 0 ∧
      zoneAt servedBusy.tables .a 1005 = some ⟨1, 0, 1005, 40, 1, 0, 110, 0⟩ ∧
      zoneAt servedBusy.tables .a 1044 = some ⟨1, 0, 1005, 40, 1, 0, 110, 0⟩ ∧
      zoneAt servedBusy.tables .a 1000 = none ∧ zoneAt servedBusy.tables .a 1045 = none ∧
      zoneAt servedBusy.tables .a 599 = none ∧ distance (servedBusy.signalEntry 0) .a 1000 = 0 ∧
      distance (servedBusy.signalEntry 0) .a 1045 = -45 ∧
      (servedBusy.record 0).map (fun x => (x.bus, x.signal, x.served)) = some (77, 0, true) ∧
      (servedBusy.ctx 0).holder = some 0 ∧ (servedBusy.planInEffect 0).lockoutCycles = 2 ∧
      servedBusy.reports.length < 31 ∧
      ((run (.busReport .west (demoReport 599 0)) servedBusy).record 0).map (fun x =>
        (x.position, x.arrival, x.state, x.horizonEntry)) = some (599, 1401, .armed, some 1001) ∧
      ((run (.busReport .west (demoReport 599 0)) servedBusy).record 1).map (fun x =>
        (x.position, x.arrival, x.projectionExpiry)) = some (680, 1721, some 1821) := by
  refine ⟨by unfold HandsOn; decide, by unfold UniqueRecords; decide +kernel, by unfold DerivedOk; decide +kernel,
    by unfold HoldersOk; decide +kernel, by unfold RecordTimersOk; decide +kernel, rfl, by decide, by decide,
    by decide, by decide +kernel⟩

theorem witness_HorizonEntryWakesRecord :
    (withRecord armedRecord).resetHeld = false ∧ HoldersOk (withRecord armedRecord) ∧
      (withRecord armedRecord).record 0 = some armedRecord ∧ armedRecord.state = .armed ∧
      armedRecord.horizonEntry = some 1000 ∧ 0 ≤ timeDiff (withRecord armedRecord).clock 1000 ∧
      ¬ Due demo (.horizonEntry 0) := by
  refine ⟨rfl, by unfold HoldersOk; decide +kernel, by decide +kernel, rfl, rfl, by decide, demo_nothing_due _⟩

theorem witness_ExpiriesCloseRecords :
    (HoldersOk (withRecord { demoRecord with ageExpiry := 1000 }) ∧
      Due (withRecord { demoRecord with ageExpiry := 1000 }) (.ageExpiry 0)) ∧
      (HoldersOk (withRecord { projectedDemo with projectionExpiry := some 1000 }) ∧
        Due (withRecord { projectedDemo with projectionExpiry := some 1000 }) (.projectionExpiry 0)) ∧
      ¬ Due demo (.ageExpiry 39) ∧ ¬ Due demo (.projectionExpiry 39) :=
  ⟨⟨by unfold HoldersOk; decide +kernel, _, rfl, by decide, by decide⟩,
    ⟨by unfold HoldersOk; decide +kernel, _, 1000, rfl, rfl, rfl, by decide⟩, demo_nothing_due _, demo_nothing_due _⟩

/-- The busy corridor at the freshness expiry time of signal 0. -/
theorem witness_FreshnessExpiryMakesStale :
    ({ busy with clock := 1040 } : State).resetHeld = false ∧ DerivedOk { busy with clock := 1040 } ∧
      HoldersOk { busy with clock := 1040 } ∧ CallsOk { busy with clock := 1040 } ∧
      (({ busy with clock := 1040 } : State).ctx 0).freshness = .fresh 1040 ∧ 0 ≤ timeDiff 1040 1040 ∧
      (({ busy with clock := 1040 } : State).ctx 0).state = .ready ∧ ¬ Due demo (.freshnessExpiry 15) := by
  refine ⟨rfl, by unfold DerivedOk; decide +kernel, by unfold HoldersOk; decide +kernel,
    by unfold CallsOk; decide +kernel, by decide +kernel, by decide, by decide +kernel, demo_nothing_due _⟩

theorem witness_RefreshExpiryCopiesOrLapses :
    ((busy.ctx 0).refreshTimer = some 1000 ∧ 0 ≤ timeDiff busy.clock 1000 ∧
      callUnchanged 0 busy (evaluate 0 busy) = true ∧ ((evaluate 0 busy).ctx 0).call = some demoCall ∧
      ((evaluate 0 busy).ctx 0).holder = some 0 ∧ ((evaluate 0 busy).record 0).isSome = true ∧
      ((evaluate 0 busy).ctx 0).refreshCount < ((evaluate 0 busy).planInEffect 0).maxRefreshes.toNat) ∧
      (callUnchanged 0 refreshed (evaluate 0 refreshed) = true ∧
        ((evaluate 0 refreshed).planInEffect 0).maxRefreshes.toNat = ((evaluate 0 refreshed).ctx 0).refreshCount) ∧
      (0 ≤ timeDiff ({ busy with clock := 1400 } : State).clock 1000 ∧
        callUnchanged 0 { busy with clock := 1400 } (evaluate 0 { busy with clock := 1400 }) = false) ∧
      ¬ Due demo (.refreshExpiry 15) :=
  ⟨by decide +kernel, by decide +kernel, by decide +kernel, demo_nothing_due _⟩

theorem witness_StatusFrameIsTaken :
    HandsOn busy .west ∧ HoldersOk busy ∧ RecordTimersOk busy ∧
      (∀ j : SignalId, (flagSet (busy.signalEntry j).inUse = true ∧ (busy.signalEntry j).cabinet = 20 ∧
        portOf (busy.signalEntry j).port = some .west) ↔ j = 0) ∧
      planOf 0 = some .a ∧ planOf 1 = some .b ∧ (899 : Half).toNat < (busy.tables.planEntry 0 .a).cycle.toNat ∧
      (busy.ctx 0).freshness ≠ .never ∧ (busy.ctx 0).taken = some (100, 990) ∧ (busy.ctx 0).plan = .a ∧
      flagSet (busy.tables.planEntry 1 .b).inUse = false ∧
      ((busy.ctx 0).holder = some 0 ∧ (busy.ctx 0).call.isSome = true) ∧
      ((busy.record 0).map fun x => (x.signal, x.state)) = some (0, .holding) :=
  ⟨busy_answers.1, busy_holders, busy_record_timers, by decide +kernel⟩

theorem witness_ArrivalTimeRoundsUp :
    (∀ T' : Nat, (100 * 1 : Int) ≤ (100 : Nat) * T' → 1 ≤ T') ∧
      (∀ T' : Nat, (100 * 65535 : Int) ≤ (10 : Nat) * T' → 655350 ≤ T') ∧
      distance (demo.signalEntry 0) .a 999 = 1 ∧ distance (demo.signalEntry 0) .a 1000 = 0 ∧
      distance (demoSignal 20 0 65535 0) .a 0 = 65535 :=
  ⟨fun T' h => by omega, fun T' h => by omega, by decide +kernel, by decide +kernel, by decide +kernel⟩

theorem witness_ScoreFollowsRules :
    (demoRecord.latenessSec = some 12 ∧
      12 = min 127 (((max (0 : Int) (12 - demo.tables.route[0].latenessOffset.toInt)) *
        demo.tables.route[0].latenessGain.toNat).toNat / 16)) ∧
      ((-101 : Int) < -(demo.tables.route[0].earlyCutoff.toNat : Int)) ∧
      (-(demo.tables.route[0].earlyCutoff.toNat : Int) ≤ -100) ∧ projectedDemo.state = .projected :=
  ⟨⟨rfl, by decide +kernel⟩, by decide +kernel, by decide +kernel, rfl⟩

theorem witness_CandidateRanksFirst :
    ArrivalsOk busy ∧ ((candidate 0 busy).map Prod.fst = some 0 ∧ candidate 15 busy = none ∧
      eligible 0 busy { demoRecord with arrival := 1400 } = true ∧
      eligible 0 busy { demoRecord with arrival := 1401 } = false ∧
      eligible 1 busy projectedDemo = false) :=
  ⟨busy_arrivals, by decide +kernel⟩

/-- A holder is left as it stands by a lower candidate within the margin of 20, and gives up holding to a higher one, with its
doors open, beyond the horizon, or PROJECTED and lapsed. -/
theorem witness_HolderIsChosen :
    (HoldersOk busy ∧ HoldersOk (withRecord demoRecord) ∧ HoldersOk (contested 66) ∧ HoldersOk (contested 67) ∧
      HoldersOk (heldBy { demoRecord with state := .holding, doorsOpen := true }) ∧
      HoldersOk (heldBy { demoRecord with state := .holding, arrival := 2000 }) ∧
      HoldersOk (heldBy { projectedHere with lapsed := true })) ∧
      ((busy.holderOf 0).map fun x => eligible 0 busy x.2) = some true ∧
      (withRecord demoRecord).holderOf 0 = none ∧
      (candidate 0 (contested 66)).map Prod.fst = some 2 ∧ ((contested 66).ctx 0).call.isSome = true ∧
      46 + demoGlobal.holdMargin.toNat = 66 ∧
      ((evaluate 0 (contested 67)).ctx 0).holder = some 2 ∧
      ((evaluate 0 (heldBy { demoRecord with state := .holding, doorsOpen := true })).ctx 0).holder = none ∧
      ((evaluate 0 (heldBy { demoRecord with state := .holding, arrival := 2000 })).ctx 0).holder = none ∧
      ((evaluate 0 (heldBy { projectedHere with lapsed := true })).ctx 0).holder = none := by
  refine ⟨?_, by decide +kernel⟩
  unfold HoldersOk
  refine ⟨?_, ?_, ?_, ?_, ?_, ?_, ?_⟩ <;> decide +kernel

theorem witness_OutcomeByArrivalInCycle :
    (demoPlan.cycle.toNat = 900 ∧ demoPlan.margin.toNat = 30 ∧ demoPlan.xmax.toNat = 10 ∧ demoPlan.emax.toNat = 15) ∧
      ((0 + 370) % 900 = (340 + 30) % 900 ∧ 370 + 30 ≤ 400) ∧
      ((0 + 470) % 900 = (399 + 71) % 900 ∧ 400 < 470 + 30 ∧ 470 < 400 + 71 ∧ 470 + 30 - 400 ≤ 10 * 10) ∧
      ((0 + 470) % 900 = (400 + 70) % 900 ∧ ¬ (470 < 400 + 70) ∧ 400 ≤ 470) ∧
      ((0 + 899) % 900 = (899 + 0) % 900 ∧ ¬ (899 < 400 + 0)) := by decide

theorem witness_OutcomeIsActedOn :
    ((settleHolder 0 busy).holderOf 0).map Prod.fst = some 0 ∧
      (((settleHolder 0 busy).holderOf 0).bind fun x => holderOutcome 0 x.2 (settleHolder 0 busy)) =
        some (.extend 6, false) ∧
      ((settleHolder 0 busy).ctx 0).call = some demoCall ∧ (settleHolder 0 busy).observe = false ∧
      (settleHolder 15 busy).holderOf 15 = none := by decide +kernel

theorem witness_BudgetClipsAmount :
    (20 ≤ 20 ∧ min 6 (20 - 20 + 0) = 0) ∧ (0 < min 13 (20 - 20 + 12) ∧ min 13 (20 - 20 + 12) < 13) ∧
      (0 < 8 ∧ min 8 (20 - 20 + 12) = 8) := by decide

theorem witness_HolderOutcomeByState :
    ((busy.ctx 0).freshness ≠ .never ∧ (busy.ctx 0).taken = some (100, 990) ∧ (busy.planInEffect 0).inUse ≠ 0 ∧
      0 < (busy.planInEffect 0).cycle.toNat ∧ (busy.ctx 0).state = .ready) ∧
      ((busy.ctx 1).freshness = .never ∧ (busy.planInEffect 15).inUse = 0) ∧
    ((busy.record 0).bind fun x => holderOutcome 0 x busy) = some (.extend 6, false) ∧
      holderOutcome 0 { demoRecord with arrival := 1000 + 400 } { busy with clock := 1400 - 250 } =
        some (.early 14, true) ∧
      (({ busy with ctxs := busy.ctxs.set 0 { demoCtx with state := .lockout } } : State).ctx 0).state =
        .lockout := by decide +kernel

theorem witness_CallsAndCancels :
    (busy.record 0).isSome = true ∧ (busy.ctx 0).call = some demoCall ∧
      (busy.signalEntry 0).configuredPort = some .west ∧ (busy.signalEntry 15).configuredPort = none ∧
      (busy.port .west).callQueue = [] ++ ⟨0, 20, demoCall⟩ :: [] ∧
      (∀ d ∈ (demo.port .west).callQueue, d.signal ≠ 0) := by decide +kernel

/-- In `busy` every check holds; in `badZone`, closing ZONE, row 6 is the first row made that fails, at index 63. -/
theorem witness_ValidTablesMeetTheChecks :
    (ValidTablesPass busy ∧ ¬ CheckMet badZone.ownAddress badZone.tables 6 63 ∧ SoundWalk busy.tables 10 [10, 11]) ∧
      busy.validity.zone = .valid ∧ busy.validity.signal = .valid ∧
      flagSet busy.tables.zone[0].inUse = true ∧ busy.tables.zone[0].contains 700 = true ∧
      busy.tables.zone[0].contains 999 = true ∧ busy.tables.zone[1].contains 1005 = true ∧
      busy.tables.zone[1].contains 1044 = true ∧ busy.tables.zone[0].kind = 0 ∧ busy.tables.zone[1].kind = 1 ∧
      ((checkRows badZone.ownAddress badZone.tables)[5]?.map fun row => (row.reported, row.failure)) =
        some (.zone, some 63) ∧
      firstFailedCheck .zone badZone = some (.zone, 63) := by
  refine ⟨⟨busy_tables_pass, fun h => ?_, rfl, by decide, by decide, by decide +kernel, ?_, 11, rfl, ?_⟩,
    by decide +kernel⟩
  · exact absurd (h 63 rfl (by decide +kernel)).1 (by decide +kernel)
  · intro n i j hi hj
    match n with
    | 0 =>
      obtain rfl : 10 = i := by simpa using hi
      obtain rfl : 11 = j := by simpa using hj
      decide +kernel
    | n + 1 => simp at hj
  · decide +kernel

theorem witness_ConfigurationChanges :
    (∃ t, exec (.disable .west 9 0) busy = .next t) ∧
      (∀ r, requestOf (.transmitGapEnd .west) = some r → r.kind ≠ 0x66) ∧
      ∀ r, requestOf (.tableRead .west 9 []) = some r → r.kind = 0x6A := by
  refine ⟨exec_next _ _, fun r h => by simp [requestOf] at h, fun r h => ?_⟩
  simp only [requestOf, Option.some.injEq] at h
  exact h ▸ rfl

theorem witness_step_invariants :
    (DerivedOk busy ∧ ReportsOk busy ∧ QueuesOk busy ∧ UniqueRecords busy ∧ RecordTimersOk busy ∧ HoldersOk busy ∧
      HolderStatesOk busy ∧ TakenOk busy ∧ BudgetOk busy ∧ CallsOk busy ∧ QueuedCallsOk busy ∧
      RefreshCountsOk busy ∧ LoadOk busy ∧ ValidTablesPass busy ∧ PlansInForceOk busy ∧ LockoutOk busy ∧
      RecordTablesOk busy ∧ ScoresOk busy ∧ ArrivalsOk busy ∧ PortRatesOk busy ∧ TransmittersOk busy ∧ LineOk busy) ∧
      ∃ t, step busy = .next t :=
  ⟨⟨busy_derived, busy_reports, busy_queues, busy_unique, busy_record_timers, busy_holders, busy_holder_states,
    busy_taken, busy_budget, busy_calls, busy_queued_calls, busy_refresh_counts, busy_load, busy_tables_pass,
    busy_plans, busy_lockout, busy_record_tables, busy_scores, busy_arrivals, busy_rates, busy_transmitters, busy_line⟩,
    step_next busy⟩

theorem witness_LoadContextStaysInRange :
    LoadOk loading ∧ loading.load.isSome = true ∧ ∃ t, step loading = .next t :=
  ⟨loading_load, rfl, step_next loading⟩

theorem witness_NoAddressStaysSilent :
    NoAddressOk { State.reset with ownAddress := none } ∧
      ({ State.reset with ownAddress := none } : State).ownAddress = none ∧
      ∃ t, step { State.reset with ownAddress := none } = .next t := by
  refine ⟨fun _ => ⟨rfl, rfl, rfl, by decide +kernel, by decide +kernel, ?_⟩, rfl, step_next _⟩
  intro p
  cases p <;> exact ⟨rfl, rfl⟩

end Sys2Proof.Machine.Tests
end

section
/-! SUPPORT. The work of an event on records, contexts, reports and call queues: one relation, `Works`, that every such
operation meets, so that the bounds of the queues and the frames of the ports follow for all of them at once. -/

namespace Sys2Proof.Machine

/-! ## A call's place in a queue (R14) -/

/-- The signals of a queue after a call is placed: as they were, or with the call's signal at the tail (R14). -/
theorem placeInQueue_signals (c : CallSlot) (l : List CallSlot) :
    (placeInQueue c l).map CallSlot.signal =
      if c.signal ∈ l.map CallSlot.signal then l.map CallSlot.signal else l.map CallSlot.signal ++ [c.signal] := by
  have hany : (l.any fun d => d.signal == c.signal) = true ↔ c.signal ∈ l.map CallSlot.signal := by
    simp [List.any_eq_true]
  unfold placeInQueue
  by_cases h : c.signal ∈ l.map CallSlot.signal
  · rw [if_pos (hany.2 h), if_pos h, replaceCall, List.map_map]
    refine List.map_congr_left fun d _ => ?_
    by_cases e : d.signal = c.signal <;> simp [e]
  · rw [if_neg (fun g => h (hany.1 g)), if_neg h]
    simp

/-- A slot of a queue after a call is placed is the call or was there before (R14). -/
theorem mem_placeInQueue {c d : CallSlot} {l : List CallSlot} (h : d ∈ placeInQueue c l) : d = c ∨ d ∈ l := by
  unfold placeInQueue replaceCall at h
  split at h
  · obtain ⟨x, hx, rfl⟩ := List.mem_map.1 h
    split
    · exact .inl rfl
    · exact .inr hx
  · simpa [or_comm] using h

/-- A call placed stands in the queue (R14). -/
theorem placeInQueue_self (c : CallSlot) (l : List CallSlot) : c ∈ placeInQueue c l := by
  unfold placeInQueue replaceCall
  split
  · next h =>
    obtain ⟨d, hd, e⟩ := List.any_eq_true.1 h
    exact List.mem_map.2 ⟨d, hd, by simp [beq_iff_eq.1 e]⟩
  · simp

/-- A call placed takes its signal's slot, and the tail when the signal has none (R14). -/
theorem callPlaced_placeInQueue (c : CallSlot) (q : Port) :
    CallPlaced c q { q with callQueue := placeInQueue c q.callQueue } := by
  constructor
  · intro a b old hq hold hrest
    have keep : ∀ l : List CallSlot, (∀ d ∈ l, d.signal ≠ c.signal) → replaceCall c l = l := by
      intro l hl
      unfold replaceCall
      refine (List.map_congr_left fun d hd => ?_).trans (List.map_id l)
      simp [hl d hd]
    have ha := keep a fun d hd => hrest d (List.mem_append_left b hd)
    have hb := keep b fun d hd => hrest d (List.mem_append_right a hd)
    have hany : (q.callQueue.any fun d => d.signal == c.signal) = true := by simp [hq, hold]
    rw [placeInQueue, if_pos hany, hq]
    simp only [replaceCall, List.map_append, List.map_cons, if_pos hold] at ha hb ⊢
    rw [ha, hb]
  · intro hne
    have hany : ¬ (q.callQueue.any fun d => d.signal == c.signal) = true := by simpa using hne
    rw [placeInQueue, if_neg hany]

/-- What a generated call does to each port: it enters the queue of the port its signal is configured on (R14, R15). -/
theorem placeCall_port (k : SignalId) (c : CallContent) (s : State) (p : PortId) :
    (placeCall k c s).port p =
      if (s.signalEntry k).configuredPort = some p then
        { s.port p with callQueue := placeInQueue ⟨k, (s.signalEntry k).cabinet, c⟩ (s.port p).callQueue }
      else s.port p := by
  unfold placeCall
  split
  · next h => simp [h]
  · next q h =>
    by_cases e : p = q
    · subst e
      simp [h]
    · rw [State.port_setPort_ne _ _ e, if_neg]
      rw [h]
      exact fun g => e (Option.some.inj g).symm

/-- A generated call is in the queue of its port, in its signal's place, and the other port stays (R14, R15). -/
theorem callGenerated_placeCall (k : SignalId) (c : CallContent) (s : State) :
    CallGenerated k c s (placeCall k c s) := by
  intro p
  rw [placeCall_port]
  constructor
  · intro h
    rw [if_pos h]
    exact callPlaced_placeInQueue _ _
  · intro h
    rw [if_neg h]

/-! ## Queues after a change -/

/-- The queues of a port stay within bounds when its new repeat queue does and its new call queue holds calls that were
there, none of them twice. -/
theorem PortQueuesOk.of_sub {s t : State} {p : PortId} (h : PortQueuesOk s p)
    (hr : (t.port p).repeatQueue.length ≤ repeatCapacity) (hn : ((t.port p).callQueue.map CallSlot.signal).Nodup)
    (hs : ∀ c ∈ (t.port p).callQueue, c ∈ (s.port p).callQueue) (ht : t.tables = s.tables) : PortQueuesOk t p := by
  obtain ⟨-, -, hcfg⟩ := h
  refine ⟨hr, hn, fun c hc => ?_⟩
  simpa [State.signalEntry, ht] using hcfg c (hs c hc)

/-- The queues are as promised when each port's are. -/
theorem queuesOk_iff (s : State) : QueuesOk s ↔ ∀ p, PortQueuesOk s p :=
  ⟨fun h p => by cases p; exacts [h.1, h.2], fun h => ⟨h .west, h .east⟩⟩

/-- The bounds of the queues depend on the queues and the table store alone. -/
theorem QueuesOk.congr {s t : State} (h : QueuesOk s)
    (hp : ∀ p, (t.port p).repeatQueue = (s.port p).repeatQueue ∧ (t.port p).callQueue = (s.port p).callQueue)
    (ht : t.tables = s.tables) : QueuesOk t := by
  rw [queuesOk_iff] at h ⊢
  intro p
  obtain ⟨hr, hc⟩ := hp p
  obtain ⟨hlen, hnd, -⟩ := h p
  exact (h p).of_sub (by rw [hr]; exact hlen) (by rw [hc]; exact hnd) (by rw [hc]; exact fun _ => id) ht

/-- A generated call keeps the queues within their bounds (R14). -/
theorem queuesOk_placeCall (k : SignalId) (c : CallContent) (s : State) (h : QueuesOk s) :
    QueuesOk (placeCall k c s) := by
  rw [queuesOk_iff] at h ⊢
  intro p
  obtain ⟨hlen, hnd, hcfg⟩ := h p
  have ht : ∀ j, (placeCall k c s).signalEntry j = s.signalEntry j := (serves_placeCall k c s).signalEntry
  unfold PortQueuesOk
  simp only [ht]
  rw [placeCall_port]
  by_cases e : (s.signalEntry k).configuredPort = some p
  · rw [if_pos e]
    refine ⟨hlen, ?_, fun d hd => ?_⟩
    · have hsig := placeInQueue_signals ⟨k, (s.signalEntry k).cabinet, c⟩ (s.port p).callQueue
      refine hsig ▸ ?_
      split
      · exact hnd
      · next hk =>
        exact List.nodup_append.2 ⟨hnd, List.nodup_singleton _, by
          intro a ha b hb e
          rw [List.mem_singleton.1 hb] at e
          exact hk (e ▸ ha)⟩
    · rcases mem_placeInQueue hd with rfl | hd
      · exact e
      · exact hcfg d hd
  · rw [if_neg e]
    exact ⟨hlen, hnd, hcfg⟩

/-! ## The report queue (R180) -/

/-- A report that meets a full queue raises the lost count of the marker at its end, up to 255 (R180). -/
theorem bumpOverrun_marker (l : List Report) (t : Time) (n : Nat) :
    bumpOverrun (l ++ [⟨t, .overrun n⟩]) = l ++ [⟨t, .overrun (if n < 255 then n + 1 else n)⟩] := by
  induction l with
  | nil => rfl
  | cons r l ih =>
    obtain ⟨q, m, e⟩ := List.exists_cons_of_ne_nil (List.append_ne_nil_of_right_ne_nil l
      (List.cons_ne_nil (⟨t, .overrun n⟩ : Report) []))
    rw [List.cons_append, e, bumpOverrun, ← e, ih, List.cons_append]
    exact List.cons_ne_nil q m

/-- A written report keeps the report queue within its bound, its newest an OVERRUN marker when it is full (R180). -/
theorem reportsOk_writeReport (b : ReportBody) (s : State) (h : ReportsOk s) : ReportsOk (writeReport b s) := by
  obtain ⟨hlen, hlast⟩ := h
  refine ⟨storeReport_length_le _ _ _ hlen, ?_⟩
  simp only [writeReport_reports, storeReport]
  split
  · intro hfull
    simp at hfull
    omega
  · split
    · exact fun _ => ⟨⟨s.clock, .overrun 1⟩, by simp, 1, rfl⟩
    · intro _
      obtain ⟨⟨t, body⟩, hr, n, rfl⟩ := hlast (by omega)
      obtain ⟨l, e⟩ := List.getLast?_eq_some_iff.1 hr
      rw [e, bumpOverrun_marker]
      exact ⟨⟨t, _⟩, List.getLast?_concat .., _, rfl⟩

/-- The bound of the report queue depends on the queue alone. -/
theorem ReportsOk.congr {s t : State} (h : ReportsOk s) (e : t.reports = s.reports) : ReportsOk t := by
  unfold ReportsOk
  rw [e]
  exact h

/-! ## The relation -/

/-- From s to t an event has worked on the records, the contexts, the reports and the call queues, and on nothing else; the
report queue and the call queues have stayed within their bounds. -/
structure Works (s t : State) : Prop extends SameConfig s t where
  port : ∀ p, t.port p = { s.port p with callQueue := (t.port p).callQueue }
  reportsOk : ReportsOk s → ReportsOk t
  queuesOk : QueuesOk s → QueuesOk t

theorem Works.refl (s : State) : Works s s where
  toSameConfig := SameConfig.refl s
  port _ := rfl
  reportsOk := id
  queuesOk := id

theorem Works.trans {s t u : State} (h : Works s t) (g : Works t u) : Works s u where
  toSameConfig := h.toSameConfig.trans g.toSameConfig
  port p := by
    rw [g.port p, h.port p]
  reportsOk := g.reportsOk ∘ h.reportsOk
  queuesOk := g.queuesOk ∘ h.queuesOk

/-- What holds of each step of a fold holds of the fold. -/
theorem works_foldl {α : Type} (f : State → α → State) (h : ∀ u x, Works u (f u x)) (l : List α) (s : State) :
    Works s (l.foldl f s) := by
  induction l generalizing s with
  | nil => exact Works.refl s
  | cons x l ih => exact (h s x).trans (ih _)

/-! ## The updates an event is made of -/

/-- A change to records, contexts and the count of free choices alone. -/
theorem works_hold (s : State) (v : Vector (Option RequestRecord) 40) (w : Vector SignalContext 16) (n : Nat) :
    Works s { s with slots := v, ctxs := w, freeCount := n } where
  toSameConfig := by constructor <;> rfl
  port p := by cases p <;> rfl
  reportsOk := id
  queuesOk := id

theorem works_setCtx (k : SignalId) (c : SignalContext) (s : State) : Works s (s.setCtx k c) :=
  works_hold s s.slots _ s.freeCount

theorem works_setRecord (i : SlotId) (r : Option RequestRecord) (s : State) : Works s (s.setRecord i r) :=
  works_hold s _ s.ctxs s.freeCount

theorem works_modRecord (i : SlotId) (f : RequestRecord → RequestRecord) (s : State) : Works s (s.modRecord i f) :=
  works_setRecord i _ s

theorem works_writeReport (b : ReportBody) (s : State) : Works s (writeReport b s) where
  toSameConfig := writeReport_keeps b s
  port p := by simp
  reportsOk := reportsOk_writeReport b s
  queuesOk := id

theorem works_placeCall (k : SignalId) (c : CallContent) (s : State) : Works s (placeCall k c s) where
  toSameConfig := (serves_placeCall k c s).keeps
  port p := by
    rw [placeCall_port]
    split <;> rfl
  reportsOk h := h.congr (serves_placeCall k c s).reports
  queuesOk := queuesOk_placeCall k c s

theorem works_recompute (k : SignalId) (s : State) : Works s (recompute k s) := by
  unfold recompute
  dsimp only
  split
  · exact (works_setCtx k _ s).trans (works_writeReport _ _)
  · exact works_setCtx k _ s

/-! ## An evaluation (chapter 7) and calls (chapter 8) -/

theorem works_generateCancel (k : SignalId) (s : State) : Works s (generateCancel k s) := by
  unfold generateCancel
  split
  · exact Works.refl s
  · exact (works_setCtx k _ s).trans (works_placeCall k _ _)

theorem works_generateCall (k : SignalId) (i : SlotId) (r : RequestRecord) (action : CallAction) (amount : Nat)
    (pf : Bool) (s : State) : Works s (generateCall k i r action amount pf s) :=
  ((works_setCtx k _ s).trans (works_modRecord i _ _)).trans (works_placeCall k _ _)

theorem works_refreshCopy (k : SignalId) (s : State) : Works s (refreshCopy k s) := by
  unfold refreshCopy
  split
  · exact Works.refl s
  · split
    · exact (works_setCtx k _ s).trans (works_placeCall k _ _)
    · exact ((works_setCtx k _ s).trans (works_modRecord _ _ _)).trans (works_placeCall k _ _)

theorem works_giveUp (k : SignalId) (s : State) : Works s (giveUp k s) := by
  unfold giveUp
  dsimp only
  split
  · exact works_generateCancel k s
  · exact ((works_generateCancel k s).trans (works_modRecord _ _ _)).trans (works_setCtx k _ _)

theorem works_takeHolding (k : SignalId) (i : SlotId) (s : State) : Works s (takeHolding k i s) :=
  (works_modRecord i _ s).trans (works_setCtx k _ _)

theorem works_takeCandidate (k : SignalId) (c : Option (SlotId × RequestRecord)) (s : State) :
    Works s (takeCandidate k c s) := by
  cases c with
  | none => exact Works.refl s
  | some x => exact works_takeHolding k x.1 s

theorem works_settleHolder (k : SignalId) (s : State) : Works s (settleHolder k s) := by
  have replaced (j : SlotId) : Works s (takeHolding k j (giveUp k s)) :=
    (works_giveUp k s).trans (works_takeHolding k j _)
  unfold settleHolder
  dsimp only
  split
  · exact works_takeCandidate k _ s
  · split
    · exact (works_giveUp k s).trans (works_takeCandidate k _ _)
    · split
      · exact Works.refl s
      · next j _ _ =>
        split
        · exact Works.refl s
        · split
          · exact replaced j
          · split
            · exact replaced j
            · exact Works.refl s

theorem works_actOnOutcome (k : SignalId) (i : SlotId) (r : RequestRecord) (o : ServiceOutcome × Bool) (s : State) :
    Works s (actOnOutcome k i r o s) := by
  unfold actOnOutcome
  split
  · exact works_generateCancel k s
  · split
    · exact Works.refl s
    · exact works_generateCall k i r _ _ _ s

theorem works_serveHolder (k : SignalId) (s : State) : Works s (serveHolder k s) := by
  unfold serveHolder
  split
  · exact Works.refl s
  · split
    · exact Works.refl s
    · exact (works_modRecord _ _ s).trans (works_actOnOutcome k _ _ _ _)

theorem works_evaluate (k : SignalId) (s : State) : Works s (evaluate k s) :=
  (works_settleHolder k s).trans (works_serveHolder k _)

theorem works_evaluateAll (l : List SignalId) (s : State) : Works s (evaluateAll l s) :=
  works_foldl _ (fun u k => works_evaluate k u) l s

theorem works_lapse (k : SignalId) (s : State) : Works s (lapse k s) := by
  unfold lapse
  dsimp only
  refine (Works.trans ?_ (works_giveUp k _)).trans (works_evaluate k _)
  split
  · exact works_generateCancel k s
  · exact (works_generateCancel k s).trans (works_modRecord _ _ _)

theorem works_refreshOrLapse (k : SignalId) (s : State) : Works s (refreshOrLapse k s) := by
  unfold refreshOrLapse
  dsimp only
  split
  · split
    · exact (works_evaluate k s).trans (works_refreshCopy k _)
    · exact (works_evaluate k s).trans (works_lapse k _)
  · exact works_evaluate k s

/-! ## Status frames and a context's timers (chapter 6) -/

theorem works_changeRecordsAt (k : SignalId) (f : RequestRecord → RequestRecord) (s : State) :
    Works s (changeRecordsAt k f s) :=
  works_foldl _ (fun u i => works_modRecord i _ u) allSlots s

theorem works_clearCommitted (k : SignalId) (ch : StatusChange) (s : State) : Works s (clearCommitted k ch s) := by
  cases ch with
  | neither => exact Works.refl s
  | planSelect => exact works_changeRecordsAt k _ s
  | cycleBoundary => exact works_changeRecordsAt k _ s

theorem works_reexamineRecords (k : SignalId) (b : Bool) (s : State) : Works s (reexamineRecords k b s) := by
  unfold reexamineRecords
  split
  · exact works_changeRecordsAt k _ s
  · exact Works.refl s

theorem works_creditService (k : SignalId) (s : State) : Works s (creditService k s) := by
  unfold creditService
  split
  · exact Works.refl s
  · split
    · exact works_modRecord _ _ s
    · exact Works.refl s

theorem works_takeStatus (k : SignalId) (p : PlanId) (f : SignalStatus) (s : State) : Works s (takeStatus k p f s) := by
  have before := (((works_setCtx k ((s.ctx k).withStatus (statusChange (s.ctx k) p f.position) f p s.clock
    (statusTimeout s)) s).trans (works_clearCommitted k (statusChange (s.ctx k) p f.position) _)).trans
    (works_reexamineRecords k (decide (p ≠ (s.ctx k).plan)) _)).trans
    ((works_creditService k _).trans (works_recompute k _))
  unfold takeStatus lapseAboveLimit
  dsimp only
  split
  · exact (before.trans (works_evaluate k _)).trans (works_lapse k _)
  · exact before.trans (works_evaluate k _)

theorem works_offerStatus (k : SignalId) (f : SignalStatus) (s : State) : Works s (offerStatus k f s) := by
  unfold offerStatus
  split
  · exact Works.refl s
  · exact works_takeStatus k _ f s

theorem works_handStatus (p : PortId) (src : Byte) (f : SignalStatus) (s : State) : Works s (handStatus p src f s) :=
  works_foldl _ (fun u k => works_offerStatus k f u) _ s

theorem works_takeFreshnessExpiry (k : SignalId) (s : State) : Works s (takeFreshnessExpiry k s) := by
  unfold takeFreshnessExpiry
  split
  · exact ((works_setCtx k _ s).trans (works_recompute k _)).trans (works_evaluate k _)
  · exact Works.refl s

theorem works_takeRefreshExpiry (k : SignalId) (s : State) : Works s (takeRefreshExpiry k s) := by
  unfold takeRefreshExpiry
  split
  · exact works_refreshOrLapse k s
  · exact Works.refl s

/-! ## Records (chapters 3 and 4) -/

theorem works_closeRecord (i : SlotId) (reason : ClosureReason) (s : State) : Works s (closeRecord i reason s) := by
  unfold closeRecord
  split
  · exact Works.refl s
  · next r _ =>
    have notice (u : State) (wasHolder : Bool) : Works u (closureNotice r.signal reason wasHolder r.served
        (writeReport (r.closedReport i reason) (u.setRecord i none))) :=
      ((works_setRecord i none u).trans (works_writeReport _ _)).trans
        ((works_setCtx _ _ _).trans (works_recompute _ _))
    dsimp only
    split
    · exact (works_generateCancel r.signal s).trans (notice _ _)
    · exact notice s _

theorem works_closeAll (l : List SlotId) (reason : ClosureReason) (s : State) : Works s (closeAll l reason s) :=
  works_foldl _ (fun u i => works_closeRecord i reason u) l s

theorem works_attemptProjection (i : SlotId) (doors : Bool) (s : State) : Works s (attemptProjection i doors s).1 := by
  unfold attemptProjection
  split
  · exact Works.refl s
  · split
    · exact Works.refl s
    · split
      · split
        · exact works_setRecord _ _ s
        · exact Works.refl s
      · exact Works.refl s

theorem works_createAndProject (i : SlotId) (t : TakenReport) (k : SignalId) (z : ZoneEntry) (route : Fin 32)
    (s : State) : Works s (createAndProject i t k z route s).1 :=
  (works_setRecord i _ s).trans (works_attemptProjection i _ _)

theorem works_displaceAndCreate (x : SlotId × RequestRecord) (t : TakenReport) (k : SignalId) (z : ZoneEntry)
    (route : Fin 32) (s : State) : Works s (displaceAndCreate x t k z route s).1 :=
  (works_closeRecord x.1 _ s).trans (works_createAndProject _ t k z route _)

theorem works_checkInFull (t : TakenReport) (k : SignalId) (z : ZoneEntry) (route : Fin 32) (s : State) :
    Works s (checkInFull t k z route s).1 := by
  unfold checkInFull
  split
  · exact works_displaceAndCreate _ t k z route s
  · split
    · exact Works.refl s
    · split
      · exact works_displaceAndCreate _ t k z route s
      · exact works_writeReport _ s

theorem works_checkIn (t : TakenReport) (k : SignalId) (z : ZoneEntry) (route : Fin 32) (s : State) :
    Works s (checkIn t k z route s).1 := by
  unfold checkIn
  split
  · split
    · exact (works_setRecord _ _ s).trans (works_attemptProjection _ _ _)
    · exact Works.refl s
  · split
    · exact works_createAndProject _ t k z route s
    · exact works_checkInFull t k z route s

theorem works_updateRecords (t : TakenReport) (s : State) : Works s (updateRecords t s).1 :=
  (works_foldl _ (fun u (x : SlotId × RequestRecord) => works_setRecord x.1 (some (x.2.refreshed t u)) u) _ s).trans
    (works_foldl _ (fun u (x : SlotId × RequestRecord) => works_setRecord x.1 (some (x.2.reestimated t u)) u) _ _)

theorem works_takeHorizonEntry (i : SlotId) (s : State) : Works s (takeHorizonEntry i s) := by
  unfold takeHorizonEntry
  split
  · exact Works.refl s
  · split
    · exact (works_setRecord i _ s).trans (works_evaluate _ _)
    · exact Works.refl s

theorem works_takeAgeExpiry (i : SlotId) (s : State) : Works s (takeAgeExpiry i s) := by
  unfold takeAgeExpiry
  split
  · exact Works.refl s
  · split
    · exact (works_closeRecord i _ s).trans (works_evaluate _ _)
    · exact Works.refl s

theorem works_takeProjectionExpiry (i : SlotId) (s : State) : Works s (takeProjectionExpiry i s) := by
  unfold takeProjectionExpiry
  split
  · exact Works.refl s
  · split
    · exact (works_closeRecord i _ s).trans (works_evaluate _ _)
    · exact Works.refl s

/-! ## Bus reports (chapter 2) -/

/-- Putting a list in the order of a key keeps its members and how often each stands in it. -/
theorem insertByKey_perm (key : SignalId → Nat) (c : CallSlot) (l : List CallSlot) :
    (insertByKey key c l).Perm (c :: l) := by
  induction l with
  | nil => exact List.Perm.refl _
  | cons d l ih =>
    unfold insertByKey
    split
    · exact List.Perm.refl _
    · exact (ih.cons d).trans (List.Perm.swap c d l)

theorem sortByKey_perm (key : SignalId → Nat) (l : List CallSlot) : (sortByKey key l).Perm l := by
  induction l with
  | nil => exact List.Perm.refl _
  | cons c l ih => exact (insertByKey_perm key c _).trans (ih.cons c)

/-- Ordering the slots a queue gained keeps the queue's slots (R37). -/
theorem reorderTail_perm (key : SignalId → Nat) (n : Nat) (l : List CallSlot) : (reorderTail key n l).Perm l := by
  have h := (sortByKey_perm key (l.drop n)).append_left (l.take n)
  rwa [List.take_append_drop] at h

theorem reorderNew_port (key : SignalId → Nat) (before : State) (p r : PortId) (s : State) :
    ∃ l, l.Perm (s.port r).callQueue ∧ (reorderNew key before p s).port r = { s.port r with callQueue := l } := by
  unfold reorderNew
  by_cases e : r = p
  · subst e
    exact ⟨_, reorderTail_perm key _ _, State.port_setPort_self _ _ _⟩
  · exact ⟨_, List.Perm.refl _, State.port_setPort_ne _ _ e⟩

theorem works_reorderNew (key : SignalId → Nat) (before : State) (p : PortId) (s : State) :
    Works s (reorderNew key before p s) where
  toSameConfig := reorderNew_keeps key before p s
  port r := by
    obtain ⟨l, -, h⟩ := reorderNew_port key before p r s
    rw [h]
  reportsOk h := h.congr (by simp [reorderNew])
  queuesOk h := by
    rw [queuesOk_iff] at h ⊢
    intro r
    obtain ⟨l, hl, e⟩ := reorderNew_port key before p r s
    obtain ⟨hlen, hnd, -⟩ := h r
    refine (h r).of_sub ?_ ?_ ?_ (by simp [reorderNew]) <;> rw [e]
    · exact hlen
    · exact (hl.map CallSlot.signal).nodup_iff.2 hnd
    · exact fun c hc => hl.mem_iff.1 hc

theorem works_evaluateTouched (l : List SignalId) (s : State) : Works s (evaluateTouched l s) :=
  (((works_evaluateAll _ s).trans (works_reorderNew _ s .west _)).trans (works_reorderNew _ s .east _)).trans
    (works_hold _ _ _ _)

theorem works_matchZone (t : TakenReport) (route : Fin 32) (s : State) : Works s (matchZone t route s).1 := by
  unfold matchZone
  split
  · exact works_closeAll _ _ s
  · split
    · exact Works.refl s
    · unfold inZone
      split
      · split
        · exact Works.refl s
        · exact works_closeAll _ _ s
      · split
        · exact works_checkIn t _ _ route s
        · exact Works.refl s

theorem works_actOnReport (t : TakenReport) (route : Fin 32) (s : State) : Works s (actOnReport t route s) := by
  unfold actOnReport
  dsimp only
  split
  · exact (works_closeAll _ _ s).trans (works_evaluateTouched _ _)
  · exact ((works_matchZone _ _ s).trans (works_updateRecords _ _)).trans (works_evaluateTouched _ _)

theorem works_takeBusReport (r : BusReport) (s : State) : Works s (takeBusReport r s) := by
  unfold takeBusReport
  split
  · split
    · exact Works.refl s
    · split
      · exact Works.refl s
      · exact works_actOnReport _ _ s
  · exact Works.refl s

/-! ## Many signals at once (chapter 9, R115) -/

theorem works_recomputeAll (l : List SignalId) (s : State) : Works s (recomputeAll l s) :=
  works_foldl _ (fun u k => works_recompute k u) l s

theorem works_recomputeAndEvaluate (s : State) : Works s (recomputeAndEvaluate s) :=
  (works_recomputeAll allSignals s).trans (works_evaluateAll _ _)

theorem works_recomputeOne (k : SignalId) (s : State) : Works s (recomputeOne k s) := by
  unfold recomputeOne
  dsimp only
  split
  · exact works_recompute k s
  · exact (works_recompute k s).trans (works_evaluate k _)

theorem works_suspendScope (s : State) : Works s (suspendScope s) :=
  (((works_recomputeAll s.scope s).trans (works_closeAll _ _ _)).trans
    (works_foldl _ (fun u k => works_setCtx k (u.ctx k).suspendedValues u) _ _)).trans (works_evaluateAll _ _)

theorem works_cancelAll (s : State) : Works s (cancelAll s) :=
  works_foldl _ (fun u k => works_generateCancel k u) allSignals s

end Sys2Proof.Machine
end

section
/-! SUPPORT. What the effects of a command can do to the ports and the queues before the end of its event: `Quiet`, which
leaves every frame in flight as it is, `Acted`, which may change the parity once, and one effect per command. -/

namespace Sys2Proof.Machine

/-! ## Effects that leave the line alone -/

/-- From s to t the line is as it was: the parity, the frames in flight and what TXD has carried of them; the queues have
stayed within their bounds, and the rates with the port states. -/
structure Quiet (s t : State) : Prop where
  pending : t.pending = s.pending
  resetHeld : t.resetHeld = s.resetHeld
  clock : t.clock = s.clock
  ownAddress : t.ownAddress = s.ownAddress
  parity : t.parity = s.parity
  line : ∀ p, (t.port p).tx = (s.port p).tx ∧ (t.port p).txd = (s.port p).txd
  reportsOk : ReportsOk s → ReportsOk t
  queuesOk : QueuesOk s → QueuesOk t
  ratesOk : PortRatesOk s → PortRatesOk t

theorem Quiet.refl (s : State) : Quiet s s where
  pending := rfl
  resetHeld := rfl
  clock := rfl
  ownAddress := rfl
  parity := rfl
  line _ := ⟨rfl, rfl⟩
  reportsOk := id
  queuesOk := id
  ratesOk := id

theorem Quiet.trans {s t u : State} (h : Quiet s t) (g : Quiet t u) : Quiet s u where
  pending := g.pending.trans h.pending
  resetHeld := g.resetHeld.trans h.resetHeld
  clock := g.clock.trans h.clock
  ownAddress := g.ownAddress.trans h.ownAddress
  parity := g.parity.trans h.parity
  line p := ⟨(g.line p).1.trans (h.line p).1, (g.line p).2.trans (h.line p).2⟩
  reportsOk := g.reportsOk ∘ h.reportsOk
  queuesOk := g.queuesOk ∘ h.queuesOk
  ratesOk := g.ratesOk ∘ h.ratesOk

/-- A port's state stands with its rate: a RUNNING port has a rate and has been RUNNING, and one that has not has none. -/
def Port.RateOk (q : Port) : Prop :=
  (q.state = .running → q.rate.isSome = true ∧ q.hasRun = true) ∧ (q.hasRun = false → q.rate = none)

theorem portRatesOk_iff (s : State) : PortRatesOk s ↔ ∀ p, (s.port p).RateOk := Iff.rfl

/-- A receiver that is as it was keeps its rate with its state. -/
theorem Port.RateOk.congr {q r : Port} (h : q.RateOk) (hs : r.state = q.state) (hr : r.rate = q.rate)
    (hh : r.hasRun = q.hasRun) : r.RateOk := by
  unfold Port.RateOk
  rw [hs, hr, hh]
  exact h

theorem Works.quiet {s t : State} (h : Works s t) : Quiet s t where
  pending := h.pending
  resetHeld := h.resetHeld
  clock := h.clock
  ownAddress := h.ownAddress
  parity := h.parity
  line p := by rw [h.port p]; exact ⟨rfl, rfl⟩
  reportsOk := h.reportsOk
  queuesOk := h.queuesOk
  ratesOk g p := by rw [h.port p]; exact g p

/-- A change to one port that leaves its line and its call queue. -/
theorem quiet_setPort (p : PortId) (q : Port) (s : State) (htx : q.tx = (s.port p).tx) (htxd : q.txd = (s.port p).txd)
    (hc : q.callQueue = (s.port p).callQueue)
    (hr : (s.port p).repeatQueue.length ≤ repeatCapacity → q.repeatQueue.length ≤ repeatCapacity)
    (hrate : (s.port p).RateOk → q.RateOk) : Quiet s (s.setPort p q) where
  pending := by simp
  resetHeld := by simp
  clock := by simp
  ownAddress := by simp
  parity := by simp
  line r := by
    by_cases e : r = p
    · subst e
      simp [htx, htxd]
    · simp [State.port_setPort_ne _ _ e]
  reportsOk h := h.congr (by simp)
  queuesOk h := by
    rw [queuesOk_iff] at h ⊢
    intro r
    obtain ⟨hlen, hnd, -⟩ := h r
    by_cases e : r = p
    · subst e
      refine (h r).of_sub ?_ ?_ ?_ (by simp) <;> rw [State.port_setPort_self]
      · exact hr hlen
      · rw [hc]; exact hnd
      · rw [hc]; exact fun _ => id
    · refine (h r).of_sub ?_ ?_ ?_ (by simp) <;> rw [State.port_setPort_ne _ _ e]
      · exact hlen
      · exact hnd
      · exact fun _ => id
  ratesOk h r := by
    by_cases e : r = p
    · subst e
      rw [State.port_setPort_self]
      exact hrate (h r)
    · rw [State.port_setPort_ne _ _ e]
      exact h r

/-- A reply placed leaves the line (R17). -/
theorem quiet_placeReply (p : PortId) (src : Byte) (a : Answer) (s : State) : Quiet s (placeReply p src a s) :=
  quiet_setPort p _ s rfl rfl rfl id id

/-- A frame offered to a repeat queue is at its tail, or dropped and counted: the queue keeps its bound (R13). -/
theorem offerRepeat_length (q : Port) (frame : List Byte) (h : q.repeatQueue.length ≤ repeatCapacity) :
    (q.offerRepeat frame).repeatQueue.length ≤ repeatCapacity := by
  unfold Port.offerRepeat
  split
  · simpa using by omega
  · exact h

/-- A frame offered to a repeat queue changes that queue and the count of drops, and nothing else (R13). -/
theorem offerRepeat_rest (q : Port) (frame : List Byte) :
    q.offerRepeat frame = { q with
      repeatQueue := (q.offerRepeat frame).repeatQueue, repeatDrops := (q.offerRepeat frame).repeatDrops } := by
  unfold Port.offerRepeat
  split <;> rfl

theorem quiet_repeatFrame (p : PortId) (frame : List Byte) (s : State) : Quiet s (repeatFrame p frame s) := by
  have e := offerRepeat_rest (s.port p.opposite) frame
  refine quiet_setPort _ _ s ?_ ?_ ?_ (offerRepeat_length _ frame) fun h => h.congr ?_ ?_ ?_ <;> rw [e]

/-- A change to the load, the validities, the mode and the flags of the responder. -/
theorem quiet_configure (s : State) (l : Option LoadContext) (v : Validities) (m : CorridorMode)
    (d : Vector Bool 16) (o : Bool) :
    Quiet s { s with load := l, validity := v, mode := m, disabled := d, observe := o } where
  pending := rfl
  resetHeld := rfl
  clock := rfl
  ownAddress := rfl
  parity := rfl
  line p := by cases p <;> exact ⟨rfl, rfl⟩
  reportsOk := id
  queuesOk := id
  ratesOk h p := by cases p; exacts [h .west, h .east]

theorem quiet_updateMode (s : State) : Quiet s (updateMode s) :=
  quiet_configure s s.load s.validity _ s.disabled s.observe

/-- Reports removed from the oldest on keep the queue's bound (R180, R181). -/
theorem reportsOk_drop (s : State) (n : Nat) (h : ReportsOk s) : ReportsOk (s.setReports (s.reports.drop n)) := by
  obtain ⟨hlen, hlast⟩ := h
  refine ⟨by simp; omega, fun hfull => ?_⟩
  simp only [State.setReports_reports, List.length_drop] at hfull ⊢
  by_cases hn : n = 0
  · subst hn
    simpa using hlast (by omega)
  · simp [reportCapacity] at hlen hfull
    omega

theorem quiet_dropReports (s : State) (n : Nat) : Quiet s (s.setReports (s.reports.drop n)) where
  pending := rfl
  resetHeld := rfl
  clock := rfl
  ownAddress := rfl
  parity := rfl
  line p := by simp
  reportsOk := reportsOk_drop s n
  queuesOk := id
  ratesOk h p := by simpa using h p

/-! ## Storing table entries (R16, R165) -/

/-- The SIGNAL entry of a signal after an entry is stored: the new one at its own index, the old one otherwise (R165). -/
theorem TableStore.signal_storeEntry (t : TableStore) (id : TableId) (i : Nat) (l : List Byte) (k : SignalId) :
    (t.storeEntry id i l).signal[k] =
      if id = .signal ∧ i = k.val then SignalEntry.ofBytes l else t.signal[k] := by
  cases id
  case signal => simp [TableStore.storeEntry, Vector.getElem_setIfInBounds]
  case global => by_cases h : i = 0 <;> simp [TableStore.storeEntry, h]
  all_goals rfl

/-- A stored entry leaves the SIGNAL entries of other signals (R165). -/
theorem signalEntry_storeEntry_ne (s : State) (id : TableId) (i : Nat) (l : List Byte) {k : SignalId}
    (h : ¬ (id = .signal ∧ i = k.val)) :
    ({ s with tables := s.tables.storeEntry id i l } : State).signalEntry k = s.signalEntry k :=
  (s.tables.signal_storeEntry id i l k).trans (if_neg h)

theorem indexBelow_some {n i : Nat} {k : Fin n} (h : indexBelow n i = some k) : k.val = i := by
  unfold indexBelow at h
  split at h <;> cases h
  rfl

theorem indexBelow_lt {n i : Nat} (h : i < n) : indexBelow n i = some ⟨i, h⟩ := by
  simp [indexBelow, h]

theorem indexBelow_none {n i : Nat} (h : indexBelow n i = none) : n ≤ i := by
  by_contra g
  rw [indexBelow_lt (Nat.lt_of_not_le g)] at h
  cases h

@[simp] theorem dropCall_callQueue (q : Port) (k : SignalId) :
    (q.dropCall k).callQueue = q.callQueue.filter fun d => d.signal != k := rfl

/-- A moved signal's call leaves the port it was on; each port keeps everything else (R16). -/
theorem dropMovedCall_port (k : SignalId) (before : Option PortId) (s : State) (p : PortId) :
    (dropMovedCall k before s).port p =
      if before = some p ∧ (s.signalEntry k).configuredPort ≠ some p then (s.port p).dropCall k else s.port p := by
  unfold dropMovedCall
  split
  · simp
  · next q =>
    by_cases e : p = q
    · subst e
      by_cases h : (s.signalEntry k).configuredPort = some p <;> simp [h]
    · have : ¬ (some q = some p) := fun g => e (Option.some.inj g).symm
      split <;> simp [this, State.port_setPort_ne _ _ e]

theorem dropMovedCall_keeps (k : SignalId) (before : Option PortId) (s : State) :
    SameConfig s (dropMovedCall k before s) := by
  unfold dropMovedCall
  split
  · exact SameConfig.refl s
  · split
    · exact SameConfig.refl s
    · exact setPort_keeps _ _ s

theorem dropMovedCall_reports (k : SignalId) (before : Option PortId) (s : State) :
    (dropMovedCall k before s).reports = s.reports := by
  unfold dropMovedCall
  split
  · rfl
  · split <;> simp

theorem port_setTables (s : State) (t : TableStore) (p : PortId) : ({ s with tables := t } : State).port p = s.port p := by
  cases p <;> rfl

/-- The entry of one signal changes, and a call that it moves is dropped: the queues hold calls of signals configured on
their ports only (R14, R16). -/
theorem queuesOk_dropMovedCall (k : SignalId) (s u : State) (hport : ∀ p, u.port p = s.port p)
    (hother : ∀ j, j ≠ k → u.signalEntry j = s.signalEntry j) (h : QueuesOk s) :
    QueuesOk (dropMovedCall k (s.signalEntry k).configuredPort u) := by
  rw [queuesOk_iff] at h ⊢
  intro p
  obtain ⟨hlen, hnd, hcfg⟩ := h p
  have hentry : ∀ j, (dropMovedCall k (s.signalEntry k).configuredPort u).signalEntry j = u.signalEntry j := by
    intro j
    simp only [State.signalEntry, (dropMovedCall_keeps k _ u).tables]
  unfold PortQueuesOk
  simp only [hentry]
  rw [dropMovedCall_port, hport]
  split
  · refine ⟨hlen, hnd.sublist (List.filter_sublist.map _), fun c hc => ?_⟩
    obtain ⟨hc, hne⟩ := List.mem_filter.1 hc
    rw [hother c.signal (bne_iff_ne.1 hne)]
    exact hcfg c hc
  · next hmove =>
    refine ⟨hlen, hnd, fun c hc => ?_⟩
    by_cases e : c.signal = k
    · subst e
      by_contra g
      exact hmove ⟨hcfg c hc, g⟩
    · rw [hother c.signal e]
      exact hcfg c hc

/-- A change to the table store that leaves the SIGNAL table. -/
theorem quiet_setTables (s : State) (t : TableStore) (h : t.signal = s.tables.signal) : Quiet s { s with tables := t } where
  pending := rfl
  resetHeld := rfl
  clock := rfl
  ownAddress := rfl
  parity := rfl
  line p := by cases p <;> exact ⟨rfl, rfl⟩
  reportsOk := id
  queuesOk g := by
    simp only [QueuesOk, PortQueuesOk, State.signalEntry, h, port_setTables] at g ⊢
    exact g
  ratesOk g p := by cases p; exacts [g .west, g .east]

/-- A stored entry of a table other than SIGNAL, or beyond its end, leaves the SIGNAL table. -/
theorem TableStore.signal_storeEntry_other (t : TableStore) (id : TableId) (i : Nat) (l : List Byte)
    (h : id ≠ .signal ∨ 16 ≤ i) : (t.storeEntry id i l).signal = t.signal := by
  refine Vector.ext fun j hj => ?_
  have e := t.signal_storeEntry id i l ⟨j, hj⟩
  rw [if_neg] at e
  · exact e
  · rintro ⟨g, rfl⟩
    exact h.elim (fun n => n g) (fun n => absurd hj (Nat.not_lt.2 n))

/-- Storing a whole entry leaves the line, and keeps the call queues on the ports their signals are configured on (R16,
R112, R165). -/
theorem quiet_storeEntry (id : TableId) (i : Nat) (l : List Byte) (s : State) : Quiet s (storeEntry id i l s) := by
  have stored (h : id ≠ .signal ∨ 16 ≤ i) : Quiet s { s with tables := s.tables.storeEntry id i l } :=
    quiet_setTables s _ (s.tables.signal_storeEntry_other id i l h)
  cases id
  case signal =>
    unfold storeEntry
    dsimp only
    split
    · next h => exact stored (.inr (indexBelow_none h))
    · next k h =>
      refine Quiet.trans ?_ (works_recomputeOne k _).quiet
      have keeps := dropMovedCall_keeps k (s.signalEntry k).configuredPort
        { s with tables := s.tables.storeEntry .signal i l }
      exact {
        pending := keeps.pending
        resetHeld := keeps.resetHeld
        clock := keeps.clock
        ownAddress := keeps.ownAddress
        parity := keeps.parity
        line := fun p => by
          rw [dropMovedCall_port, port_setTables]
          split <;> exact ⟨rfl, rfl⟩
        reportsOk := fun g => g.congr (dropMovedCall_reports k _ _)
        queuesOk := queuesOk_dropMovedCall k s _ (port_setTables s _) fun j hj =>
          signalEntry_storeEntry_ne s .signal i l fun e => hj (Fin.ext (e.2.symm.trans (indexBelow_some h).symm))
        ratesOk := fun g p => by
          rw [dropMovedCall_port, port_setTables]
          split <;> exact g p }
  case plan =>
    unfold storeEntry
    dsimp only
    split
    · exact stored (.inl (by decide))
    · exact (stored (.inl (by decide))).trans (works_recomputeOne _ _).quiet
  all_goals exact stored (.inl (by decide))

theorem quiet_setLoad (s : State) (l : Option LoadContext) : Quiet s { s with load := l } :=
  quiet_configure s l s.validity s.mode s.disabled s.observe

theorem quiet_assemble (fuel : Nat) (l : LoadContext) (s : State) : Quiet s (assemble fuel l s) := by
  induction fuel generalizing l s with
  | zero => exact quiet_setLoad s _
  | succ fuel ih =>
    unfold assemble
    split
    · exact quiet_setLoad s _
    · exact ((quiet_setLoad s _).trans (quiet_storeEntry _ _ _ _)).trans (ih _ _)

/-! ## Effects that may change the parity -/

/-- From s to t an event has acted: the parity has changed at most once, between effects that leave the line. -/
def Acted (s t : State) : Prop := ∃ (m : State) (v : Parity), Quiet s m ∧ Quiet (setParity v m) t

@[simp] theorem setParity_same (s : State) : setParity s.parity s = s := by simp [setParity]

theorem Quiet.acted {s t : State} (h : Quiet s t) : Acted s t :=
  ⟨s, s.parity, Quiet.refl s, by rwa [setParity_same]⟩

theorem acted_setParity (v : Parity) (s : State) : Acted s (setParity v s) :=
  ⟨s, v, Quiet.refl s, Quiet.refl _⟩

theorem Acted.trans_quiet {s t u : State} (h : Acted s t) (g : Quiet t u) : Acted s u := by
  obtain ⟨m, v, before, after⟩ := h
  exact ⟨m, v, before, after.trans g⟩

theorem Quiet.trans_acted {s t u : State} (h : Quiet s t) (g : Acted t u) : Acted s u := by
  obtain ⟨m, v, before, after⟩ := g
  exact ⟨m, v, h.trans before, after⟩

/-- A change of parity leaves a port but for what its TXD pin has carried (R2, R19). -/
theorem setParity_port_rest (v : Parity) (s : State) (p : PortId) :
    (setParity v s).port p = { s.port p with txd := ((setParity v s).port p).txd } := by
  obtain ⟨n, h⟩ := setParity_port v s p
  rw [h]
  exact Port.sendOn_rest _ _ n

/-- A change of parity keeps every bound of the queues and the rates, and the parts of the state beside the line. -/
theorem setParity_keeps (v : Parity) (s : State) :
    ((setParity v s).pending = s.pending ∧ (setParity v s).resetHeld = s.resetHeld ∧
      (setParity v s).clock = s.clock ∧ (setParity v s).ownAddress = s.ownAddress) ∧
    (ReportsOk s → ReportsOk (setParity v s)) ∧ (QueuesOk s → QueuesOk (setParity v s)) ∧
    (PortRatesOk s → PortRatesOk (setParity v s)) := by
  have rest := setParity_rest v s
  refine ⟨⟨?_, ?_, ?_, ?_⟩, fun h => h.congr ?_, fun h => h.congr (fun p => ?_) ?_, fun h p => ?_⟩
  iterate 5 rw [rest]
  · rw [setParity_port_rest]
    exact ⟨rfl, rfl⟩
  · rw [rest]
  · rw [setParity_port_rest]
    exact h p

/-- A change of parity sends on the frames in flight (R2, R19). -/
theorem sentOn_setParity (v : Parity) (s : State) (p : PortId) :
    SentOn s.parity (s.port p) ((setParity v s).port p) := by
  obtain ⟨n, h⟩ := setParity_port v s p
  rw [h]
  exact ⟨Port.sendOn_tx _ _ n, fun hidle => by rw [Port.sendOn_idle _ _ n hidle],
    fun f hf => ⟨n, Port.sendOn_txd _ _ n f hf⟩⟩

/-- A port whose line is as it was carries on what its frame in flight has sent. -/
theorem SentOn.congr {setting : Parity} {q r q' r' : Port} (h : SentOn setting q r) (hq : q.tx = q'.tx ∧ q.txd = q'.txd)
    (hr : r'.tx = r.tx ∧ r'.txd = r.txd) : SentOn setting q' r' := by
  unfold SentOn
  rw [hr.1, hr.2, ← hq.1, ← hq.2]
  exact h

/-- What an event has done to the line: what has begun of a frame keeps its setting, and nothing more of it begins unless
the parity changes (R2, R19). -/
theorem Acted.sentOn {s t : State} (h : Acted s t) (p : PortId) :
    SentOn s.parity (s.port p) (t.port p) ∧ (t.parity = s.parity → (t.port p).txd = (s.port p).txd) := by
  obtain ⟨m, v, before, after⟩ := h
  constructor
  · rw [← before.parity]
    exact (sentOn_setParity v m p).congr (before.line p) (after.line p)
  · intro e
    have hv : v = m.parity := by
      rw [before.parity, ← e, after.parity, setParity_parity]
    subst hv
    rw [setParity_same] at after
    exact (after.line p).2.trans (before.line p).2

theorem Acted.rest {s t : State} (h : Acted s t) :
    (t.pending = s.pending ∧ t.resetHeld = s.resetHeld ∧ t.clock = s.clock ∧ t.ownAddress = s.ownAddress) ∧
    (ReportsOk s → ReportsOk t) ∧ (QueuesOk s → QueuesOk t) ∧ (PortRatesOk s → PortRatesOk t) := by
  obtain ⟨m, v, before, after⟩ := h
  obtain ⟨⟨hp, hh, hc, ha⟩, hr, hq, hrates⟩ := setParity_keeps v m
  exact ⟨⟨after.pending.trans (hp.trans before.pending), after.resetHeld.trans (hh.trans before.resetHeld),
    after.clock.trans (hc.trans before.clock), after.ownAddress.trans (ha.trans before.ownAddress)⟩,
    fun g => after.reportsOk (hr (before.reportsOk g)), fun g => after.queuesOk (hq (before.queuesOk g)),
    fun g => after.ratesOk (hrates (before.ratesOk g))⟩

/-! ## Management requests (chapters 9 and 10) -/

theorem quiet_openLoad (id : TableId) (start expected : Nat) (p : PortId) (s : State) :
    Quiet s (openLoad id start expected p s) :=
  ((quiet_configure s _ _ s.mode s.disabled s.observe).trans (works_suspendScope _).quiet).trans (quiet_updateMode _)

theorem acted_closeLoad (id : TableId) (s : State) : Acted s (closeLoad id s) :=
  ((acted_setParity _ s).trans_quiet ((quiet_configure _ _ _ _ _ _).trans (quiet_updateMode _))).trans_quiet
    (works_recomputeAndEvaluate _).quiet

theorem acted_abandonLoad (id : TableId) (s : State) : Acted s (abandonLoad id s) :=
  (acted_setParity _ s).trans_quiet ((quiet_configure _ _ _ _ _ _).trans (quiet_updateMode _))

/-- A port's calls dropped. -/
theorem quiet_withoutCalls (s : State) :
    Quiet s { s with west := s.west.withoutCalls, east := s.east.withoutCalls, reports := [] } where
  pending := rfl
  resetHeld := rfl
  clock := rfl
  ownAddress := rfl
  parity := rfl
  line p := by cases p <;> exact ⟨rfl, rfl⟩
  reportsOk _ := ⟨by simp, by simp [reportCapacity]⟩
  queuesOk h := ⟨h.1.of_sub h.1.1 List.nodup_nil (fun c hc => nomatch hc) rfl,
    h.2.of_sub h.2.1 List.nodup_nil (fun c hc => nomatch hc) rfl⟩
  ratesOk h p := by cases p; exacts [h .west, h .east]

theorem works_recomputeSilently (k : SignalId) (s : State) : Works s (recomputeSilently k s) := works_setCtx k _ s

theorem acted_corridorReset (s : State) : Acted s (corridorReset s) := by
  have abandoned : Acted s (abandonOpenLoad s) := by
    unfold abandonOpenLoad
    split
    · exact (Quiet.refl s).acted
    · exact acted_abandonLoad _ s
  exact ((abandoned.trans_quiet (works_hold _ _ _ _).quiet).trans_quiet
    (works_foldl _ (fun u k => works_recomputeSilently k u) allSignals _).quiet).trans_quiet (quiet_withoutCalls _)

/-- A request with a fixed LEN: what holds of its refusal for another LEN and of its effect holds of it (R174). -/
theorem needLength_cases {P : State × Answer → Prop} (kind : Byte) (n : Nat) (payload : List Byte)
    (act : State → State × Answer) (s : State) (wrong : P (s, refuseWith kind .badLength)) (right : P (act s)) :
    P (needLength kind n payload act s) := by
  unfold needLength
  split
  · exact right
  · exact wrong

/-- The form of the requests with a fixed LEN: what holds of their effect holds of the request. -/
theorem acted_needLength (kind : Byte) (n : Nat) (payload : List Byte) (act : State → State × Answer) (s : State)
    (h : Acted s (act s).1) : Acted s (needLength kind n payload act s).1 :=
  needLength_cases (P := fun x => Acted s x.1) kind n payload act s (Quiet.refl s).acted h

theorem acted_actReadReports (payload : List Byte) (s : State) : Acted s (actReadReports payload s).1 := by
  refine acted_needLength _ _ _ _ _ ?_
  dsimp only
  split
  · exact (Quiet.refl s).acted
  · exact (quiet_dropReports s _).acted

theorem quiet_actDisable (code : Byte) (b : Bool) (signal : Byte) (s : State) :
    Quiet s (actDisable code b signal s).1 := by
  unfold actDisable
  split
  · exact Quiet.refl s
  · dsimp only
    split
    · exact Quiet.refl s
    · exact ((quiet_configure s s.load s.validity s.mode _ s.observe).trans (works_recompute _ _).quiet).trans
        (works_evaluate _ _).quiet

theorem quiet_setObserve (s : State) (b : Bool) : Quiet s { s with observe := b } :=
  quiet_configure s s.load s.validity s.mode s.disabled b

theorem quiet_actObserveOn (s : State) : Quiet s (actObserveOn s).1 := by
  unfold actObserveOn
  dsimp only
  split
  · exact Quiet.refl s
  · exact ((works_cancelAll s).quiet.trans (quiet_setObserve _ _)).trans (works_evaluateAll _ _).quiet

theorem quiet_actObserveOff (s : State) : Quiet s (actObserveOff s).1 := by
  unfold actObserveOff
  dsimp only
  split
  · exact (quiet_setObserve s _).trans (works_evaluateAll _ _).quiet
  · exact Quiet.refl s

theorem acted_actControl (payload : List Byte) (s : State) : Acted s (actControl payload s).1 := by
  refine acted_needLength _ _ _ _ _ ?_
  dsimp only
  split
  · exact (quiet_actDisable _ _ _ s).acted
  · split
    · exact (quiet_actDisable _ _ _ s).acted
    · split
      · exact (quiet_actObserveOn s).acted
      · split
        · exact (quiet_actObserveOff s).acted
        · split
          · exact acted_corridorReset s
          · exact (Quiet.refl s).acted

theorem acted_actTableOpen (p : PortId) (payload : List Byte) (s : State) : Acted s (actTableOpen p payload s).1 := by
  refine acted_needLength _ _ _ _ _ ?_
  dsimp only
  split
  · exact (Quiet.refl s).acted
  · split
    · exact (Quiet.refl s).acted
    · split
      · exact (Quiet.refl s).acted
      · exact (quiet_openLoad _ _ _ p s).acted

theorem acted_actTableWrite (p : PortId) (payload : List Byte) (s : State) :
    Acted s (actTableWrite p payload s).1 := by
  unfold actTableWrite
  split
  · exact (Quiet.refl s).acted
  · split
    · exact (Quiet.refl s).acted
    · split
      · exact (Quiet.refl s).acted
      · exact (quiet_assemble _ _ s).acted

theorem acted_actTableSeek (p : PortId) (payload : List Byte) (s : State) : Acted s (actTableSeek p payload s).1 := by
  refine acted_needLength _ _ _ _ _ ?_
  split
  · exact (Quiet.refl s).acted
  · dsimp only
    split
    · exact (Quiet.refl s).acted
    · exact (quiet_setLoad s _).acted

theorem acted_actTableClose (p : PortId) (payload : List Byte) (s : State) :
    Acted s (actTableClose p payload s).1 := by
  refine acted_needLength _ _ _ _ _ ?_
  split
  · exact (Quiet.refl s).acted
  · split
    · exact (Quiet.refl s).acted
    · split
      · exact (Quiet.refl s).acted
      · split
        · exact (Quiet.refl s).acted
        · dsimp only
          exact acted_closeLoad _ s

theorem acted_actTableAbandon (payload : List Byte) (s : State) : Acted s (actTableAbandon payload s).1 := by
  refine acted_needLength _ _ _ _ _ ?_
  split
  · exact (Quiet.refl s).acted
  · dsimp only
    exact (acted_abandonLoad _ s).trans_quiet (works_recomputeAndEvaluate _).quiet

end Sys2Proof.Machine
end

section
/-! SUPPORT. One effect per command, and what a command and a step can do: the resets, the hold under RESETn, and otherwise
the command's effect followed by the end of the event. -/

namespace Sys2Proof.Machine

/-! ## Commands and their effects -/

/-- POWER_ON, RESETN_ASSERT and RESETN_RELEASE (R20). -/
def isReset : Instr → Bool
  | .powerOn _ => true
  | .resetnAssert => true
  | .resetnRelease _ => true
  | _ => false

theorem isReset_eq_false {c : Instr} (hp : ∀ v, c ≠ .powerOn v) (ha : c ≠ .resetnAssert)
    (hr : ∀ v, c ≠ .resetnRelease v) : isReset c = false := by
  unfold isReset
  split
  · next v => exact absurd rfl (hp v)
  · exact absurd rfl ha
  · next v => exact absurd rfl (hr v)
  · rfl

/-- What a frame handed to a block brings: nothing on a LEARNING port (R3) or in NO-ADDRESS (R9). -/
def handedOver (p : PortId) (f : State → State) (s : State) : State :=
  if (s.port p).state = .running then if s.ownAddress.isNone then s else f s else s

theorem onHandOver_eq (p : PortId) (f : State → State) (s : State) : onHandOver p f s = event (handedOver p f) s := rfl

/-- The effect of a command that is neither a reset nor a management request, before the end of its event. -/
def ownEffect : Instr → State → State
  | .cleanSyncLearned p seen => takeCleanSync p seen
  | .frameEndingGap p idleBefore chars => takeEndingGap p idleBefore chars
  | .returnToLearning p => returnToLearning p
  | .busReport p report => handedOver p (takeBusReport report)
  | .signalStatus p src status => handedOver p (handStatus p src status)
  | .freshnessExpiry k => takeFreshnessExpiry k
  | .horizonEntry i => takeHorizonEntry i
  | .ageExpiry i => takeAgeExpiry i
  | .projectionExpiry i => takeProjectionExpiry i
  | .refreshExpiry k => takeRefreshExpiry k
  | .transmitGapEnd p => takeGapEnd p
  | _ => id

/-- The effect of a management request, before the end of its event (R12). -/
def requestEffect (r : Request) : State → State :=
  handedOver r.port (answerRequest r.port r.src (actRequest r.port r.kind r.payload))

/-- The effect of a command that is no reset, before the end of its event. -/
def effect (c : Instr) : State → State :=
  match requestOf c with
  | some r => requestEffect r
  | none => ownEffect c

theorem effect_request {c : Instr} {r : Request} (h : requestOf c = some r) : effect c = requestEffect r := by
  simp [effect, h]

theorem effect_own {c : Instr} (h : requestOf c = none) : effect c = ownEffect c := by
  simp [effect, h]

/-- CONTROL with a subcommand's code is the subcommand (R178). -/
theorem actControl_disable (k : Byte) : actControl [1, k] = actDisable 1 true k := by
  funext s; rfl
theorem actControl_enable (k : Byte) : actControl [2, k] = actDisable 2 false k := by
  funext s; rfl
theorem actControl_observeOn (k : Byte) : actControl [3, k] = actObserveOn := by
  funext s; rfl
theorem actControl_observeOff (k : Byte) : actControl [4, k] = actObserveOff := by
  funext s; rfl
theorem actControl_corridorReset (k : Byte) : actControl [5, k] = actCorridorReset := by
  funext s; rfl

/-- A KIND from 0x6B to 0x6F is refused with BAD_KIND (R174). -/
theorem actRequest_badKind (p : PortId) (code : Fin 5) (payload : List Byte) (s : State) :
    actRequest p (byteOf (0x6B + code.val)) payload s = (s, refuseWith (byteOf (0x6B + code.val)) .badKind) := by
  fin_cases code <;> rfl

/-- A management request is acted on by its KIND (R12, R183). -/
theorem exec_request {c : Instr} {r : Request} (h : requestOf c = some r) (s : State) :
    exec c s = .next (requestEvent r.port r.src (actRequest r.port r.kind r.payload) s) := by
  cases c
  case badKind p src code =>
    cases h
    have e : actRequest p (byteOf (0x6B + code.val)) [] =
        fun t => (t, refuseWith (byteOf (0x6B + code.val)) .badKind) :=
      funext (actRequest_badKind p code [])
    dsimp only
    rw [e]
    rfl
  all_goals cases h
  all_goals rfl

/-- A command that is no reset is one event with its effect. -/
theorem exec_event {c : Instr} (h : isReset c = false) (s : State) : exec c s = .next (event (effect c) s) := by
  cases hr : requestOf c with
  | some r => rw [exec_request hr, effect_request hr]; rfl
  | none =>
    rw [effect_own hr]
    cases c
    case powerOn | resetnAssert | resetnRelease => cases h
    all_goals first | rfl | cases hr

/-- What a command can do: a reset, nothing under RESETn, or its effect and the end of the event (R20). -/
theorem exec_cases {c : Instr} {s t : State} (h : exec c s = .next t) :
    (∃ v, c = .powerOn v ∧ t = powerOn v s) ∨ (c = .resetnAssert ∧ t = assertReset s) ∨
      (∃ v, c = .resetnRelease v ∧ t = releaseReset v s) ∨
      (isReset c = false ∧ s.resetHeld = true ∧ t = s) ∨
      (isReset c = false ∧ s.resetHeld = false ∧ t = finish (effect c s)) := by
  cases hc : isReset c with
  | false =>
    rw [exec_event hc] at h
    cases h
    cases hh : s.resetHeld with
    | true => exact .inr (.inr (.inr (.inl ⟨rfl, rfl, event_held _ s hh⟩)))
    | false => exact .inr (.inr (.inr (.inr ⟨rfl, rfl, event_run _ s hh⟩)))
  | true =>
    cases c
    case powerOn v => cases h; exact .inl ⟨v, rfl, rfl⟩
    case resetnAssert => cases h; exact .inr (.inl ⟨rfl, rfl⟩)
    case resetnRelease v => cases h; exact .inr (.inr (.inl ⟨v, rfl, rfl⟩))
    all_goals cases hc

/-- The values after a reset, with a level of the RESETn pin and an own address. -/
def afterReset (s : State) (held : Bool) (own : Option (BitVec 6)) : State :=
  { resetValues s with resetHeld := held, ownAddress := own }

/-- A property of the state that every reset establishes and every effect with the end of its event keeps is kept by every
command. -/
theorem exec_keeps {P : State → Prop} (hreset : ∀ s held own, P (afterReset s held own))
    (hevent : ∀ c s, isReset c = false → s.resetHeld = false → P s → P (finish (effect c s)))
    {c : Instr} {s t : State} (hs : P s) (h : exec c s = .next t) : P t := by
  rcases exec_cases h with ⟨v, -, rfl⟩ | ⟨-, rfl⟩ | ⟨v, -, rfl⟩ | ⟨-, -, rfl⟩ | ⟨hc, hh, rfl⟩
  · exact hreset s s.resetHeld (addressOf v)
  · exact hreset s true s.ownAddress
  · unfold releaseReset
    split
    · exact hreset s false (addressOf v)
    · exact hs
  · exact hs
  · exact hevent c s hc hh hs

/-- A property of the state that does not read the queue of commands, the clock or the count of free choices, and that every
command keeps, is kept by every step. -/
theorem step_keeps {P : State → Prop} (hpending : ∀ s l, P s → P { s with pending := l })
    (hclock : ∀ s x, P s → P { s with clock := x }) (hfree : ∀ s n, P s → P { s with freeCount := n })
    (hexec : ∀ c s t, P s → exec c s = .next t → P t) {s t : State} (hs : P s) (h : step s = .next t) : P t := by
  rcases step_cases s with ⟨c, rest, -, e⟩ | ⟨-, -, e⟩ | ⟨-, -, -, e⟩ | ⟨c, -, -, -, e⟩ <;> rw [e] at h
  · exact hexec c _ t (hpending s rest hs) h
  · cases h; exact hs
  · cases h; exact hclock s _ hs
  · exact hexec c _ t (hfree s _ hs) h

/-! ## What an effect leaves of the line -/

/-- A request with a fixed LEN whose effect is no change changes nothing (R174). -/
theorem needLength_query (kind : Byte) (n : Nat) (payload : List Byte) (act : State → State × Answer) (s : State)
    (h : (act s).1 = s) : (needLength kind n payload act s).1 = s :=
  needLength_cases (P := fun x => x.1 = s) kind n payload act s rfl h

theorem actQueryStatus_state (payload : List Byte) (s : State) : (actQueryStatus payload s).1 = s :=
  needLength_query _ _ _ _ s rfl

theorem actQuerySignal_state (payload : List Byte) (s : State) : (actQuerySignal payload s).1 = s := by
  refine needLength_query _ _ _ _ s ?_
  split <;> rfl

theorem actQueryRequests_state (payload : List Byte) (s : State) : (actQueryRequests payload s).1 = s := by
  refine needLength_query _ _ _ _ s ?_
  split <;> rfl

theorem actTableRead_state (payload : List Byte) (s : State) : (actTableRead payload s).1 = s := by
  refine needLength_query _ _ _ _ s ?_
  dsimp only
  split
  · rfl
  · split <;> rfl

/-- The requests by their KIND: what holds of each of them, and of the refusal of a KIND without a meaning, holds of
every request (R12, R183). -/
theorem actRequest_cases {P : Byte → State × Answer → Prop} (p : PortId) (kind : Byte) (payload : List Byte) (s : State)
    (queryStatus : P 0x60 (actQueryStatus payload s)) (querySignal : P 0x61 (actQuerySignal payload s))
    (queryRequests : P 0x62 (actQueryRequests payload s)) (readReports : P 0x63 (actReadReports payload s))
    (control : P 0x64 (actControl payload s)) (tableOpen : P 0x65 (actTableOpen p payload s))
    (tableWrite : P 0x66 (actTableWrite p payload s)) (tableSeek : P 0x67 (actTableSeek p payload s))
    (tableClose : P 0x68 (actTableClose p payload s)) (tableAbandon : P 0x69 (actTableAbandon payload s))
    (tableRead : P 0x6A (actTableRead payload s))
    (badKind : requiredLength kind = none → P kind (s, refuseWith kind .badKind)) :
    P kind (actRequest p kind payload s) := by
  have pick {a : Byte} {x y : State × Answer} (hx : P a x) (hy : kind ≠ a → P kind y) :
      P kind (if kind = a then x else y) := by
    split
    · next h => exact h ▸ hx
    · next h => exact hy h
  exact pick queryStatus fun n0 => pick querySignal fun n1 => pick queryRequests fun n2 => pick readReports fun n3 =>
    pick control fun n4 => pick tableOpen fun n5 => pick tableWrite fun _ => pick tableSeek fun n7 =>
    pick tableClose fun n8 => pick tableAbandon fun n9 => pick tableRead fun n10 =>
    badKind (by
      rw [requiredLength, if_neg n0, if_neg n1, if_neg n2, if_neg n3, if_neg n4, if_neg n5, if_neg n7, if_neg n8,
        if_neg n9, if_neg n10])

theorem acted_actRequest (p : PortId) (kind : Byte) (payload : List Byte) (s : State) :
    Acted s (actRequest p kind payload s).1 := by
  have unchanged {t : State} (e : t = s) : Acted s t := by
    rw [e]
    exact (Quiet.refl s).acted
  exact actRequest_cases (P := fun _ x => Acted s x.1) p kind payload s (unchanged (actQueryStatus_state payload s))
    (unchanged (actQuerySignal_state payload s)) (unchanged (actQueryRequests_state payload s))
    (acted_actReadReports payload s) (acted_actControl payload s) (acted_actTableOpen p payload s)
    (acted_actTableWrite p payload s) (acted_actTableSeek p payload s) (acted_actTableClose p payload s)
    (acted_actTableAbandon payload s) (unchanged (actTableRead_state payload s)) fun _ => unchanged rfl

theorem acted_answerRequest (p : PortId) (src kind : Byte) (payload : List Byte) (s : State) :
    Acted s (answerRequest p src (actRequest p kind payload) s) := by
  unfold answerRequest
  split
  · exact (Quiet.refl s).acted
  · exact (acted_actRequest p kind payload s).trans_quiet (quiet_placeReply p src _ _)

theorem acted_handedOver (p : PortId) (f : State → State) (s : State) (h : Acted s (f s)) :
    Acted s (handedOver p f s) := by
  unfold handedOver
  split
  · split
    · exact (Quiet.refl s).acted
    · exact h
  · exact (Quiet.refl s).acted

theorem acted_handToBlock (p : PortId) (f : Frame) (s : State) : Acted s (handToBlock p f s) := by
  unfold handToBlock
  split
  · split
    · exact (works_takeBusReport _ s).quiet.acted
    · exact (Quiet.refl s).acted
  · split
    · split
      · exact (works_handStatus p _ _ s).quiet.acted
      · exact (Quiet.refl s).acted
    · exact acted_answerRequest p _ _ _ s

theorem acted_dispatchFrame (p : PortId) (f : Frame) (s : State) : Acted s (dispatchFrame p f s) := by
  unfold dispatchFrame
  split
  · exact (quiet_repeatFrame p _ s).acted
  · split
    · exact (quiet_repeatFrame p _ s).acted
    · exact (quiet_repeatFrame p _ s).trans_acted (acted_handToBlock p f _)
    · exact acted_handToBlock p f s

theorem quiet_learnRate (p : PortId) (r : Rate) (s : State) : Quiet s (learnRate p r s) :=
  (quiet_setPort p ((s.port p).enterRunning r) s rfl rfl rfl id fun _ =>
    ⟨fun _ => ⟨rfl, rfl⟩, fun h => nomatch h⟩).trans
    (works_writeReport _ _).quiet

theorem quiet_takeCleanSync (p : PortId) (seen : List (Rate × LineChar)) (s : State) :
    Quiet s (takeCleanSync p seen s) := by
  unfold takeCleanSync
  split
  · split
    · exact Quiet.refl s
    · exact quiet_learnRate p _ s
  · exact Quiet.refl s

theorem quiet_returnToLearning (p : PortId) (s : State) : Quiet s (returnToLearning p s) := by
  unfold returnToLearning
  split
  · exact (quiet_setPort p (s.port p).enterLearning s rfl rfl rfl id fun h =>
      ⟨fun g => (nomatch g), h.2⟩).trans
      (works_writeReport _ _).quiet
  · exact Quiet.refl s

theorem acted_takeEndingGap (p : PortId) (idleBefore : Bool) (chars : List LineChar) (s : State) :
    Acted s (takeEndingGap p idleBefore chars s) := by
  have marked (b : Bool) : Quiet s (s.setPort p { s.port p with awaitingIdle := b }) :=
    quiet_setPort p _ s rfl rfl rfl id id
  unfold takeEndingGap
  dsimp only
  split
  · exact (Quiet.refl s).acted
  · split
    · exact (marked false).acted
    · split
      · exact (marked false).acted
      · unfold judgeFrame
        dsimp only
        split
        · refine Quiet.trans_acted ?_ (acted_dispatchFrame p _ _)
          exact quiet_setPort p _ s rfl rfl rfl id id
        · refine (Quiet.trans ?_ (quiet_returnToLearning p _)).acted
          exact quiet_setPort p _ s rfl rfl rfl id id

/-- Every effect but the end of a transmit gap leaves the frames in flight, but for what a change of parity sends on. -/
theorem acted_effect {c : Instr} (h : ∀ p, c ≠ .transmitGapEnd p) (s : State) : Acted s (effect c s) := by
  cases hr : requestOf c with
  | some r =>
    rw [effect_request hr]
    exact acted_handedOver _ _ s (acted_answerRequest _ _ _ _ s)
  | none =>
    rw [effect_own hr]
    cases c
    case cleanSyncLearned p seen => exact (quiet_takeCleanSync p seen s).acted
    case frameEndingGap p b l => exact acted_takeEndingGap p b l s
    case returnToLearning p => exact (quiet_returnToLearning p s).acted
    case busReport p r => exact acted_handedOver p _ s (works_takeBusReport r s).quiet.acted
    case signalStatus p src f => exact acted_handedOver p _ s (works_handStatus p src f s).quiet.acted
    case freshnessExpiry k => exact (works_takeFreshnessExpiry k s).quiet.acted
    case horizonEntry i => exact (works_takeHorizonEntry i s).quiet.acted
    case ageExpiry i => exact (works_takeAgeExpiry i s).quiet.acted
    case projectionExpiry i => exact (works_takeProjectionExpiry i s).quiet.acted
    case refreshExpiry k => exact (works_takeRefreshExpiry k s).quiet.acted
    case transmitGapEnd p => exact absurd rfl (h p)
    all_goals exact (Quiet.refl s).acted

/-- The end of a transmit gap changes one port's transmitter, and nothing else of the ports (R18). -/
theorem takeGapEnd_port (p r : PortId) (s : State) :
    (takeGapEnd p s).port r = if r = p then (s.port p).endFrame s.parity else s.port r := by
  unfold takeGapEnd
  split
  · next h => subst h; exact State.port_setPort_self _ _ _
  · next h => exact State.port_setPort_ne _ _ h

/-- The end of a transmit gap makes the transmitter idle and leaves the port but for what TXD has carried (R18, R19). -/
theorem Port.endFrame_rest (q : Port) (setting : Parity) :
    q.endFrame setting = { q with tx := none, txd := (q.endFrame setting).txd } := by
  cases h : q.tx with
  | some f => rw [Port.endFrame_eq _ _ f h]
  | none =>
    cases q
    cases h
    rfl

/-! ## The end of an event and the bounds of the queues -/

/-- An arbiter takes from the head of a queue (R18). -/
theorem transmit_queues (q : Port) (setting : Parity) (src : Byte) :
    (q.transmit setting src).callQueue <:+ q.callQueue ∧ (q.transmit setting src).repeatQueue <:+ q.repeatQueue := by
  have self : q.callQueue <:+ q.callQueue ∧ q.repeatQueue <:+ q.repeatQueue :=
    ⟨List.suffix_refl _, List.suffix_refl _⟩
  unfold Port.transmit
  split
  · split
    · next h =>
      rw [Port.beginFrame_eq]
      unfold Port.nextFrame at h
      split at h <;> cases h
      · next hc => exact ⟨hc ▸ List.suffix_cons _ _, self.2⟩
      · next hr => exact ⟨self.1, hr ▸ List.suffix_cons _ _⟩
      · exact self
    · exact self
  · exact self

theorem queuesOk_finish (s : State) (h : QueuesOk s) : QueuesOk (finish s) := by
  rw [queuesOk_iff] at h ⊢
  intro p
  obtain ⟨hlen, hnd, -⟩ := h p
  obtain ⟨hc, hr⟩ := transmit_queues (s.port p) s.parity s.srcByte
  refine (h p).of_sub ?_ ?_ ?_ rfl <;> rw [finish_port]
  · exact hr.length_le.trans hlen
  · exact hnd.sublist (hc.sublist.map _)
  · exact fun c hm => hc.mem hm

theorem reportsOk_finish (s : State) (h : ReportsOk s) : ReportsOk (finish s) := h.congr rfl

theorem ratesOk_finish (s : State) (h : PortRatesOk s) : PortRatesOk (finish s) := by
  intro p
  rw [finish_port]
  have g := (s.port p).transmit_keeps s.parity s.srcByte
  exact Port.RateOk.congr (h p) g.state g.rate g.hasRun

/-- An arbiter leaves nothing waiting at a transmitter that stays idle on a RUNNING port (R18). -/
theorem transmit_idle (q : Port) (setting : Parity) (src : Byte) (hrate : q.RateOk)
    (hrun : (q.transmit setting src).state = .running) (hidle : (q.transmit setting src).tx = none) :
    (q.transmit setting src).callQueue = [] ∧ (q.transmit setting src).repeatQueue = [] ∧
      (q.transmit setting src).reply = none := by
  have hstate : q.state = .running := (q.transmit_keeps setting src).state ▸ hrun
  obtain ⟨r, hr⟩ := Option.isSome_iff_exists.1 (hrate.1 hstate).1
  cases htx : q.tx with
  | some f =>
    rw [Port.transmit_busy _ _ _ (.inl (by simp [htx]))] at hidle
    simp [htx] at hidle
  | none =>
    unfold Port.transmit at hidle ⊢
    simp only [hstate, hr, htx] at hidle ⊢
    cases hn : q.nextFrame src with
    | some x =>
      simp [hn, Port.beginFrame_eq] at hidle
    | none =>
      simp only []
      unfold Port.nextFrame at hn
      split at hn
      · cases hn
      · cases hn
      · cases hn
      · next hc hq ha => exact ⟨hc, hq, ha⟩

theorem transmittersOk_finish (s : State) (h : PortRatesOk s) : TransmittersOk (finish s) := by
  intro p hrun hidle
  rw [finish_port] at hrun hidle ⊢
  exact transmit_idle _ _ _ (h p) hrun hidle

/-! ## What TXD carries of a frame (R1, R19) -/

/-- What a port's TXD has carried of its frame in flight is the frame's characters from its first. -/
def Port.LineOk (q : Port) : Prop :=
  ∀ f : TxFrame, q.tx = some f → q.txd.length ≤ f.bytes.length ∧
    ∀ (i : Nat) (bits : List Bool), q.txd[i]? = some bits →
      ∃ (b : Byte) (setting : Parity), f.bytes[i]? = some b ∧ bits = sentBits setting b

theorem lineOk_iff (s : State) : LineOk s ↔ ∀ p, (s.port p).LineOk := Iff.rfl

theorem Port.LineOk.congr {q r : Port} (h : q.LineOk) (htx : r.tx = q.tx) (htxd : r.txd = q.txd) : r.LineOk := by
  unfold Port.LineOk
  rw [htx, htxd]
  exact h

/-- The characters that begin next follow those that TXD has carried (R19). -/
theorem Port.LineOk.sendOn {q : Port} (h : q.LineOk) (setting : Parity) (n : Nat) : (q.sendOn setting n).LineOk := by
  intro f hf
  rw [Port.sendOn_tx] at hf
  obtain ⟨hlen, hchars⟩ := h f hf
  rw [Port.sendOn_txd _ _ _ f hf]
  refine ⟨by simp; omega, fun i bits hi => ?_⟩
  by_cases hold : i < q.txd.length
  · rw [List.getElem?_append_left hold] at hi
    exact hchars i bits hi
  · have hge : q.txd.length ≤ i := Nat.le_of_not_lt hold
    rw [List.getElem?_append_right hge, List.getElem?_map, Option.map_eq_some_iff] at hi
    obtain ⟨b, hb, rfl⟩ := hi
    refine ⟨b, setting, ?_, rfl⟩
    rw [List.getElem?_take] at hb
    split at hb
    · rwa [List.getElem?_drop, Nat.add_sub_cancel' hge] at hb
    · cases hb

/-- A frame that begins has its first character on TXD (R19). -/
theorem lineOk_beginFrame (q : Port) (setting : Parity) (bytes : List Byte) (r : Rate) :
    (q.beginFrame setting bytes r).LineOk :=
  Port.LineOk.sendOn (fun f hf => ⟨by simp, fun i bits hi => by simp at hi⟩) setting 1

theorem lineOk_transmit (q : Port) (setting : Parity) (src : Byte) (h : q.LineOk) : (q.transmit setting src).LineOk := by
  unfold Port.transmit
  split
  · split
    · exact lineOk_beginFrame _ _ _ _
    · exact h
  · exact h

theorem lineOk_finish (s : State) (h : LineOk s) : LineOk (finish s) := by
  rw [lineOk_iff] at h ⊢
  intro p
  rw [finish_port]
  exact lineOk_transmit _ _ _ (h p)

theorem Quiet.lineOk {s t : State} (g : Quiet s t) (h : LineOk s) : LineOk t := by
  rw [lineOk_iff] at h ⊢
  exact fun p => (h p).congr (g.line p).1 (g.line p).2

theorem Acted.lineOk {s t : State} (g : Acted s t) (h : LineOk s) : LineOk t := by
  obtain ⟨m, v, before, after⟩ := g
  refine after.lineOk ?_
  have hm := before.lineOk h
  rw [lineOk_iff] at hm ⊢
  intro p
  obtain ⟨n, e⟩ := setParity_port v m p
  rw [e]
  exact (hm p).sendOn _ n

theorem lineOk_takeGapEnd (p : PortId) (s : State) (h : LineOk s) : LineOk (takeGapEnd p s) := by
  rw [lineOk_iff] at h ⊢
  intro r
  rw [takeGapEnd_port]
  split
  · intro f hf
    rw [Port.endFrame_rest] at hf
    cases hf
  · exact h r

/-- The end of a transmit gap keeps the queues and the rates (R18). -/
theorem takeGapEnd_keeps (p : PortId) (s : State) :
    (ReportsOk s → ReportsOk (takeGapEnd p s)) ∧ (QueuesOk s → QueuesOk (takeGapEnd p s)) ∧
      (PortRatesOk s → PortRatesOk (takeGapEnd p s)) := by
  have same (r : PortId) : ∃ tx txd, (takeGapEnd p s).port r = { s.port r with tx := tx, txd := txd } := by
    rw [takeGapEnd_port]
    split
    · next h =>
      subst h
      exact ⟨none, _, Port.endFrame_rest _ _⟩
    · exact ⟨_, _, rfl⟩
  refine ⟨fun h => h.congr (by simp [takeGapEnd]), fun h => h.congr (fun r => ?_) (by simp [takeGapEnd]), fun h r => ?_⟩
  · obtain ⟨_, _, e⟩ := same r
    rw [e]
    exact ⟨rfl, rfl⟩
  · obtain ⟨_, _, e⟩ := same r
    rw [e]
    exact h r

/-- Every effect keeps the bounds of the queues, the rates with the port states, and what TXD has carried in order. -/
theorem effect_keeps (c : Instr) (s : State) :
    (ReportsOk s → ReportsOk (effect c s)) ∧ (QueuesOk s → QueuesOk (effect c s)) ∧
      (PortRatesOk s → PortRatesOk (effect c s)) ∧ (LineOk s → LineOk (effect c s)) := by
  by_cases hgap : ∃ p, c = .transmitGapEnd p
  · obtain ⟨p, rfl⟩ := hgap
    obtain ⟨hr, hq, hrates⟩ := takeGapEnd_keeps p s
    exact ⟨hr, hq, hrates, lineOk_takeGapEnd p s⟩
  · have acted := acted_effect (fun p e => hgap ⟨p, e⟩) s
    obtain ⟨-, hr, hq, hrates⟩ := acted.rest
    exact ⟨hr, hq, hrates, acted.lineOk⟩

end Sys2Proof.Machine
end

section
/-! The invariants of the queues and of the transmitters. -/

namespace Sys2Proof.Machine

theorem afterReset_port (s : State) (held : Bool) (own : Option (BitVec 6)) (p : PortId) :
    (afterReset s held own).port p = Port.reset := by
  cases p <;> rfl

/-- A command keeps the bounds of the queues (R13, R14, R180). -/
theorem exec_queuesOk {c : Instr} {s t : State} (h : ReportsOk s ∧ QueuesOk s) (e : exec c s = .next t) :
    ReportsOk t ∧ QueuesOk t := by
  refine exec_keeps (P := fun u => ReportsOk u ∧ QueuesOk u) (fun s held own => ?_) (fun c s _ _ h => ?_) h e
  · refine ⟨⟨Nat.zero_le _, fun g => nomatch g⟩, (queuesOk_iff _).2 fun p => ?_⟩
    unfold PortQueuesOk
    rw [afterReset_port]
    exact ⟨Nat.zero_le _, List.nodup_nil, fun c hc => nomatch hc⟩
  · obtain ⟨hr, hq, -⟩ := effect_keeps c s
    exact ⟨reportsOk_finish _ (hr h.1), queuesOk_finish _ (hq h.2)⟩

/-- Settles O48: every command's effect keeps the bounds, and so does the end of its event. -/
theorem queuesStayBounded : Obligations.QueuesStayBounded := by
  intro s t hr hq h
  exact step_keeps (P := fun u => ReportsOk u ∧ QueuesOk u) (fun _ _ => id) (fun _ _ => id) (fun _ _ => id)
    (fun _ _ _ => exec_queuesOk) ⟨hr, hq⟩ h

/-- A command keeps the rates, leaves nothing waiting at an idle transmitter and keeps TXD in order (R4, R18, R19). -/
theorem exec_transmittersOk {c : Instr} {s t : State} (h : PortRatesOk s ∧ TransmittersOk s ∧ LineOk s)
    (e : exec c s = .next t) : PortRatesOk t ∧ TransmittersOk t ∧ LineOk t := by
  refine exec_keeps (P := fun u => PortRatesOk u ∧ TransmittersOk u ∧ LineOk u) (fun s held own => ?_)
    (fun c s _ _ h => ?_) h e
  · refine ⟨fun p => ?_, fun p => ?_, fun p => ?_⟩ <;> rw [afterReset_port]
    · exact ⟨fun g => (nomatch g), fun _ => rfl⟩
    · exact fun g => nomatch g
    · exact fun _ g => nomatch g
  · obtain ⟨hrates, -, hline⟩ := h
    obtain ⟨-, -, keepRates, keepLine⟩ := effect_keeps c s
    exact ⟨ratesOk_finish _ (keepRates hrates), transmittersOk_finish _ (keepRates hrates),
      lineOk_finish _ (keepLine hline)⟩

/-- Settles O59: nothing waits after the arbiters have chosen at the end of an event, and each effect keeps the rest. -/
theorem transmittersStayInOrder : Obligations.TransmittersStayInOrder := by
  intro s t hrates hidle hline h
  exact step_keeps (P := fun u => PortRatesOk u ∧ TransmittersOk u ∧ LineOk u) (fun _ _ => id) (fun _ _ => id)
    (fun _ _ => id) (fun _ _ _ => exec_transmittersOk) ⟨hrates, hidle, hline⟩ h

end Sys2Proof.Machine
end

section
/-! The resets, the idle step, and NO-ADDRESS. -/

namespace Sys2Proof.Machine

/-! ## The resets (R9, R20) -/

/-- Settles O3: each reset command is one assignment of values, and under RESETn every other command is an event. -/
theorem resetCommands : Obligations.ResetCommands := by
  refine ⟨fun _ _ => rfl, fun _ => rfl, fun v s hheld => ?_, fun c s hheld hp ha hr => ?_⟩
  · show Host.Outcome.next (releaseReset v s) = _
    rw [releaseReset, if_pos hheld]
    rfl
  · rw [exec_event (isReset_eq_false hp ha hr), event_held _ s hheld]

/-! ## The idle step (R74) -/

theorem reached_iff (now t : Time) : reached now t = true ↔ 0 ≤ timeDiff now t := by
  simp [reached]

theorem freshnessDue_iff (s : State) (k : SignalId) : freshnessDue s k = true ↔ Due s (.freshnessExpiry k) := by
  unfold freshnessDue Due
  cases h : (s.ctx k).freshness <;> simp [reached_iff, h]

theorem refreshDue_iff (s : State) (k : SignalId) : refreshDue s k = true ↔ Due s (.refreshExpiry k) := by
  unfold refreshDue Due
  cases h : (s.ctx k).refreshTimer <;> simp [reached_iff, h]

theorem horizonDue_iff (s : State) (i : SlotId) : slotMeets s horizonDue i = true ↔ Due s (.horizonEntry i) := by
  unfold slotMeets horizonDue Due
  cases hr : s.record i with
  | none => simp [hr]
  | some r => cases h : r.horizonEntry <;> simp [reached_iff, hr, h]

theorem ageDue_iff (s : State) (i : SlotId) : slotMeets s ageDue i = true ↔ Due s (.ageExpiry i) := by
  unfold slotMeets ageDue Due
  cases hr : s.record i <;> simp [reached_iff, hr]

theorem projectionDue_iff (s : State) (i : SlotId) :
    slotMeets s projectionDue i = true ↔ Due s (.projectionExpiry i) := by
  unfold slotMeets projectionDue Due
  cases hr : s.record i with
  | none => simp [hr]
  | some r => cases h : r.projectionExpiry <;> simp [reached_iff, hr, h]

/-- The timer events listed are those whose time has been reached (R74). -/
theorem mem_dueEvents_iff (s : State) (c : Instr) : c ∈ dueEvents s ↔ Due s c := by
  constructor
  · intro h
    rcases mem_dueEvents s c h with ⟨k, rfl, g⟩ | ⟨i, rfl, g⟩ | ⟨i, rfl, g⟩ | ⟨i, rfl, g⟩ | ⟨k, rfl, g⟩
    · exact (freshnessDue_iff s k).1 g
    · exact (horizonDue_iff s i).1 g
    · exact (ageDue_iff s i).1 g
    · exact (projectionDue_iff s i).1 g
    · exact (refreshDue_iff s k).1 g
  · intro h
    simp only [dueEvents, List.mem_append, List.mem_map, List.mem_filter, allSignals, allSlots, List.mem_finRange,
      true_and]
    cases c
    case freshnessExpiry k => exact .inl (.inl (.inl (.inl ⟨k, (freshnessDue_iff s k).2 h, rfl⟩)))
    case horizonEntry i => exact .inl (.inl (.inl (.inr ⟨i, (horizonDue_iff s i).2 h, rfl⟩)))
    case ageExpiry i => exact .inl (.inl (.inr ⟨i, (ageDue_iff s i).2 h, rfl⟩))
    case projectionExpiry i => exact .inl (.inr ⟨i, (projectionDue_iff s i).2 h, rfl⟩)
    case refreshExpiry k => exact .inr ⟨k, (refreshDue_iff s k).2 h, rfl⟩
    all_goals exact h.elim

/-- Settles O2: of the four kinds of step, those without a command waiting. -/
theorem idleStep : Obligations.IdleStep := by
  intro s hempty
  rcases step_cases s with ⟨c, rest, hpending, -⟩ | ⟨-, hheld, e⟩ | ⟨-, hrun, hnone, e⟩ | ⟨c, hdue, -, hrun, e⟩
  · simp [hempty] at hpending
  · exact ⟨fun _ => e, fun h => by simp [hheld] at h, fun h => by simp [hheld] at h⟩
  · refine ⟨fun h => by simp [hrun] at h, fun _ _ => e, fun _ ⟨c, hc⟩ => ?_⟩
    simpa [hnone] using (mem_dueEvents_iff s c).2 hc
  · have due := (mem_dueEvents_iff s c).1 hdue
    exact ⟨fun h => by simp [hrun] at h, fun _ h => absurd due (h c), fun _ _ => ⟨c, due, e⟩⟩

/-! ## NO-ADDRESS (R9) -/

/-- From s to t only the link has changed: receivers, repeat queues, transmitters and reports. -/
structure LinkOnly (s t : State) : Prop where
  validity : t.validity = s.validity
  load : t.load = s.load
  mode : t.mode = s.mode
  ctxs : t.ctxs = s.ctxs
  slots : t.slots = s.slots
  port : ∀ p, (t.port p).callQueue = (s.port p).callQueue ∧ (t.port p).reply = (s.port p).reply

theorem LinkOnly.refl (s : State) : LinkOnly s s := ⟨rfl, rfl, rfl, rfl, rfl, fun _ => ⟨rfl, rfl⟩⟩

theorem LinkOnly.trans {s t u : State} (h : LinkOnly s t) (g : LinkOnly t u) : LinkOnly s u where
  validity := g.validity.trans h.validity
  load := g.load.trans h.load
  mode := g.mode.trans h.mode
  ctxs := g.ctxs.trans h.ctxs
  slots := g.slots.trans h.slots
  port p := ⟨(g.port p).1.trans (h.port p).1, (g.port p).2.trans (h.port p).2⟩

theorem linkOnly_setPort (p : PortId) (q : Port) (s : State) (hc : q.callQueue = (s.port p).callQueue)
    (hr : q.reply = (s.port p).reply) : LinkOnly s (s.setPort p q) := by
  refine ⟨by simp, by simp, by simp, by simp, by simp, fun r => ?_⟩
  by_cases e : r = p
  · subst e
    simp [hc, hr]
  · simp [State.port_setPort_ne _ _ e]

theorem linkOnly_writeReport (b : ReportBody) (s : State) : LinkOnly s (writeReport b s) := by
  constructor <;> simp

theorem linkOnly_repeatFrame (p : PortId) (frame : List Byte) (s : State) : LinkOnly s (repeatFrame p frame s) := by
  have e := offerRepeat_rest (s.port p.opposite) frame
  exact linkOnly_setPort _ _ s (by rw [e]) (by rw [e])

theorem linkOnly_takeCleanSync (p : PortId) (seen : List (Rate × LineChar)) (s : State) :
    LinkOnly s (takeCleanSync p seen s) := by
  unfold takeCleanSync
  split
  · split
    · exact LinkOnly.refl s
    · next r _ =>
      exact (linkOnly_setPort p ((s.port p).enterRunning r) s rfl rfl).trans (linkOnly_writeReport _ _)
  · exact LinkOnly.refl s

theorem linkOnly_returnToLearning (p : PortId) (s : State) : LinkOnly s (returnToLearning p s) := by
  unfold returnToLearning
  split
  · exact (linkOnly_setPort p (s.port p).enterLearning s rfl rfl).trans (linkOnly_writeReport _ _)
  · exact LinkOnly.refl s

theorem linkOnly_takeGapEnd (p : PortId) (s : State) : LinkOnly s (takeGapEnd p s) := by
  have e := (s.port p).endFrame_rest s.parity
  exact linkOnly_setPort p _ s (by rw [e]) (by rw [e])

/-- In NO-ADDRESS an ending gap repeats a frame, and hands none to a block (R9). -/
theorem linkOnly_takeEndingGap (p : PortId) (idleBefore : Bool) (chars : List LineChar) (s : State)
    (h : s.ownAddress = none) : LinkOnly s (takeEndingGap p idleBefore chars s) := by
  unfold takeEndingGap
  dsimp only
  split
  · exact LinkOnly.refl s
  · split
    · exact linkOnly_setPort p _ s rfl rfl
    · split
      · exact linkOnly_setPort p _ s rfl rfl
      · unfold judgeFrame
        dsimp only
        split
        · next f _ =>
          rw [dispatchFrame, if_pos (by simp [h])]
          refine LinkOnly.trans ?_ (linkOnly_repeatFrame p f.raw _)
          exact linkOnly_setPort p _ s rfl rfl
        · refine LinkOnly.trans ?_ (linkOnly_returnToLearning p _)
          exact linkOnly_setPort p _ s rfl rfl

theorem handedOver_noAddress (p : PortId) (f : State → State) (s : State) (h : s.ownAddress = none) :
    handedOver p f s = s := by
  simp [handedOver, h]

/-- A state that originates nothing: no table VALID, no load, no record, contexts at reset, nothing of its own waiting. -/
structure Silent (s : State) : Prop where
  validity : s.validity = .reset
  load : s.load = none
  mode : s.mode = .unconfigured
  ctx : ∀ k : SignalId, s.ctx k = .reset
  records : s.records = []
  port : ∀ p : PortId, (s.port p).callQueue = [] ∧ (s.port p).reply = none

theorem noAddressOk_iff (s : State) : NoAddressOk s ↔ (s.ownAddress = none → Silent s) := by
  constructor
  · intro h own
    obtain ⟨hv, hl, hm, hc, hr, hp⟩ := h own
    exact ⟨hv, hl, hm, hc, hr, hp⟩
  · intro h own
    exact ⟨(h own).validity, (h own).load, (h own).mode, (h own).ctx, (h own).records, (h own).port⟩

theorem Silent.linkOnly {s t : State} (h : Silent s) (g : LinkOnly s t) : Silent t where
  validity := g.validity.trans h.validity
  load := g.load.trans h.load
  mode := g.mode.trans h.mode
  ctx k := by rw [State.ctx, g.ctxs]; exact h.ctx k
  records := (State.records_congr g.slots).trans h.records
  port p := ⟨(g.port p).1.trans (h.port p).1, (g.port p).2.trans (h.port p).2⟩

/-- A silent state holds no record. -/
theorem Silent.record {s : State} (h : Silent s) (i : SlotId) : s.record i = none := by
  cases hr : s.record i with
  | none => rfl
  | some r =>
    have hm := (s.mem_records (i, r)).2 hr
    simp [h.records] at hm

/-- With nothing of its own waiting, a port's arbiter takes a repeated frame at most (R18). -/
theorem transmit_silent (q : Port) (setting : Parity) (src : Byte) (hc : q.callQueue = []) (hr : q.reply = none) :
    (q.transmit setting src).callQueue = [] ∧ (q.transmit setting src).reply = none := by
  unfold Port.transmit
  split
  · split
    · next h =>
      rw [Port.beginFrame_eq]
      unfold Port.nextFrame at h
      rw [hc, hr] at h
      split at h <;> cases h
      · next g => cases g
      · exact ⟨rfl, rfl⟩
      · next g => cases g
    · exact ⟨hc, hr⟩
  · exact ⟨hc, hr⟩

theorem Silent.finish {s : State} (h : Silent s) : Silent (finish s) where
  validity := h.validity
  load := h.load
  mode := h.mode
  ctx := h.ctx
  records := h.records
  port p := by
    obtain ⟨hc, hr⟩ := h.port p
    rw [finish_port]
    exact transmit_silent _ _ _ hc hr

/-- In NO-ADDRESS with nothing held, no command acts on anything but the link (R9). -/
theorem Silent.effect {s : State} (h : Silent s) (own : s.ownAddress = none) (c : Instr) : Silent (effect c s) := by
  cases hr : requestOf c with
  | some r =>
    rw [effect_request hr, requestEffect, handedOver_noAddress _ _ s own]
    exact h
  | none =>
    rw [effect_own hr]
    cases c
    case cleanSyncLearned p seen => exact h.linkOnly (linkOnly_takeCleanSync p seen s)
    case frameEndingGap p b l => exact h.linkOnly (linkOnly_takeEndingGap p b l s own)
    case returnToLearning p => exact h.linkOnly (linkOnly_returnToLearning p s)
    case transmitGapEnd p => exact h.linkOnly (linkOnly_takeGapEnd p s)
    case busReport p r => rw [ownEffect, handedOver_noAddress _ _ s own]; exact h
    case signalStatus p src f => rw [ownEffect, handedOver_noAddress _ _ s own]; exact h
    case freshnessExpiry k => simpa [ownEffect, takeFreshnessExpiry, freshnessDue, h.ctx, SignalContext.reset] using h
    case refreshExpiry k => simpa [ownEffect, takeRefreshExpiry, refreshDue, h.ctx, SignalContext.reset] using h
    case horizonEntry i => simpa [ownEffect, takeHorizonEntry, h.record] using h
    case ageExpiry i => simpa [ownEffect, takeAgeExpiry, h.record] using h
    case projectionExpiry i => simpa [ownEffect, takeProjectionExpiry, h.record] using h
    all_goals exact h

/-- The parts of the state that no effect changes. -/
theorem effect_rest (c : Instr) (s : State) :
    (effect c s).pending = s.pending ∧ (effect c s).resetHeld = s.resetHeld ∧ (effect c s).clock = s.clock ∧
      (effect c s).ownAddress = s.ownAddress := by
  by_cases hgap : ∃ p, c = .transmitGapEnd p
  · obtain ⟨p, rfl⟩ := hgap
    have keeps := setPort_keeps p ((s.port p).endFrame s.parity) s
    exact ⟨keeps.pending, keeps.resetHeld, keeps.clock, keeps.ownAddress⟩
  · exact (acted_effect (fun p e => hgap ⟨p, e⟩) s).rest.1

/-- A reset leaves nothing that the part could originate (R20). -/
theorem silent_afterReset (s : State) (held : Bool) (own : Option (BitVec 6)) : Silent (afterReset s held own) where
  validity := rfl
  load := rfl
  mode := rfl
  ctx k := Vector.getElem_replicate _
  records := by
    refine List.eq_nil_iff_forall_not_mem.2 fun x hx => ?_
    have hx := (State.mem_records _ x).1 hx
    simp [State.record, afterReset, resetValues] at hx
  port p := by
    rw [afterReset_port]
    exact ⟨rfl, rfl⟩

/-- Settles O60: in NO-ADDRESS every effect stays on the link, and the end of an event finds nothing of the part's own. -/
theorem noAddressStaysSilent : Obligations.NoAddressStaysSilent := by
  intro s t hs h
  refine step_keeps (P := NoAddressOk) (fun _ _ => id) (fun _ _ => id) (fun _ _ => id) (fun c s t hs h => ?_) hs h
  refine exec_keeps (P := NoAddressOk) (fun s held own => ?_) (fun c s _ _ hs => ?_) hs h
  · exact (noAddressOk_iff _).2 fun _ => silent_afterReset s held own
  · rw [noAddressOk_iff] at hs ⊢
    intro own
    obtain ⟨-, -, -, hown⟩ := effect_rest c s
    have before : s.ownAddress = none := hown.symm.trans own
    exact ((hs before).effect before c).finish

end Sys2Proof.Machine
end

section
/-! Management requests: one reply, the forms of a refusal, and what each request can change of the configuration. -/

namespace Sys2Proof.Machine

/-! ## One request, one reply (R12, R17, R174) -/

/-- A request's answer echoes its KIND, and a refused request changes nothing (R174). -/
def Answered (s : State) (kind : Byte) (x : State × Answer) : Prop :=
  (∃ data, x.2.payload = kind :: data) ∧ (x.2.accept = false → x.1 = s)

theorem answered_accept (s t : State) (kind : Byte) (data : List Byte) : Answered s kind (t, acceptWith kind data) :=
  ⟨⟨data, rfl⟩, fun h => nomatch h⟩

theorem answered_refuse (s : State) (kind : Byte) (reason : RefusalReason) :
    Answered s kind (s, refuseWith kind reason) :=
  ⟨⟨[reason.code], rfl⟩, fun _ => rfl⟩

theorem answered_needLength (s : State) (kind : Byte) (n : Nat) (payload : List Byte) (act : State → State × Answer)
    (h : Answered s kind (act s)) : Answered s kind (needLength kind n payload act s) :=
  needLength_cases (P := Answered s kind) kind n payload act s (answered_refuse s kind _) h

theorem answered_actDisable (s : State) (code : Byte) (b : Bool) (signal : Byte) :
    Answered s 0x64 (actDisable code b signal s) := by
  unfold actDisable
  split
  · exact answered_refuse s _ _
  · exact answered_accept s _ _ _

theorem answered_actControl (s : State) (payload : List Byte) : Answered s 0x64 (actControl payload s) := by
  refine answered_needLength s _ _ _ _ ?_
  dsimp only
  split
  · exact answered_actDisable s _ _ _
  · split
    · exact answered_actDisable s _ _ _
    · split
      · exact answered_accept s _ _ _
      · split
        · exact answered_accept s _ _ _
        · split
          · exact answered_accept s _ _ _
          · exact answered_refuse s _ _

theorem answered_actTableWrite (s : State) (p : PortId) (payload : List Byte) :
    Answered s 0x66 (actTableWrite p payload s) := by
  unfold actTableWrite
  split
  · exact answered_refuse s _ _
  · split
    · exact answered_refuse s _ _
    · split
      · exact answered_refuse s _ _
      · exact answered_accept s _ _ _

theorem answered_actTableClose (s : State) (p : PortId) (payload : List Byte) :
    Answered s 0x68 (actTableClose p payload s) := by
  refine answered_needLength s _ _ _ _ ?_
  split
  · exact answered_refuse s _ _
  · split
    · exact answered_refuse s _ _
    · split
      · exact answered_refuse s _ _
      · split
        · exact ⟨⟨_, rfl⟩, fun _ => rfl⟩
        · exact answered_accept s _ _ _

theorem answered_actReadReports (s : State) (payload : List Byte) : Answered s 0x63 (actReadReports payload s) := by
  refine answered_needLength s _ _ _ _ ?_
  dsimp only
  split
  · exact answered_refuse s _ _
  · exact answered_accept s _ _ _

theorem answered_actTableOpen (s : State) (p : PortId) (payload : List Byte) :
    Answered s 0x65 (actTableOpen p payload s) := by
  refine answered_needLength s _ _ _ _ ?_
  dsimp only
  split
  · exact answered_refuse s _ _
  · split
    · exact answered_refuse s _ _
    · split
      · exact answered_refuse s _ _
      · exact answered_accept s _ _ _

theorem answered_actTableSeek (s : State) (p : PortId) (payload : List Byte) :
    Answered s 0x67 (actTableSeek p payload s) := by
  refine answered_needLength s _ _ _ _ ?_
  split
  · exact answered_refuse s _ _
  · dsimp only
    split
    · exact answered_refuse s _ _
    · exact answered_accept s _ _ _

theorem answered_actTableAbandon (s : State) (payload : List Byte) :
    Answered s 0x69 (actTableAbandon payload s) := by
  refine answered_needLength s _ _ _ _ ?_
  split
  · exact answered_refuse s _ _
  · next l _ => exact answered_accept s (recomputeAndEvaluate (abandonLoad l.table s)) 0x69 _

theorem answered_actQuerySignal (s : State) (payload : List Byte) : Answered s 0x61 (actQuerySignal payload s) := by
  refine answered_needLength s _ _ _ _ ?_
  split
  · exact answered_refuse s _ _
  · exact answered_accept s _ _ _

theorem answered_actQueryRequests (s : State) (payload : List Byte) :
    Answered s 0x62 (actQueryRequests payload s) := by
  refine answered_needLength s _ _ _ _ ?_
  split
  · exact answered_accept s _ _ _
  · exact answered_refuse s _ _

theorem answered_actTableRead (s : State) (payload : List Byte) : Answered s 0x6A (actTableRead payload s) := by
  refine answered_needLength s _ _ _ _ ?_
  dsimp only
  split
  · exact answered_refuse s _ _
  · split
    · exact answered_refuse s _ _
    · exact answered_accept s _ _ _

/-- Every request is answered with its KIND, and refused without a change (R174). -/
theorem answered_actRequest (p : PortId) (kind : Byte) (payload : List Byte) (s : State) :
    Answered s kind (actRequest p kind payload s) :=
  actRequest_cases (P := Answered s) p kind payload s (answered_needLength s _ _ _ _ (answered_accept s _ _ _))
    (answered_actQuerySignal s payload) (answered_actQueryRequests s payload) (answered_actReadReports s payload)
    (answered_actControl s payload) (answered_actTableOpen s p payload) (answered_actTableWrite s p payload)
    (answered_actTableSeek s p payload) (answered_actTableClose s p payload) (answered_actTableAbandon s payload)
    (answered_actTableRead s payload) fun _ => answered_refuse s kind _

/-- Settles O13: a request is one event whose answer goes into the reply slot of its arrival port. -/
theorem requestsAreAnsweredOnce : Obligations.RequestsAreAnsweredOnce := by
  intro c r s hc hrun
  rw [exec_request hc]
  refine ⟨fun hfull => by rw [requestEvent_dropped _ _ _ _ hrun hfull], ?_⟩
  rintro ⟨⟨-, hport, hown⟩, hempty⟩
  obtain ⟨⟨data, hdata⟩, hrefused⟩ := answered_actRequest r.port r.kind r.payload s
  refine ⟨_, (actRequest r.port r.kind r.payload s).2.accept, data, ?_, hrefused⟩
  rw [requestEvent_answered _ _ _ s hrun hport hown hempty, placeReply, hdata]

/-! ## The forms of a refusal (R174, R178, R183) -/

/-- A LEN other than the one the KIND requires is refused with BAD_LENGTH (R174, R183). -/
theorem actRequest_badLength (p : PortId) (kind : Byte) (payload : List Byte) (s : State) (n : Nat)
    (hn : requiredLength kind = some n) (hlen : payload.length ≠ n) :
    actRequest p kind payload s = (s, refuseWith kind .badLength) := by
  have wrong (kind : Byte) (m : Nat) (act : State → State × Answer) (hm : requiredLength kind = some m) :
      ∀ n, requiredLength kind = some n → payload.length ≠ n →
        needLength kind m payload act s = (s, refuseWith kind .badLength) := by
    intro n hn hlen
    rw [hm] at hn
    exact needLength_wrong kind m payload act s (Option.some.inj hn ▸ hlen)
  exact actRequest_cases (P := fun kind x => ∀ n, requiredLength kind = some n → payload.length ≠ n →
      x = (s, refuseWith kind .badLength)) p kind payload s
    (wrong 0x60 0 _ rfl) (wrong 0x61 1 _ rfl) (wrong 0x62 2 _ rfl) (wrong 0x63 1 _ rfl) (wrong 0x64 2 _ rfl)
    (wrong 0x65 3 _ rfl) (fun _ h => nomatch h) (wrong 0x67 1 _ rfl) (wrong 0x68 0 _ rfl) (wrong 0x69 0 _ rfl)
    (wrong 0x6A 3 _ rfl) (fun h n hn => nomatch h.symm.trans hn) n hn hlen

/-- A request that is acted on: its effect, its answer in the reply slot and the end of the event (R12, R17). -/
theorem requestEvent_of_answers {p : PortId} {s : State} (h : Answers s p) (src : Byte) (act : State → State × Answer) :
    requestEvent p src act s = finish (placeReply p src (act s).2 (act s).1) :=
  requestEvent_answered p src act s h.1.1 h.1.2.1 h.1.2.2 h.2

/-- A CONTROL of a subcommand without a code is refused with BAD_VALUE (R178). -/
theorem actControl_unknown (code k : Byte) (s : State) (h : code.toNat = 0 ∨ 5 < code.toNat) :
    actControl [code, k] s = (s, refuseWith 0x64 .badValue) := by
  have ne (i : Byte) (hi : 1 ≤ i.toNat ∧ i.toNat ≤ 5) : code ≠ i := by
    rintro rfl
    omega
  rw [actControl, needLength_right 0x64 2 [code, k] _ s rfl]
  show (if code = 1 then _ else if code = 2 then _ else if code = 3 then _ else if code = 4 then _ else
    if code = 5 then _ else _) = _
  rw [if_neg (ne 1 (by decide)), if_neg (ne 2 (by decide)), if_neg (ne 3 (by decide)), if_neg (ne 4 (by decide)),
    if_neg (ne 5 (by decide))]

/-- A DISABLE or ENABLE of a signal is accepted with its code and the signal echoed (R178). -/
theorem actDisable_answer (code : Byte) (b : Bool) (k : Byte) (s : State) (h : k.toNat < 16) :
    (actDisable code b k s).2 = { accept := true, payload := [0x64, code, k, flagByte b] } := by
  simp [actDisable, indexBelow_lt h, acceptWith]

/-- A CONTROL of a subcommand with a code is accepted with the code echoed (R178). -/
theorem actControl_known (code k : Byte) (s : State) (h1 : 1 ≤ code.toNat) (h5 : code.toNat ≤ 5)
    (hk : code.toNat ≤ 2 → k.toNat < 16) :
    ∃ x y, (actControl [code, k] s).2 = { accept := true, payload := [0x64, code, x, y] } := by
  obtain h | h | h | h | h : code.toNat = 1 ∨ code.toNat = 2 ∨ code.toNat = 3 ∨ code.toNat = 4 ∨ code.toNat = 5 := by
    omega
  · obtain rfl : code = 1 := BitVec.eq_of_toNat_eq h
    rw [actControl_disable]
    exact ⟨_, _, actDisable_answer 1 true k s (hk (by decide))⟩
  · obtain rfl : code = 2 := BitVec.eq_of_toNat_eq h
    rw [actControl_enable]
    exact ⟨_, _, actDisable_answer 2 false k s (hk (by decide))⟩
  · obtain rfl : code = 3 := BitVec.eq_of_toNat_eq h
    exact ⟨0, 1, rfl⟩
  · obtain rfl : code = 4 := BitVec.eq_of_toNat_eq h
    exact ⟨0, 0, rfl⟩
  · obtain rfl : code = 5 := BitVec.eq_of_toNat_eq h
    exact ⟨0, _, rfl⟩

/-- Settles O14: each form of a request by the reply of the request that it stands for. -/
theorem requestForms : Obligations.RequestForms := by
  refine ⟨fun p src code s h => ?_, fun c r n s hc hn hlen h => ?_, fun p src code k s h hcode => ?_,
    fun p src code k s h h1 h5 hk => ?_, fun p src k s => ?_⟩
  · show Host.Outcome.next (requestEvent p src _ s) = _
    rw [requestEvent_of_answers h]
    rfl
  · rw [exec_request hc, requestEvent_of_answers h, actRequest_badLength _ _ _ s n hn hlen]
    rfl
  · show Host.Outcome.next (requestEvent p src (actControl [code, k]) s) = _
    rw [requestEvent_of_answers h, actControl_unknown code k s hcode]
    rfl
  · obtain ⟨x, y, e⟩ := actControl_known code k s h1 h5 hk
    refine ⟨(actControl [code, k] s).1, x, y, ?_⟩
    show Host.Outcome.next (requestEvent p src (actControl [code, k]) s) = _
    rw [requestEvent_of_answers h, e]
  · have same (code : Byte) : exec (.control p src [code, k]) s = .next (requestEvent p src (actControl [code, k]) s) :=
      rfl
    simp only [same, actControl_disable, actControl_enable, actControl_observeOn, actControl_observeOff,
      actControl_corridorReset]
    exact ⟨rfl, rfl, rfl, rfl, rfl⟩

/-! ## What each request can change of the configuration (R114, R115, R157) -/

/-- The table store and the flags of the responder are as they were. -/
structure SameStore (s t : State) : Prop where
  tables : t.tables = s.tables
  disabled : t.disabled = s.disabled
  observe : t.observe = s.observe

theorem SameConfig.store {s t : State} (h : SameConfig s t) : SameStore s t := ⟨h.tables, h.disabled, h.observe⟩

theorem SameStore.trans {s t u : State} (h : SameStore s t) (g : SameStore t u) : SameStore s u :=
  ⟨g.tables.trans h.tables, g.disabled.trans h.disabled, g.observe.trans h.observe⟩

theorem sameStore_setParity (v : Parity) (s : State) : SameStore s (setParity v s) := by
  rw [setParity_rest]
  exact ⟨rfl, rfl, rfl⟩

theorem sameStore_configure (s : State) (l : Option LoadContext) (v : Validities) :
    SameStore s (updateMode { s with load := l, validity := v }) := ⟨rfl, rfl, rfl⟩

theorem sameStore_updateMode (s : State) : SameStore s (updateMode s) := ⟨rfl, rfl, rfl⟩

theorem sameStore_openLoad (id : TableId) (start expected : Nat) (p : PortId) (s : State) :
    SameStore s (openLoad id start expected p s) :=
  have opened : SameStore s { s with
      load := some (openContext id start expected p)
      validity := s.validity.set id (openedValidity (s.validity.get id)) } := ⟨rfl, rfl, rfl⟩
  (opened.trans (works_suspendScope _).store).trans (sameStore_updateMode _)

theorem sameStore_closeLoad (id : TableId) (s : State) : SameStore s (closeLoad id s) :=
  ((sameStore_setParity _ s).trans (sameStore_configure _ _ _)).trans (works_recomputeAndEvaluate _).store

theorem sameStore_abandonLoad (id : TableId) (s : State) : SameStore s (abandonLoad id s) :=
  (sameStore_setParity _ s).trans (sameStore_configure _ _ _)

theorem sameStore_abandonOpenLoad (s : State) : SameStore s (abandonOpenLoad s) := by
  unfold abandonOpenLoad
  split
  · exact ⟨rfl, rfl, rfl⟩
  · exact sameStore_abandonLoad _ s

theorem sameStore_withoutCalls (s : State) :
    SameStore s { s with west := s.west.withoutCalls, east := s.east.withoutCalls, reports := [] } := ⟨rfl, rfl, rfl⟩

theorem sameStore_corridorReset (s : State) : SameStore s (corridorReset s) :=
  (((sameStore_abandonOpenLoad s).trans (works_hold _ _ _ _).store).trans
    (works_foldl _ (fun u k => works_recomputeSilently k u) allSignals _).store).trans (sameStore_withoutCalls _)

/-- Storing an entry leaves the configuration but for the entry (R165). -/
theorem storeEntry_keeps (id : TableId) (i : Nat) (l : List Byte) (s : State) :
    SameConfig { s with tables := s.tables.storeEntry id i l } (storeEntry id i l s) := by
  cases id
  case signal =>
    unfold storeEntry
    dsimp only
    split
    · exact SameConfig.refl _
    · exact (dropMovedCall_keeps _ _ _).trans (works_recomputeOne _ _).toSameConfig
  case plan =>
    unfold storeEntry
    dsimp only
    split
    · exact SameConfig.refl _
    · exact (works_recomputeOne _ _).toSameConfig
  all_goals exact SameConfig.refl _

theorem assemble_flags (fuel : Nat) (l : LoadContext) (s : State) :
    (assemble fuel l s).disabled = s.disabled ∧ (assemble fuel l s).observe = s.observe := by
  induction fuel generalizing l s with
  | zero => exact ⟨rfl, rfl⟩
  | succ fuel ih =>
    unfold assemble
    split
    · exact ⟨rfl, rfl⟩
    · obtain ⟨hd, ho⟩ := ih l.advanced
        (storeEntry l.table l.writeIndex (l.buffer.take l.table.entrySize) { s with load := some l })
      have keeps := storeEntry_keeps l.table l.writeIndex (l.buffer.take l.table.entrySize) { s with load := some l }
      exact ⟨hd.trans keeps.disabled, ho.trans keeps.observe⟩

theorem actDisable_tables (code : Byte) (b : Bool) (signal : Byte) (s : State) :
    (actDisable code b signal s).1.tables = s.tables := by
  unfold actDisable
  split
  · rfl
  · next k _ =>
    dsimp only
    split
    · rfl
    · exact ((works_recompute k (s.setDisabled k b)).trans (works_evaluate k _)).tables

theorem tables_setObserve (s : State) (b : Bool) : ({ s with observe := b } : State).tables = s.tables := rfl

theorem actObserveOn_tables (s : State) : (actObserveOn s).1.tables = s.tables := by
  unfold actObserveOn
  dsimp only
  split
  · rfl
  · exact ((works_evaluateAll allSignals _).tables.trans (tables_setObserve (cancelAll s) true)).trans
      (works_cancelAll s).tables

theorem actObserveOff_tables (s : State) : (actObserveOff s).1.tables = s.tables := by
  unfold actObserveOff
  dsimp only
  split
  · exact (works_evaluateAll allSignals { s with observe := false }).tables
  · rfl

/-- CONTROL leaves the table store (R178). -/
theorem actControl_tables (payload : List Byte) (s : State) : (actControl payload s).1.tables = s.tables := by
  refine needLength_cases (P := fun x => x.1.tables = s.tables) _ _ _ _ s rfl ?_
  dsimp only
  split
  · exact actDisable_tables _ _ _ s
  · split
    · exact actDisable_tables _ _ _ s
    · split
      · exact actObserveOn_tables s
      · split
        · exact actObserveOff_tables s
        · split
          · exact (sameStore_corridorReset s).tables
          · rfl

theorem actReadReports_keeps (payload : List Byte) (s : State) : SameConfig s (actReadReports payload s).1 := by
  refine needLength_cases (P := fun x => SameConfig s x.1) _ _ _ _ s (SameConfig.refl s) ?_
  dsimp only
  split
  · exact SameConfig.refl s
  · constructor <;> rfl

/-- What a request of a KIND leaves of the configuration (R114, R115, R165, R173). -/
def ChangesOwn (s : State) (kind : Byte) (x : State × Answer) : Prop :=
  (kind ≠ 0x66 → x.1.tables = s.tables) ∧
    (kind ≠ 0x64 → x.1.disabled = s.disabled ∧ x.1.observe = s.observe) ∧
    (kind = 0x60 ∨ kind = 0x61 ∨ kind = 0x62 ∨ kind = 0x63 ∨ kind = 0x6A → SameConfig s x.1)

theorem changesOwn_same (s : State) (kind : Byte) (x : State × Answer) (h : SameConfig s x.1) : ChangesOwn s kind x :=
  ⟨fun _ => h.tables, fun _ => ⟨h.disabled, h.observe⟩, fun _ => h⟩

theorem changesOwn_unchanged {s : State} (kind : Byte) {x : State × Answer} (h : x.1 = s) : ChangesOwn s kind x :=
  changesOwn_same s kind x (h ▸ SameConfig.refl _)

theorem changesOwn_refused (s : State) (kind : Byte) (a : Answer) : ChangesOwn s kind (s, a) :=
  changesOwn_unchanged kind rfl

theorem changesOwn_store {s t : State} {kind : Byte} (a : Answer) (h : SameStore s t)
    (hk : ¬ (kind = 0x60 ∨ kind = 0x61 ∨ kind = 0x62 ∨ kind = 0x63 ∨ kind = 0x6A)) : ChangesOwn s kind (t, a) :=
  ⟨fun _ => h.tables, fun _ => ⟨h.disabled, h.observe⟩, fun g => absurd g hk⟩

theorem changesOwn_actTableOpen (p : PortId) (payload : List Byte) (s : State) :
    ChangesOwn s 0x65 (actTableOpen p payload s) := by
  refine needLength_cases (P := ChangesOwn s 0x65) _ _ _ _ s (changesOwn_refused s _ _) ?_
  dsimp only
  split
  · exact changesOwn_refused s _ _
  · split
    · exact changesOwn_refused s _ _
    · split
      · exact changesOwn_refused s _ _
      · exact changesOwn_store _ (sameStore_openLoad _ _ _ p s) (by decide)

theorem changesOwn_actTableWrite (p : PortId) (payload : List Byte) (s : State) :
    ChangesOwn s 0x66 (actTableWrite p payload s) := by
  unfold actTableWrite
  split
  · exact changesOwn_refused s _ _
  · split
    · exact changesOwn_refused s _ _
    · split
      · exact changesOwn_refused s _ _
      · exact ⟨fun h => absurd rfl h, fun _ => assemble_flags _ _ s, fun h => absurd h (by decide)⟩

theorem changesOwn_actTableSeek (p : PortId) (payload : List Byte) (s : State) :
    ChangesOwn s 0x67 (actTableSeek p payload s) := by
  refine needLength_cases (P := ChangesOwn s 0x67) _ _ _ _ s (changesOwn_refused s _ _) ?_
  split
  · exact changesOwn_refused s _ _
  · dsimp only
    split
    · exact changesOwn_refused s _ _
    · exact changesOwn_store _ ⟨rfl, rfl, rfl⟩ (by decide)

theorem changesOwn_actTableClose (p : PortId) (payload : List Byte) (s : State) :
    ChangesOwn s 0x68 (actTableClose p payload s) := by
  refine needLength_cases (P := ChangesOwn s 0x68) _ _ _ _ s (changesOwn_refused s _ _) ?_
  split
  · exact changesOwn_refused s _ _
  · split
    · exact changesOwn_refused s _ _
    · split
      · exact changesOwn_refused s _ _
      · split
        · exact changesOwn_refused s _ _
        · exact changesOwn_store _ (sameStore_closeLoad _ s) (by decide)

theorem changesOwn_actTableAbandon (payload : List Byte) (s : State) :
    ChangesOwn s 0x69 (actTableAbandon payload s) := by
  refine needLength_cases (P := ChangesOwn s 0x69) _ _ _ _ s (changesOwn_refused s _ _) ?_
  split
  · exact changesOwn_refused s _ _
  · exact changesOwn_store _ ((sameStore_abandonLoad _ s).trans (works_recomputeAndEvaluate _).store) (by decide)

theorem changesOwn_actRequest (p : PortId) (kind : Byte) (payload : List Byte) (s : State) :
    ChangesOwn s kind (actRequest p kind payload s) :=
  actRequest_cases (P := ChangesOwn s) p kind payload s (changesOwn_unchanged _ (actQueryStatus_state payload s))
    (changesOwn_unchanged _ (actQuerySignal_state payload s))
    (changesOwn_unchanged _ (actQueryRequests_state payload s))
    (changesOwn_same s _ _ (actReadReports_keeps payload s))
    ⟨fun _ => actControl_tables payload s, fun h => absurd rfl h, fun h => absurd h (by decide)⟩
    (changesOwn_actTableOpen p payload s) (changesOwn_actTableWrite p payload s) (changesOwn_actTableSeek p payload s)
    (changesOwn_actTableClose p payload s) (changesOwn_actTableAbandon payload s)
    (changesOwn_unchanged _ (actTableRead_state payload s)) fun _ => changesOwn_refused s kind _

/-- A request does nothing, or acts and places its answer (R12). -/
theorem requestEffect_cases (r : Request) (s : State) :
    requestEffect r s = s ∨ requestEffect r s = placeReply r.port r.src (actRequest r.port r.kind r.payload s).2
      (actRequest r.port r.kind r.payload s).1 := by
  unfold requestEffect handedOver answerRequest
  split_ifs
  · exact .inl rfl
  · exact .inl rfl
  · exact .inr rfl
  · exact .inl rfl

/-- A request that is acted on leaves of the configuration what its KIND leaves: its reply is placed in a port. -/
theorem changesOwn_requestEffect (r : Request) (s : State) (a : Answer) :
    ChangesOwn s r.kind (requestEffect r s, a) := by
  rcases requestEffect_cases r s with e | e <;> rw [e]
  · exact changesOwn_refused s _ _
  · obtain ⟨ht, hf, hc⟩ := changesOwn_actRequest r.port r.kind r.payload s
    have placed := setPort_keeps r.port { (actRequest r.port r.kind r.payload s).1.port r.port with
      reply := some { dest := r.src, accept := (actRequest r.port r.kind r.payload s).2.accept,
                      payload := (actRequest r.port r.kind r.payload s).2.payload } }
      (actRequest r.port r.kind r.payload s).1
    exact ⟨fun h => placed.tables.trans (ht h),
      fun h => ⟨placed.disabled.trans (hf h).1, placed.observe.trans (hf h).2⟩, fun h => (hc h).trans placed⟩

theorem takeCleanSync_keeps (p : PortId) (seen : List (Rate × LineChar)) (s : State) :
    SameConfig s (takeCleanSync p seen s) := by
  unfold takeCleanSync
  split
  · split
    · exact SameConfig.refl s
    · exact (setPort_keeps p _ s).trans (writeReport_keeps _ _)
  · exact SameConfig.refl s

theorem returnToLearning_keeps (p : PortId) (s : State) : SameConfig s (returnToLearning p s) := by
  unfold returnToLearning
  split
  · exact (setPort_keeps p _ s).trans (writeReport_keeps _ _)
  · exact SameConfig.refl s

theorem handedOver_keeps (p : PortId) (f : State → State) (s : State) (h : SameConfig s (f s)) :
    SameConfig s (handedOver p f s) := by
  unfold handedOver
  split
  · split
    · exact SameConfig.refl s
    · exact h
  · exact SameConfig.refl s

/-- A command that is no reset, no request and no run of characters leaves the configuration. -/
theorem ownEffect_keeps {c : Instr} (h : ∀ p b l, c ≠ .frameEndingGap p b l) (s : State) :
    SameConfig s (ownEffect c s) := by
  cases c
  case cleanSyncLearned p seen => exact takeCleanSync_keeps p seen s
  case frameEndingGap p b l => exact absurd rfl (h p b l)
  case returnToLearning p => exact returnToLearning_keeps p s
  case busReport p r => exact handedOver_keeps p _ s (takeBusReport_keeps r s)
  case signalStatus p src f => exact handedOver_keeps p _ s (handStatus_keeps p src f s)
  case freshnessExpiry k => exact (works_takeFreshnessExpiry k s).toSameConfig
  case horizonEntry i => exact (works_takeHorizonEntry i s).toSameConfig
  case ageExpiry i => exact (works_takeAgeExpiry i s).toSameConfig
  case projectionExpiry i => exact (works_takeProjectionExpiry i s).toSameConfig
  case refreshExpiry k => exact (works_takeRefreshExpiry k s).toSameConfig
  case transmitGapEnd p => exact setPort_keeps p _ s
  all_goals exact SameConfig.refl s

/-- The end of an event leaves the configuration. -/
theorem finish_keeps (s : State) : SameConfig s (finish s) := by
  constructor <;> rfl

/-- Settles O46: a reset excepted, a command is its effect and the end of its event, and each effect leaves its part. -/
theorem configurationChanges : Obligations.ConfigurationChanges := by
  intro c s t h
  rcases exec_cases h with ⟨v, rfl, rfl⟩ | ⟨rfl, rfl⟩ | ⟨v, rfl, rfl⟩ | ⟨-, -, rfl⟩ | ⟨-, -, rfl⟩
  · exact ⟨rfl, fun hp => absurd rfl (hp v)⟩
  · exact ⟨rfl, fun _ ha => absurd rfl ha⟩
  · refine ⟨?_, fun _ _ hr => absurd rfl (hr v)⟩
    unfold releaseReset
    split <;> rfl
  · exact ⟨rfl, fun _ _ _ => ⟨rfl, rfl, rfl, fun _ => ⟨fun _ => rfl, fun _ => ⟨rfl, rfl⟩, fun _ => SameConfig.refl t⟩⟩⟩
  · obtain ⟨hpending, hheld, hclock, hown⟩ := effect_rest c s
    refine ⟨hpending, fun _ _ _ => ⟨hown, hheld, hclock, fun hgap => ?_⟩⟩
    cases hr : requestOf c with
    | none =>
      have keeps : SameConfig s (effect c s) := by
        rw [effect_own hr]
        exact ownEffect_keeps hgap s
      exact ⟨fun _ => keeps.tables, fun _ => ⟨keeps.disabled, keeps.observe⟩,
        fun _ => keeps.trans (finish_keeps _)⟩
    | some r =>
      rw [effect_request hr]
      obtain ⟨ht, hf, hc⟩ := changesOwn_requestEffect r s ⟨true, []⟩
      exact ⟨fun h => (finish_tables _).trans (ht (h r rfl)),
        fun h => ⟨(finish_disabled _).trans (hf (h r rfl)).1, (finish_observe _).trans (hf (h r rfl)).2⟩,
        fun h => (hc (h r rfl)).trans (finish_keeps _)⟩

end Sys2Proof.Machine
end

section
/-! The transmit arbiter and the characters on TXD. -/

namespace Sys2Proof.Machine

/-! ## The arbiter's choice (R18, R19) -/

/-- An idle transmitter of a RUNNING port begins the frame that its arbiter takes, at the learned rate (R4, R18). -/
theorem transmit_begins {q q' : Port} {r : Rate} {bytes : List Byte} (setting : Parity) (src : Byte)
    (hs : q.state = .running) (hr : q.rate = some r) (ht : q.tx = none) (hn : q.nextFrame src = some (bytes, q')) :
    q.transmit setting src =
      { q' with tx := some { bytes := bytes, rate := r }, txd := (bytes.take 1).map (sentBits setting) } := by
  unfold Port.transmit
  rw [hs, hr, ht, hn]
  exact Port.beginFrame_eq q' setting bytes r

theorem nextFrame_call {q : Port} {c : CallSlot} {l : List CallSlot} (src : Byte) (h : q.callQueue = c :: l) :
    q.nextFrame src = some (c.frame src, { q with callQueue := l }) := by
  unfold Port.nextFrame
  rw [h]

theorem nextFrame_repeat {q : Port} {f : List Byte} {l : List (List Byte)} (src : Byte) (hc : q.callQueue = [])
    (h : q.repeatQueue = f :: l) : q.nextFrame src = some (f, { q with repeatQueue := l }) := by
  unfold Port.nextFrame
  rw [hc, h]

theorem nextFrame_reply {q : Port} {a : Reply} (src : Byte) (hc : q.callQueue = []) (hr : q.repeatQueue = [])
    (h : q.reply = some a) : q.nextFrame src = some (a.frame src, { q with reply := none }) := by
  unfold Port.nextFrame
  rw [hc, hr, h]

/-! ## The parity bit (R1) -/

theorem foldl_xor_eq (l : List Bool) (b : Bool) : l.foldl xor b = (b ^^ decide (l.count true % 2 = 1)) := by
  induction l generalizing b with
  | nil => simp
  | cons x l ih =>
    rw [List.foldl_cons, ih]
    cases x
    · simp
    · have : (decide ((l.count true + 1) % 2 = 1)) = !decide (l.count true % 2 = 1) := by
        rw [← decide_not, decide_eq_decide]
        omega
      rw [List.count_cons_self, this]
      cases b <;> simp

/-- A run holds an odd number of ones, counted (R1). -/
theorem oddOnes_eq (l : List Bool) : oddOnes l = decide (l.count true % 2 = 1) := by
  rw [oddOnes, foldl_xor_eq, Bool.false_xor]

theorem oddOnes_append_even (l : List Bool) : (l ++ [oddOnes l]).count true % 2 = 0 := by
  rw [List.count_append, oddOnes_eq]
  by_cases h : l.count true % 2 = 1
  · simp [h]
    omega
  · simp [h]
    omega

theorem oddOnes_append_odd (l : List Bool) : (l ++ [!oddOnes l]).count true % 2 = 1 := by
  rw [List.count_append, oddOnes_eq]
  by_cases h : l.count true % 2 = 1
  · simp [h]
  · simp [h]
    omega

/-! ## What is on TXD (R1, R2, R19) -/

/-- A command that is no reset and not the end of the port's own transmit gap leaves the frame in flight, but for what a
change of parity sends on (R2, R19). -/
theorem exec_sentOn {c : Instr} {p : PortId} {f : TxFrame} {s t : State} (h : exec c s = .next t)
    (hp : ∀ v, c ≠ .powerOn v) (ha : c ≠ .resetnAssert) (hr : ∀ v, c ≠ .resetnRelease v) (hg : c ≠ .transmitGapEnd p)
    (hf : (s.port p).tx = some f) :
    SentOn s.parity (s.port p) (t.port p) ∧ (t.parity = s.parity → (t.port p).txd = (s.port p).txd) := by
  rcases exec_cases h with ⟨v, e, -⟩ | ⟨e, -⟩ | ⟨v, e, -⟩ | ⟨-, -, rfl⟩ | ⟨-, -, rfl⟩
  · exact absurd e (hp v)
  · exact absurd e ha
  · exact absurd e (hr v)
  · exact ⟨⟨rfl, fun _ => rfl, fun g _ => ⟨0, by simp⟩⟩, fun _ => rfl⟩
  · have sent : SentOn s.parity (s.port p) ((effect c s).port p) ∧
        ((effect c s).parity = s.parity → ((effect c s).port p).txd = (s.port p).txd) := by
      by_cases hgap : ∃ q, c = .transmitGapEnd q
      · obtain ⟨q, rfl⟩ := hgap
        have other : (effect (.transmitGapEnd q) s).port p = s.port p := by
          refine (takeGapEnd_port q p s).trans (if_neg ?_)
          rintro rfl
          exact hg rfl
        rw [other]
        exact ⟨⟨rfl, fun _ => rfl, fun g _ => ⟨0, by simp⟩⟩, fun _ => rfl⟩
      · exact (acted_effect (fun q e => hgap ⟨q, e⟩) s).sentOn p
    have busy : ((effect c s).port p).tx.isSome = true := by rw [sent.1.1, hf]; rfl
    rw [finish_port, Port.transmit_busy _ _ _ (.inl busy), finish_parity]
    exact sent

/-- Settles O12: the arbiter by the port's holding places, the frame in flight by what each effect leaves. -/
theorem arbiterOrder : Obligations.ArbiterOrder := by
  refine ⟨fun p s hrun => ⟨fun hidle => ?_, fun f hf => ?_⟩, fun s p r hs hr ht => ⟨?_, ?_, ?_, ?_⟩, ?_,
    fun c p f s t => exec_sentOn, fun s p h => ?_, fun s => ⟨rfl, ?_⟩⟩
  · show Host.Outcome.next (event (takeGapEnd p) s) = _
    have same : takeGapEnd p s = s := by
      unfold takeGapEnd Port.endFrame
      rw [hidle]
      exact State.setPort_port s p
    rw [event_run _ s hrun, same]
  · show Host.Outcome.next (event (takeGapEnd p) s) = _
    rw [event_run _ s hrun, takeGapEnd, Port.endFrame_eq _ _ f hf]
  · intro c l hc
    rw [finish_port, transmit_begins _ _ hs hr ht (nextFrame_call _ hc)]
    rfl
  · intro hc f l hl
    rw [finish_port, transmit_begins _ _ hs hr ht (nextFrame_repeat _ hc hl)]
  · intro hc hl a ha
    rw [finish_port, transmit_begins _ _ hs hr ht (nextFrame_reply _ hc hl ha)]
    rfl
  · intro hc hl ha
    rw [finish_port, Port.transmit_empty _ _ _ hc hl ha]
  · rintro b d rfl
    refine ⟨by simp [sentBits, parityBitFor, dataBits], oddOnes (dataBits b), !oddOnes (dataBits b), ?_,
      oddOnes_append_even _, ?_, oddOnes_append_odd _⟩
    · simp [sentBits, parityBitFor, dataBits]
    · simp [sentBits, parityBitFor, dataBits]
  · rw [finish_port, Port.transmit_busy _ _ _ h.symm]
  · rw [finish_alert, alertValue]
    simp

end Sys2Proof.Machine
end

section
/-! Frames on the line: the CHECK, characters in error, and the frames that a port accepts (R1, R2, R6, R7, R8). -/

namespace Sys2Proof.Machine

/-! ## The CHECK register (R7) -/

/-- A byte in the low half moves up a bit at a time until it stands in the high half. -/
theorem checkShift_low (b : Byte) {i : Nat} (h : i < 8) :
    checkShift (b.zeroExtend 16 <<< i) = (b.zeroExtend 16 <<< (i + 1) : Half) := by
  have hmsb : (b.zeroExtend 16 <<< i : Half).msb = false := by
    rw [BitVec.msb_eq_getLsbD_last, BitVec.getLsbD_shiftLeft, BitVec.getLsbD_setWidth,
      BitVec.getLsbD_of_ge b _ (by omega)]
    simp
  rw [checkShift, hmsb, if_neg Bool.false_ne_true, BitVec.shiftLeft_add]

/-- Feeding the register's own high byte moves its low byte up. -/
theorem checkByte_high (c : Half) :
    checkByte c (c.extractLsb' 8 8) = ((c.extractLsb' 0 8).zeroExtend 16 <<< 8 : Half) := by
  have low : c ^^^ ((c.extractLsb' 8 8).zeroExtend 16 <<< 8) = ((c.extractLsb' 0 8).zeroExtend 16 <<< 0 : Half) := by
    apply BitVec.eq_of_getLsbD_eq
    intro i hi
    by_cases g : i < 8
    · simp [g, hi, BitVec.getLsbD_extractLsb']
    · have e : 8 + (i - 8) = i := by omega
      have h8 : i - 8 < 8 := by omega
      simp [g, hi, h8, e, BitVec.getLsbD_extractLsb']
  rw [checkByte, low]
  simp only [checkShift_low _ (show (0 : Nat) < 8 by decide), checkShift_low _ (show (1 : Nat) < 8 by decide),
    checkShift_low _ (show (2 : Nat) < 8 by decide), checkShift_low _ (show (3 : Nat) < 8 by decide),
    checkShift_low _ (show (4 : Nat) < 8 by decide), checkShift_low _ (show (5 : Nat) < 8 by decide),
    checkShift_low _ (show (6 : Nat) < 8 by decide), checkShift_low _ (show (7 : Nat) < 8 by decide),
    Nat.zero_add, Nat.reduceAdd]

/-- A run of bytes with its own CHECK after it leaves the register at 0 (R7). -/
theorem frameCheck_own (l : List Byte) : (l ++ halfBytes (frameCheck l)).foldl checkByte 0xFFFF#16 = 0 := by
  rw [List.foldl_append]
  show checkByte (checkByte (frameCheck l) ((frameCheck l).extractLsb' 8 8)) ((frameCheck l).extractLsb' 0 8) = 0
  rw [checkByte_high, checkByte, BitVec.xor_self]
  rfl

/-! ## Characters in error (R1, R2) -/

/-- A character's parity bit, when its setting has one, makes the number of ones even or odd (R1). -/
theorem parityError_iff (setting : Parity) (c : LineChar) :
    parityError setting c = true ↔
      (setting = .even ∧ (dataBits c.data ++ [c.parityBit]).count true % 2 = 1) ∨
        (setting = .odd ∧ (dataBits c.data ++ [c.parityBit]).count true % 2 = 0) := by
  have parity (b : Bool) (h : b = oddOnes (dataBits c.data)) :
      b = true ↔ (dataBits c.data).count true % 2 = 1 := by rw [h, oddOnes_eq, decide_eq_true_iff]
  have total : (dataBits c.data ++ [c.parityBit]).count true =
      (dataBits c.data).count true + if c.parityBit then 1 else 0 := by
    rw [List.count_append]
    cases c.parityBit <;> rfl
  rw [total]
  have odd := parity _ rfl
  cases setting
  · simp [parityError, parityBitFor]
  · simp only [parityError, parityBitFor]
    cases c.parityBit <;> cases h : oddOnes (dataBits c.data) <;> simp [h] at odd ⊢ <;> omega
  · simp only [parityError, parityBitFor]
    cases c.parityBit <;> cases h : oddOnes (dataBits c.data) <;> simp [h] at odd ⊢ <;> omega

/-- A character is in error by its stop bit or by its parity (R1). -/
theorem charError_iff (now : Parity) (c : LineChar) :
    charError now c = true ↔ c.stopIdle = false ∨ parityError (charSetting now c) c = true := by
  rw [charError, Bool.or_eq_true, Bool.not_eq_true', or_comm]

/-! ## The receive assembly buffer (R6) -/

theorem pushAll_cons (now : Parity) (x : RxBuffer) (c : LineChar) (l : List LineChar) :
    x.pushAll now (c :: l) = (x.push now c).pushAll now l := rfl

/-- What a run of characters makes of a buffer: the first 63 data bytes, any error, and any byte too many (R6). -/
theorem pushAll_eq (now : Parity) (l : List LineChar) (x : RxBuffer) (h : x.bytes.length ≤ 63) :
    x.pushAll now l =
      { bytes := (x.bytes ++ l.map LineChar.data).take 63
        bad := x.bad || l.any (charError now)
        tooLong := x.tooLong || decide (63 < x.bytes.length + l.length) } := by
  induction l generalizing x with
  | nil =>
    have fits : ¬ 63 < x.bytes.length := by omega
    simp [RxBuffer.pushAll, List.take_of_length_le h, fits]
  | cons c l ih =>
    rw [pushAll_cons]
    by_cases room : x.bytes.length < 63
    · have full : ¬ 63 ≤ x.bytes.length := by omega
      have pushed : x.push now c = ⟨x.bytes ++ [c.data], x.bad || charError now c, x.tooLong⟩ := by
        simp [RxBuffer.push, largestFrame, room, full]
      rw [pushed, ih _ (by simp; omega)]
      simp [Bool.or_assoc, Nat.add_assoc, Nat.add_comm 1]
    · have full : x.bytes.length = 63 := by omega
      have pushed : x.push now c = ⟨x.bytes, x.bad || charError now c, true⟩ := by
        simp [RxBuffer.push, largestFrame, full]
      rw [pushed, ih ⟨x.bytes, x.bad || charError now c, true⟩ h]
      have beyond : 63 < x.bytes.length + (c :: l).length := by
        rw [List.length_cons]
        omega
      rw [List.take_append_of_le_length full.ge, List.take_append_of_le_length full.ge, decide_eq_true beyond]
      simp [Bool.or_assoc]

/-- What a run of characters makes of the empty buffer (R6). -/
theorem pushAll_empty (now : Parity) (l : List LineChar) :
    RxBuffer.empty.pushAll now l =
      { bytes := (l.map LineChar.data).take 63, bad := l.any (charError now), tooLong := decide (63 < l.length) } := by
  rw [pushAll_eq now l RxBuffer.empty (Nat.zero_le _)]
  simp [RxBuffer.empty]

/-- A run without a character is the only one that leaves the empty buffer empty. -/
theorem pushAll_empty_bytes (now : Parity) (l : List LineChar) :
    (RxBuffer.empty.pushAll now l).bytes = [] ↔ l = [] := by
  rw [pushAll_empty]
  simp

/-! ## Acceptance (R8) -/

theorem length_buildFrame (dest src kind : Byte) (payload : List Byte) :
    (buildFrame dest src kind payload).length = 7 + payload.length := by
  simp [buildFrame, halfBytes]
  omega

/-- The last two bytes of a run, read as a field. -/
theorem halfAt_last (l : List Byte) (a b : Byte) : halfAt (l ++ [a, b]) l.length = a ++ b := by
  simp [halfAt, byteAt]

theorem halfBytes_append (a b : Byte) : halfBytes (a ++ b) = [a, b] := by
  rw [halfBytes, append_high, append_low]

/-- The CHECK of a run of header, payload and two bytes is correct when the two bytes are the CHECK (R7). -/
theorem checkCorrect_iff (body : List Byte) (a b : Byte) (len : Nat) (h : body.length = 4 + len) :
    checkCorrect (syncByte :: body ++ [a, b]) len = true ↔ [a, b] = halfBytes (frameCheck body) := by
  have last : halfAt (syncByte :: body ++ [a, b]) (5 + len) = a ++ b := by
    rw [show 5 + len = (syncByte :: body).length by rw [List.length_cons]; omega]
    exact halfAt_last (syncByte :: body) a b
  have fed : ((syncByte :: body ++ [a, b]).drop 1).take (4 + len) = body := by
    rw [← h]
    exact List.take_left' rfl
  rw [checkCorrect, last, fed, beq_iff_eq]
  constructor
  · intro e
    rw [← e, halfBytes_append]
  · intro e
    rw [show a = (frameCheck body).extractLsb' 8 8 from (List.cons.inj e).1,
      show b = (frameCheck body).extractLsb' 0 8 from (List.cons.inj (List.cons.inj e).2).1]
    exact halfBytes_high _

/-- A run with five header bytes, a payload of the length they say and two more bytes. -/
theorem frame_parts {b : List Byte} (h5 : 5 ≤ b.length) (hlen : b.length = 7 + (byteAt b 4).toNat) :
    ∃ x y : Byte, b = byteAt b 0 :: ([byteAt b 1, byteAt b 2, byteAt b 3, byteAt b 4] ++
      (b.drop 5).take (byteAt b 4).toNat) ++ [x, y] := by
  obtain ⟨b0, b1, b2, b3, b4, rest, rfl⟩ : ∃ b0 b1 b2 b3 b4 rest, b = b0 :: b1 :: b2 :: b3 :: b4 :: rest := by
    match b, h5 with
    | b0 :: b1 :: b2 :: b3 :: b4 :: rest, _ => exact ⟨b0, b1, b2, b3, b4, rest, rfl⟩
  have two : (rest.drop b4.toNat).length = 2 := by
    have : (b0 :: b1 :: b2 :: b3 :: b4 :: rest).length = 7 + b4.toNat := hlen
    rw [List.length_drop]
    simp only [List.length_cons] at this
    omega
  obtain ⟨x, y, e⟩ := List.length_eq_two.mp two
  refine ⟨x, y, ?_⟩
  show _ = b0 :: ([b1, b2, b3, b4] ++ rest.take b4.toNat) ++ [x, y]
  rw [← e]
  simp

theorem acceptedFrame_eq (x : RxBuffer) :
    acceptedFrame x = if byteAt x.bytes 0 = syncByte ∧ 5 ≤ x.bytes.length ∧ (byteAt x.bytes 4).toNat ≤ 56 ∧
        x.bytes.length = 7 + (byteAt x.bytes 4).toNat ∧ x.tooLong = false ∧
        checkCorrect x.bytes (byteAt x.bytes 4).toNat ∧ x.bad = false then
      some { dest := byteAt x.bytes 1, src := byteAt x.bytes 2, kind := byteAt x.bytes 3,
             payload := (x.bytes.drop 5).take (byteAt x.bytes 4).toNat, raw := x.bytes }
    else none := rfl

/-- A built frame is accepted with the fields it was built of (R8). -/
theorem acceptedFrame_buildFrame (dest src kind : Byte) (payload : List Byte) (h : payload.length ≤ 56) :
    acceptedFrame { bytes := buildFrame dest src kind payload, bad := false, tooLong := false } =
      some { dest := dest, src := src, kind := kind, payload := payload, raw := buildFrame dest src kind payload } := by
  have len : (byteOf payload.length).toNat = payload.length := by
    rw [byteOf, BitVec.toNat_ofNat]
    omega
  have header : byteAt (buildFrame dest src kind payload) 4 = byteOf payload.length := rfl
  have correct : checkCorrect (buildFrame dest src kind payload) payload.length = true :=
    (checkCorrect_iff ([dest, src, kind, byteOf payload.length] ++ payload) _ _ payload.length
      (by simp; omega)).mpr rfl
  have fields : ((buildFrame dest src kind payload).drop 5).take payload.length = payload :=
    List.take_left' (l₂ := halfBytes _) rfl
  rw [acceptedFrame_eq, header, len, if_pos, fields]
  · rfl
  · exact ⟨rfl, by rw [length_buildFrame]; omega, h, length_buildFrame _ _ _ _, rfl, correct, rfl⟩

/-- The port accepts exactly the built frames without an error (R7, R8). -/
theorem acceptedFrame_iff (x : RxBuffer) (f : Frame) :
    acceptedFrame x = some f ↔ x.bad = false ∧ x.tooLong = false ∧ f.payload.length ≤ 56 ∧
      x.bytes = buildFrame f.dest f.src f.kind f.payload ∧ f.raw = x.bytes := by
  constructor
  · intro h
    rw [acceptedFrame_eq] at h
    split at h
    · next g =>
      obtain ⟨hsync, h5, h56, hlen, hlong, hcheck, hbad⟩ := g
      cases h
      obtain ⟨u, v, e⟩ := frame_parts h5 hlen
      have length : ((x.bytes.drop 5).take (byteAt x.bytes 4).toNat).length = (byteAt x.bytes 4).toNat := by
        rw [List.length_take, List.length_drop]
        omega
      have code : byteOf (byteAt x.bytes 4).toNat = byteAt x.bytes 4 := by
        rw [byteOf, BitVec.ofNat_toNat, BitVec.setWidth_eq]
      have own := (checkCorrect_iff ([byteAt x.bytes 1, byteAt x.bytes 2, byteAt x.bytes 3, byteAt x.bytes 4] ++
        (x.bytes.drop 5).take (byteAt x.bytes 4).toNat) u v (byteAt x.bytes 4).toNat
        (by rw [List.length_append, length]; rfl)).mp (by rw [← hsync, ← e]; exact hcheck)
      refine ⟨hbad, hlong, length.le.trans h56, ?_, rfl⟩
      rw [buildFrame, length, code, List.append_assoc, ← own, ← List.append_assoc, ← hsync]
      exact e
    · cases h
  · rintro ⟨hbad, hlong, h56, hbytes, hraw⟩
    obtain ⟨bytes, bad, tooLong⟩ := x
    obtain ⟨dest, src, kind, payload, raw⟩ := f
    dsimp only at *
    subst hbad hlong hbytes hraw
    exact acceptedFrame_buildFrame dest src kind payload h56

/-- A run of characters is accepted exactly when it carries a built frame without an error (R1, R6, R8). -/
theorem acceptedFrame_pushAll_iff (now : Parity) (chars : List LineChar) (f : Frame) :
    acceptedFrame (RxBuffer.empty.pushAll now chars) = some f ↔
      f.payload.length ≤ 56 ∧ Carries now chars (buildFrame f.dest f.src f.kind f.payload) ∧
        f.raw = buildFrame f.dest f.src f.kind f.payload := by
  rw [acceptedFrame_iff, pushAll_empty]
  dsimp only
  constructor
  · rintro ⟨hbad, hlong, h56, hbytes, hraw⟩
    have whole : (chars.map LineChar.data).take 63 = chars.map LineChar.data := by
      refine List.take_of_length_le ?_
      have := of_decide_eq_false hlong
      rw [List.length_map]
      omega
    refine ⟨h56, ⟨whole ▸ hbytes, fun c hc => ?_⟩, hraw.trans hbytes⟩
    exact Bool.not_eq_true _ ▸ List.any_eq_false.mp hbad c hc
  · rintro ⟨h56, ⟨hdata, hclean⟩, hraw⟩
    have length : chars.length = 7 + f.payload.length := by
      rw [← length_buildFrame f.dest f.src f.kind, ← hdata, List.length_map]
    have whole : (chars.map LineChar.data).take 63 = chars.map LineChar.data := by
      refine List.take_of_length_le ?_
      rw [List.length_map]
      omega
    refine ⟨List.any_eq_false.mpr fun c hc => Bool.not_eq_true _ ▸ hclean c hc, decide_eq_false (by omega), h56, ?_, ?_⟩
    · rw [whole, hdata]
    · rw [whole, hdata, hraw]

/-- Settles O8: acceptance by the parts of a frame, errors by counting ones, and the CHECK by its shifts. -/
theorem acceptsExactlyBuiltFrames : Obligations.AcceptsExactlyBuiltFrames := by
  refine ⟨acceptedFrame_iff, acceptedFrame_pushAll_iff, ?_, frameCheck_own⟩
  rintro parity _ c _ rfl rfl
  exact (charError_iff parity c).trans (or_congr_right (parityError_iff _ c))

end Sys2Proof.Machine
end

section
/-! Learning a rate, the ending gap of a run of characters, and what an accepted frame does (R3, R4, R5, R8 to R13). -/

namespace Sys2Proof.Machine

/-! ## Learning (R3, R4) -/

theorem rateRank_injective {r q : Rate} (h : rateRank r = rateRank q) : r = q := by
  cases r <;> cases q <;> first | rfl | cases h

/-- The higher of a rate and the rate of a character seen (R3). -/
def higherRate (best : Option Rate) (x : Rate × LineChar) : Option Rate :=
  match best with
  | none => some x.1
  | some r => if rateRank r < rateRank x.1 then some x.1 else some r

theorem learnedRate_eq (now : Parity) (seen : List (Rate × LineChar)) :
    learnedRate now seen = (seen.filter fun x => cleanSync now x.2).foldl higherRate none := rfl

/-- A rate that no other exceeds, and that is one of those met, is the one kept. -/
theorem foldl_higherRate {r : Rate} (l : List (Rate × LineChar)) (b : Rate) (hb : rateRank b ≤ rateRank r)
    (hl : ∀ x ∈ l, rateRank x.1 ≤ rateRank r) (hmet : b = r ∨ ∃ x ∈ l, x.1 = r) :
    l.foldl higherRate (some b) = some r := by
  induction l generalizing b with
  | nil =>
    obtain h | ⟨x, hx, -⟩ := hmet
    · rw [List.foldl_nil, h]
    · cases hx
  | cons y l ih =>
    have below := hl y List.mem_cons_self
    have rest : ∀ x ∈ l, rateRank x.1 ≤ rateRank r := fun x hx => hl x (List.mem_cons_of_mem y hx)
    have tail (g : ∃ x ∈ y :: l, x.1 = r) (hy : y.1 ≠ r) : ∃ x ∈ l, x.1 = r := by
      obtain ⟨x, hx, e⟩ := g
      obtain rfl | hx := List.mem_cons.mp hx
      · exact absurd e hy
      · exact ⟨x, hx, e⟩
    rw [List.foldl_cons, higherRate]
    split
    · next lower =>
      refine ih y.1 below rest ?_
      by_cases hy : y.1 = r
      · exact .inl hy
      · obtain h | h := hmet
        · rw [h] at lower
          omega
        · exact .inr (tail h hy)
    · next notLower =>
      refine ih b hb rest ?_
      by_cases hy : y.1 = r
      · rw [hy] at notLower
        exact .inl (rateRank_injective (by omega))
      · exact hmet.imp_right (tail · hy)

/-- The rate learned is the highest at which a clean sync character completes (R3). -/
theorem learnedRate_highest {now : Parity} {seen : List (Rate × LineChar)} {r : Rate}
    (hmet : ∃ c, (r, c) ∈ seen ∧ cleanSync now c = true)
    (hmax : ∀ x ∈ seen, cleanSync now x.2 = true → rateRank x.1 ≤ rateRank r) : learnedRate now seen = some r := by
  obtain ⟨c, hc, hclean⟩ := hmet
  have met : (r, c) ∈ seen.filter fun x => cleanSync now x.2 := List.mem_filter.mpr ⟨hc, hclean⟩
  have max : ∀ x ∈ seen.filter fun x => cleanSync now x.2, rateRank x.1 ≤ rateRank r := fun x hx =>
    have hx := List.mem_filter.mp hx
    hmax x hx.1 hx.2
  rw [learnedRate_eq]
  cases h : seen.filter fun x => cleanSync now x.2 with
  | nil => rw [h] at met; cases met
  | cons y l =>
    rw [h] at met max
    refine foldl_higherRate l y.1 (max y List.mem_cons_self) (fun x hx => max x (List.mem_cons_of_mem y hx)) ?_
    obtain e | hl := List.mem_cons.mp met
    · exact .inl (congrArg Prod.fst e).symm
    · exact .inr ⟨(r, c), hl, rfl⟩

/-- Without a clean sync character nothing is learned (R3). -/
theorem learnedRate_none {now : Parity} {seen : List (Rate × LineChar)} (h : ∀ x ∈ seen, cleanSync now x.2 = false) :
    learnedRate now seen = none := by
  rw [learnedRate_eq, List.filter_eq_nil_iff.mpr fun x hx => by rw [h x hx]; exact Bool.false_ne_true]
  rfl

/-- What arrives at a LEARNING port is passed over (R3). -/
theorem handedOver_learning {p : PortId} (f : State → State) {s : State} (h : (s.port p).state = .learning) :
    handedOver p f s = s := by
  rw [handedOver, if_neg (by rw [h]; exact nofun)]

theorem takeEndingGap_learning {p : PortId} (idleBefore : Bool) (chars : List LineChar) {s : State}
    (h : (s.port p).state = .learning) : takeEndingGap p idleBefore chars s = s := if_pos h

theorem requestOf_port {c : Instr} {r : Request} (h : requestOf c = some r) : arrivalPort c = some r.port := by
  cases c <;> cases h <;> rfl

/-- A command that a frame brings does nothing on a LEARNING port (R3). -/
theorem effect_learning {c : Instr} {p : PortId} {s : State} (h : (s.port p).state = .learning)
    (hc : arrivalPort c = some p) : effect c s = s := by
  cases hr : requestOf c with
  | some r =>
    have hp := requestOf_port hr
    rw [hc] at hp
    rw [effect_request hr]
    exact handedOver_learning _ (Option.some.inj hp ▸ h)
  | none =>
    rw [effect_own hr]
    cases c
    case frameEndingGap q b l => cases hc; exact takeEndingGap_learning b l h
    case busReport q r => cases hc; exact handedOver_learning _ h
    case signalStatus q src f => cases hc; exact handedOver_learning _ h
    all_goals first | (cases hr; done) | cases hc

theorem isReset_of_arrivalPort {c : Instr} {p : PortId} (h : arrivalPort c = some p) : isReset c = false := by
  cases c <;> first | rfl | cases h

/-- Settles O6: the highest clean rate by the fold over the characters seen, the rest by the port's state. -/
theorem learnsHighestCleanRate : Obligations.LearnsHighestCleanRate := by
  refine ⟨fun p seen r s hrun hlearning hmet hmax => ?_, fun p seen s hrun h => ?_, fun c p s hrun hlearning hc => ?_⟩
  · show Host.Outcome.next (event (takeCleanSync p seen) s) = _
    rw [event_run _ s hrun, takeCleanSync, if_pos hlearning, learnedRate_highest hmet hmax]
    rfl
  · show Host.Outcome.next (event (takeCleanSync p seen) s) = _
    have same : takeCleanSync p seen s = s := by
      rw [takeCleanSync]
      obtain h | h := h
      · rw [if_neg (by rw [h]; exact nofun)]
      · rw [learnedRate_none h]
        exact ite_self s
    rw [event_run _ s hrun, same]
  · rw [exec_event (isReset_of_arrivalPort hc), event_run _ s hrun, effect_learning hlearning hc]

/-! ## The ending gap (R4, R5, R6, R8) -/

theorem setPort_setPort (s : State) (p : PortId) (q r : Port) : (s.setPort p q).setPort p r = s.setPort p r := by
  cases p <;> rfl

/-- Between frames a run of characters is judged by what the empty buffer holds of it (R6, R8). -/
theorem takeEndingGap_between {p : PortId} {idleBefore : Bool} {chars : List LineChar} {s : State}
    (h : BetweenFrames idleBefore (s.port p)) :
    takeEndingGap p idleBefore chars s =
      if chars = [] then s.setPort p { s.port p with awaitingIdle := false }
      else judgeFrame p (RxBuffer.empty.pushAll s.parity chars) s := by
  obtain ⟨hstate, hrx, hidle⟩ := h
  have idle : ((s.port p).awaitingIdle && !idleBefore) = false := by
    cases ha : (s.port p).awaitingIdle
    · rfl
    · rw [hidle ha]
      rfl
  rw [takeEndingGap]
  dsimp only
  rw [if_neg (by rw [hstate]; exact nofun), idle, if_neg Bool.false_ne_true, hrx]
  simp only [pushAll_empty_bytes]

/-- A frame that is accepted takes the consecutive-bad count to 0 and is dispatched (R8). -/
theorem judgeFrame_accepted {p : PortId} {x : RxBuffer} {f : Frame} {s : State} (hrx : (s.port p).rx = .empty)
    (h : acceptedFrame x = some f) :
    judgeFrame p x s = dispatchFrame p f (s.setPort p { s.port p with awaitingIdle := false, consecutiveBad := 0 }) := by
  rw [judgeFrame, h, ← hrx]

/-- A frame that is discarded is counted, and can return the port to LEARNING (R5, R8). -/
theorem judgeFrame_discarded {p : PortId} {x : RxBuffer} {s : State} (hrx : (s.port p).rx = .empty)
    (h : acceptedFrame x = none) :
    judgeFrame p x s = returnToLearning p (s.setPort p { s.port p with
      awaitingIdle := false
      badFrames := if (s.port p).badFrames < 65535 then (s.port p).badFrames + 1 else (s.port p).badFrames
      consecutiveBad := (s.port p).consecutiveBad + 1 }) := by
  rw [judgeFrame, h, ← hrx]
  rfl

/-- The eighth discarded frame in a row returns the port to LEARNING (R5). -/
theorem returnToLearning_eighth {p : PortId} {s : State} (hstate : (s.port p).state = .running)
    (h : 8 ≤ (s.port p).consecutiveBad) :
    returnToLearning p s = writeReport (.link p .learning (s.port p).rate (s.port p).badFrames)
      (s.setPort p { s.port p with state := .learning, rx := .empty, consecutiveBad := 0, awaitingIdle := false }) :=
  if_pos ⟨hstate, h⟩

theorem returnToLearning_fewer {p : PortId} {s : State} (h : (s.port p).consecutiveBad < 8) :
    returnToLearning p s = s :=
  if_neg fun g => absurd g.2 (Nat.not_le.mpr h)

/-- Settles O7: the counts of a discarded frame, with the eighth, and the runs that are no frame. -/
theorem badFramesAndRelearning : Obligations.BadFramesAndRelearning := by
  have gap (p : PortId) (b : Bool) (chars : List LineChar) (s : State) (hrun : s.resetHeld = false) :
      exec (.frameEndingGap p b chars) s = .next (finish (takeEndingGap p b chars s)) :=
    congrArg Host.Outcome.next (event_run _ s hrun)
  refine ⟨fun p b chars s q hrun hbetween hne hnone hq => ?_, fun p s hrun hstate h8 => ?_,
    fun p chars s hrun hstate hwait => ?_, fun p b s hrun hbetween => ?_⟩
  · have discarded : takeEndingGap p b chars s = returnToLearning p (s.setPort p q) := by
      rw [takeEndingGap_between hbetween, if_neg hne, judgeFrame_discarded hbetween.2.1 hnone, hq]
    have port : (s.setPort p q).port p = q := State.port_setPort_self s p q
    have rx : q.rx = .empty := by rw [hq]; exact hbetween.2.1
    have idle : q.awaitingIdle = false := by rw [hq]
    have state : q.state = .running := by rw [hq]; exact hbetween.1
    rw [gap _ _ _ _ hrun, discarded]
    constructor
    · intro fewer
      rw [returnToLearning_fewer (port.symm ▸ fewer)]
    · intro h8
      rw [returnToLearning_eighth (port.symm ▸ state) (port.symm ▸ h8), port, setPort_setPort, ← rx, ← idle]
  · show Host.Outcome.next (event (returnToLearning p) s) = _
    rw [event_run _ s hrun, returnToLearning_eighth hstate h8]
  · have passed : takeEndingGap p false chars s = s.setPort p { s.port p with awaitingIdle := false } := by
      rw [takeEndingGap]
      dsimp only
      rw [if_neg (by rw [hstate]; exact nofun), hwait]
      rfl
    rw [gap _ _ _ _ hrun, passed]
  · rw [gap _ _ _ _ hrun, takeEndingGap_between hbetween, if_pos rfl]

/-! ## What an accepted frame does (R9, R10, R11, R12, R13) -/

section
variable {p : PortId} {idleBefore : Bool} {chars : List LineChar} {s : State} {dest src kind : Byte}
  {payload : List Byte}

/-- The run of characters that carries a built frame dispatches it, with the consecutive-bad count at 0 (R8). -/
theorem exec_frameEndingGap_carries (hrun : s.resetHeld = false) (hbetween : BetweenFrames idleBefore (s.port p))
    (h56 : payload.length ≤ 56) (hcarries : Carries s.parity chars (buildFrame dest src kind payload)) :
    exec (.frameEndingGap p idleBefore chars) s =
      .next (finish (dispatchFrame p ⟨dest, src, kind, payload, buildFrame dest src kind payload⟩
        (s.setPort p { s.port p with awaitingIdle := false, consecutiveBad := 0 }))) := by
  have accepted : acceptedFrame (RxBuffer.empty.pushAll s.parity chars) =
      some ⟨dest, src, kind, payload, buildFrame dest src kind payload⟩ :=
    (acceptedFrame_pushAll_iff _ _ _).mpr ⟨h56, hcarries, rfl⟩
  have nonempty : chars ≠ [] := by
    rintro rfl
    exact nomatch hcarries.1
  show Host.Outcome.next (event (takeEndingGap p idleBefore chars) s) = _
  rw [event_run _ s hrun, takeEndingGap_between hbetween, if_neg nonempty,
    judgeFrame_accepted hbetween.2.1 accepted]

end

theorem dispatchFrame_noAddress (p : PortId) (f : Frame) {s : State} (h : s.ownAddress = none) :
    dispatchFrame p f s = repeatFrame p f.raw s := by
  rw [dispatchFrame, h]
  rfl

theorem dispatchFrame_address (p : PortId) (f : Frame) {s : State} {a : BitVec 6} (h : s.ownAddress = some a) :
    dispatchFrame p f s = match handling f.kind (a.zeroExtend 8 == f.dest) with
      | .repeated => repeatFrame p f.raw s
      | .readAndRepeated => handToBlock p f (repeatFrame p f.raw s)
      | .consumed => handToBlock p f s := by
  rw [dispatchFrame, State.isOwn, h]
  rfl

theorem handedOver_handed {p : PortId} (f : State → State) {s : State} {a : BitVec 6}
    (hstate : (s.port p).state = .running) (ha : s.ownAddress = some a) : handedOver p f s = f s := by
  rw [handedOver, if_pos hstate, ha]
  rfl

/-- A management request's KIND is from 0x60 to 0x6F (R183). -/
theorem requestOf_kind {c : Instr} {r : Request} (h : requestOf c = some r) :
    0x60 ≤ r.kind.toNat ∧ r.kind.toNat ≤ 0x6F := by
  cases c
  all_goals cases h
  case badKind code => revert code; dsimp only; decide
  all_goals dsimp only; decide

theorem isRequestKind_iff (kind : Byte) : isRequestKind kind = true ↔ 0x60 ≤ kind.toNat ∧ kind.toNat ≤ 0x6F := by
  rw [isRequestKind, Bool.and_eq_true, decide_eq_true_iff, decide_eq_true_iff]

/-- Settles O9: the frame that is the request's is accepted, consumed and answered as its command is. -/
theorem requestFrameActsAsCommand : Obligations.RequestFrameActsAsCommand := by
  rintro p b chars s a c r hrun hbetween ha hc rfl h56 hcarries
  have hkind := requestOf_kind hc
  have n21 : r.kind ≠ 0x21 := fun e => by rw [e] at hkind; exact absurd hkind (by decide)
  have n31 : r.kind ≠ 0x31 := fun e => by rw [e] at hkind; exact absurd hkind (by decide)
  rw [exec_frameEndingGap_carries hrun hbetween h56 hcarries, exec_request hc, requestEvent, onHandOver_eq,
    event_run _ _ ((State.setPort_resetHeld _ _ _).trans hrun)]
  have address := (State.setPort_ownAddress s r.port
    { s.port r.port with awaitingIdle := false, consecutiveBad := 0 }).trans ha
  rw [dispatchFrame_address _ _ address, handedOver_handed _ (by rw [State.port_setPort_self]; exact hbetween.1) address]
  simp only [handling, handToBlock, if_neg n21, if_neg n31, (isRequestKind_iff r.kind).mpr hkind, beq_self_eq_true,
    Bool.and_self, if_pos]

theorem repeatFrame_ownAddress (p : PortId) (f : List Byte) (s : State) :
    (repeatFrame p f s).ownAddress = s.ownAddress := State.setPort_ownAddress s _ _

theorem repeatFrame_resetHeld (p : PortId) (f : List Byte) (s : State) :
    (repeatFrame p f s).resetHeld = s.resetHeld := State.setPort_resetHeld s _ _

/-- A frame repeated enters the other port's queue: the port it came in by stays as it is (R10). -/
theorem repeatFrame_port (p : PortId) (f : List Byte) (s : State) : (repeatFrame p f s).port p = s.port p :=
  State.port_setPort_ne s _ (by cases p <;> exact nofun)

/-- The command that hands a frame to a block, on a RUNNING port of a part with an own address (R10). -/
theorem event_handedOver {p : PortId} (f : State → State) {s : State} {a : BitVec 6} (hrun : s.resetHeld = false)
    (hstate : (s.port p).state = .running) (ha : s.ownAddress = some a) :
    Host.Outcome.next (event (handedOver p f) s) = (.next (finish (f s)) : Host.Outcome State Fault Refusal) := by
  rw [event_run _ s hrun, handedOver_handed f hstate ha]

/-- Settles O10: a BUS REPORT and a SIGNAL STATUS frame dispatched as R10's table says, and their blocks' commands. -/
theorem readFramesActAsCommands : Obligations.ReadFramesActAsCommands := by
  rintro p b chars s t a dest src payload hrun hbetween ha rfl
  have trun := (State.setPort_resetHeld s p { s.port p with awaitingIdle := false, consecutiveBad := 0 }).trans hrun
  have address := (State.setPort_ownAddress s p { s.port p with awaitingIdle := false, consecutiveBad := 0 }).trans ha
  have state : ((s.setPort p { s.port p with awaitingIdle := false, consecutiveBad := 0 }).port p).state = .running := by
    rw [State.port_setPort_self]
    exact hbetween.1
  refine ⟨fun hlen hcarries => ?_, fun hlen hcarries => ?_, fun hne h56 hdest hcarries => ?_⟩
  · rw [exec_frameEndingGap_carries hrun hbetween (by omega) hcarries, dispatchFrame_address _ _ address]
    by_cases hdest : dest = a.zeroExtend 8
    · rw [if_pos hdest, hdest]
      refine Eq.trans ?_ (event_handedOver (takeBusReport (busReportOf payload)) trun state address).symm
      simp [handling, handToBlock, hlen]
    · rw [if_neg hdest]
      refine Eq.trans ?_ (event_handedOver (takeBusReport (busReportOf payload))
        ((repeatFrame_resetHeld _ _ _).trans trun) (by rw [repeatFrame_port]; exact state)
        ((repeatFrame_ownAddress _ _ _).trans address)).symm
      simp [handling, handToBlock, hlen, beq_eq_false_iff_ne.mpr (Ne.symm hdest)]
  · rw [exec_frameEndingGap_carries hrun hbetween (by omega) hcarries, dispatchFrame_address _ _ address]
    refine Eq.trans ?_ (event_handedOver (handStatus p src (signalStatusOf payload))
      ((repeatFrame_resetHeld _ _ _).trans trun) (by rw [repeatFrame_port]; exact state)
      ((repeatFrame_ownAddress _ _ _).trans address)).symm
    simp [handling, handToBlock, hlen]
  · rw [exec_frameEndingGap_carries hrun hbetween h56 hcarries, dispatchFrame_address _ _ address, hdest]
    simp [handling, handToBlock, hne]

/-- A frame that no block takes is repeated, and nothing else is done (R9, R10, R11). -/
theorem dispatchFrame_repeated {p : PortId} {f : Frame} {s : State}
    (h : s.ownAddress = none ∨
      (f.kind ≠ 0x21 ∧ f.kind ≠ 0x31 ∧
        ¬ (0x60 ≤ f.kind.toNat ∧ f.kind.toNat ≤ 0x6F ∧ s.ownAddress.map (fun a => a.zeroExtend 8) = some f.dest)) ∨
      (f.kind = 0x21 ∧ f.payload.length ≠ 13 ∧ s.ownAddress.map (fun a => a.zeroExtend 8) ≠ some f.dest) ∨
      (f.kind = 0x31 ∧ f.payload.length ≠ 5)) :
    dispatchFrame p f s = repeatFrame p f.raw s := by
  cases ha : s.ownAddress with
  | none => exact dispatchFrame_noAddress p f ha
  | some a =>
    rw [dispatchFrame_address p f ha]
    rw [ha] at h
    obtain h | ⟨n21, n31, hreq⟩ | ⟨h21, hlen, hdest⟩ | ⟨h31, hlen⟩ := h
    · cases h
    · have notRequest : (isRequestKind f.kind && (a.zeroExtend 8 == f.dest)) = false := by
        rw [Bool.eq_false_iff]
        intro g
        obtain ⟨hk, hd⟩ := Bool.and_eq_true_iff.mp g
        obtain ⟨lo, hi⟩ := (isRequestKind_iff f.kind).mp hk
        exact hreq ⟨lo, hi, congrArg some (beq_iff_eq.mp hd)⟩
      rw [handling, if_neg n21, if_neg n31, notRequest]
      rfl
    · have other : (a.zeroExtend 8 == f.dest) = false :=
        beq_eq_false_iff_ne.mpr fun e => hdest (congrArg some e)
      rw [other, handling, if_pos h21, handToBlock, if_pos h21, if_neg hlen]
      rfl
    · rw [handling, handToBlock, h31]
      simp [hlen]

/-- Settles O11: such a frame is repeated, and the opposite port takes it or counts it as dropped. -/
theorem otherFramesAreRepeated : Obligations.OtherFramesAreRepeated := by
  rintro p b chars s t dest src kind payload q hrun hbetween h56 hcarries hcase rfl rfl
  rw [exec_frameEndingGap_carries hrun hbetween h56 hcarries, dispatchFrame_repeated (by
    rw [State.setPort_ownAddress]; exact hcase), repeatFrame, State.port_setPort_opposite]
  rfl

end Sys2Proof.Machine
end

section
/-! Generating calls and CANCELs, and the state after a reset. -/

namespace Sys2Proof.Machine

/-! ## Calls and CANCELs (R14, R15, R135, R143, R146, R149) -/

theorem placeCall_ctx (k : SignalId) (c : CallContent) (s : State) (j : SignalId) :
    (placeCall k c s).ctx j = s.ctx j := by
  unfold placeCall
  split <;> simp

theorem placeCall_record (k : SignalId) (c : CallContent) (s : State) (i : SlotId) :
    (placeCall k c s).record i = s.record i := by
  unfold placeCall
  split <;> simp

/-- The call that is placed stands in the queue of its signal's port (R14, R15). -/
theorem placeCall_mem (k : SignalId) (c : CallContent) (s : State) (q : PortId)
    (h : (s.signalEntry k).configuredPort = some q) :
    (⟨k, (s.signalEntry k).cabinet, c⟩ : CallSlot) ∈ ((placeCall k c s).port q).callQueue := by
  rw [placeCall_port, if_pos h]
  exact placeInQueue_self _ _

/-- The place of a call depends on the table store and the ports of the state before it. -/
theorem CallGenerated.congr {k : SignalId} {c : CallContent} {s u t : State} (h : CallGenerated k c u t)
    (htables : u.tables = s.tables) (hport : ∀ p, u.port p = s.port p) : CallGenerated k c s t := by
  intro p
  have hp := h p
  rwa [hport p, State.signalEntry, htables] at hp

/-- The direction of a call: both when the plan in effect shares its greens (R15). -/
theorem callDirection_eq (plan : PlanEntry) (d : Direction) :
    callDirection plan d = if plan.shared ≠ 0 then .both else if d = .a then .a else .b := by
  simp only [callDirection, flagSet, bne_iff_ne]
  split
  · rfl
  · cases d <;> rfl

/-- The state of a call's generation before the call is placed: the context and the record that it charges (R135, R143). -/
def charged (k : SignalId) (i : SlotId) (r : RequestRecord) (action : CallAction) (n : Nat) (content : CallContent)
    (s : State) : State :=
  (s.setCtx k ((s.ctx k).withCall content (n - r.committed) (later s.clock (s.planInEffect k).refreshDelay))).modRecord i
    fun q => q.withCall action n

theorem generateCall_eq (k : SignalId) (i : SlotId) (r : RequestRecord) (action : CallAction) (n : Nat) (pf : Bool)
    (s : State) :
    generateCall k i r action n pf s = placeCall k (callContent (s.planInEffect k) r action n pf)
      (charged k i r action n (callContent (s.planInEffect k) r action n pf) s) := rfl

theorem charged_ctx (k : SignalId) (i : SlotId) (r : RequestRecord) (action : CallAction) (n : Nat)
    (content : CallContent) (s : State) :
    (charged k i r action n content s).ctx k =
      (s.ctx k).withCall content (n - r.committed) (later s.clock (s.planInEffect k).refreshDelay) := by
  simp [charged]

theorem charged_record (k : SignalId) (i : SlotId) (r : RequestRecord) (action : CallAction) (n : Nat)
    (content : CallContent) (s : State) (h : s.record i = some r) :
    (charged k i r action n content s).record i = some (r.withCall action n) := by
  simp [charged, h]

theorem charged_port (k : SignalId) (i : SlotId) (r : RequestRecord) (action : CallAction) (n : Nat)
    (content : CallContent) (s : State) (p : PortId) : (charged k i r action n content s).port p = s.port p := by
  simp [charged]

theorem charged_tables (k : SignalId) (i : SlotId) (r : RequestRecord) (action : CallAction) (n : Nat)
    (content : CallContent) (s : State) : (charged k i r action n content s).tables = s.tables := rfl

theorem generateCancel_eq {k : SignalId} {s : State} {c : CallContent} (h : (s.ctx k).call = some c) :
    generateCancel k s = placeCall k c.cancelled (s.setCtx k (s.ctx k).withoutCall) := by
  rw [generateCancel, h]

/-- Settles O44: a call and a CANCEL are each an update of the context and record, and one placing in a queue. -/
theorem callsAndCancels : Obligations.CallsAndCancels := by
  refine ⟨fun k i r action n pf s t c hr ht hc => ?_, fun k s c hcall => ?_, fun x src covered hcovered => ?_⟩
  · have content : callContent (s.planInEffect k) r action n pf = c := by
      rw [hc, callContent, callDirection_eq]
    rw [generateCall_eq, content] at ht
    subst ht
    refine ⟨?_, ?_, ?_, fun q hq => placeCall_mem k c (charged k i r action n c s) q hq⟩
    · rw [placeCall_ctx, charged_ctx]
      rfl
    · rw [placeCall_record, charged_record _ _ _ _ _ _ _ hr]
      rfl
    · exact (callGenerated_placeCall k c _).congr (charged_tables ..) (charged_port k i r action n c s)
  · rw [generateCancel_eq hcall]
    refine ⟨?_, fun i => ?_, ?_, fun q hq => placeCall_mem k c.cancelled (s.setCtx k (s.ctx k).withoutCall) q hq⟩
    · rw [placeCall_ctx, State.ctx_setCtx_self]
      rfl
    · rw [placeCall_record, State.record_setCtx]
    · exact (callGenerated_placeCall k c.cancelled _).congr rfl (State.port_setCtx s k _)
  · subst hcovered
    simp [CallSlot.frame, buildFrame, CallContent.bytes, halfBytes, flagByte, byteOf, syncByte]

/-! ## The state after a reset (R20, R74, R81, R117, R157, R159, R172, R180, R182) -/

theorem reset_silent : Silent State.reset := silent_afterReset State.reset false (some Config.resetStraps)

theorem reset_port (p : PortId) : State.reset.port p = Port.reset := by
  cases p <;> rfl

theorem reset_record (i : SlotId) : State.reset.record i = none := reset_silent.record i

theorem reset_ctx (k : SignalId) : State.reset.ctx k = SignalContext.reset := reset_silent.ctx k

theorem reset_validity (id : TableId) : State.reset.validity.get id = .invalid := by
  cases id <;> rfl

theorem bytes_replicate {α : Type} {n i : Nat} (h : i < n) (x : α) (bytes : α → List Byte) :
    (((Vector.replicate n x)[i]?).map bytes).getD [] = bytes x := by
  rw [Vector.getElem?_replicate, if_pos h]
  rfl

/-- Every entry of the table store is zero after a reset (R157). -/
theorem reset_entryBytes (id : TableId) (i : Nat) (h : i < id.entries) :
    State.reset.tables.entryBytes id i = List.replicate id.entrySize 0 := by
  cases id
  case global =>
    obtain rfl : i = 0 := Nat.lt_one_iff.mp h
    rfl
  all_goals exact bytes_replicate h _ _

/-- Settles O4: each part of the reset state as it is written. -/
theorem resetValuesHold : Obligations.ResetValues :=
  ⟨reset_port, rfl, rfl, rfl, reset_record, reset_ctx, fun _ => Vector.getElem_replicate _, rfl, reset_entryBytes,
    reset_validity, rfl, rfl, rfl, rfl⟩

/-- Every row of R169 concerns a table. -/
theorem checkRows_tables_ne_nil (own : Option (BitVec 6)) (t : TableStore) : ∀ r ∈ checkRows own t, r.tables ≠ [] := by
  simp only [checkRows, List.forall_mem_cons]
  simp

theorem reset_derivedOk : DerivedOk State.reset := by
  refine ⟨fun k => ?_, rfl, rfl⟩
  rw [reset_ctx, serviceState, if_pos (by rw [Bool.or_eq_true]; exact .inr rfl)]
  rfl

/-- Settles O5: no record, no load, no call and nothing waiting, and each context at its reset values. -/
theorem resetMeetsInvariants : Obligations.ResetMeetsInvariants := by
  have noRecord {P : SlotId × RequestRecord → Prop} : ∀ x ∈ State.reset.records, P x := by
    rw [reset_silent.records]
    exact List.forall_mem_nil _
  have running (p : PortId) : (State.reset.port p).state ≠ .running := by
    rw [reset_port]
    exact nofun
  refine ⟨reset_derivedOk, ⟨by decide, nofun⟩, ?queues, noRecord, noRecord, ⟨fun k i h => ?holder, noRecord⟩,
    fun k _ => ?holderState, fun k => ?taken, fun k => ?budget, fun k => ?calls, fun p c hc => ?queued,
    fun k h => ?counts, ⟨nofun, fun id h => ?load⟩, fun r hr h => ?checks, fun h => absurd rfl h, fun k => ?lockout,
    noRecord, noRecord, noRecord, fun p => ⟨fun h => absurd h (running p), fun _ => ?rate⟩,
    fun p h => absurd h (running p), fun p f h => ?line, nofun⟩
  case queues =>
    rw [queuesOk_iff]
    intro p
    refine ⟨?_, ?_, ?_⟩ <;> rw [reset_port]
    · exact Nat.zero_le _
    · exact List.nodup_nil
    · exact nofun
  case holder => rw [reset_ctx] at h; cases h
  case holderState => rw [reset_ctx]; rfl
  case taken => rw [reset_ctx]; exact ⟨fun _ => rfl, fun _ => rfl⟩
  case budget =>
    have spent : (State.reset.ctx k).spent = 0 := by rw [reset_ctx]; rfl
    rw [spent]
    exact ⟨Nat.zero_le _, fun _ => rfl, fun _ => rfl⟩
  case calls => rw [reset_ctx]; exact ⟨nofun, ⟨nofun, nofun⟩⟩
  case queued => rw [reset_port] at hc; cases hc
  case counts => rw [reset_ctx] at h; cases h
  case load => rw [reset_validity] at h; cases h
  case checks =>
    obtain ⟨id, hid⟩ := List.exists_mem_of_ne_nil _ (checkRows_tables_ne_nil _ _ r hr)
    have := h id hid
    rw [reset_validity] at this
    cases this
  case lockout => rw [reset_ctx]; exact Nat.zero_le _
  case rate => rw [reset_port]; rfl
  case line => rw [reset_port] at h; cases h

end Sys2Proof.Machine
end

section
/-! The end of a load and CORRIDOR RESET: what recomputing every service state and the evaluations after it do (R111, R112,
R168, R170, R179). -/

namespace Sys2Proof.Machine

/-! ## Service states (R111, R112) -/

/-- The values of a context that its service state depends on (R111). -/
def SignalContext.gates (c : SignalContext) : Freshness × Bool × PlanId × Nat :=
  (c.freshness, c.accepting, c.plan, c.lockout)

/-- A service state depends on the configuration and the gates of its context (R111). -/
theorem serviceState_congr {s t : State} {k : SignalId} (h : SameConfig s t)
    (hgates : (t.ctx k).gates = (s.ctx k).gates) : serviceState k t = serviceState k s := by
  simp only [SignalContext.gates, Prod.mk.injEq] at hgates
  obtain ⟨hfresh, haccepting, hplan, hlockout⟩ := hgates
  simp only [serviceState, State.signalEntry, State.covered, State.isDisabled, State.planInEffect, h.tables, h.validity,
    h.load, h.disabled, hfresh, haccepting, hplan, hlockout]
  rfl

/-- The corridor mode depends on the configuration (R172). -/
theorem corridorMode_congr {s t : State} (h : SameConfig s t) : corridorMode t = corridorMode s := by
  simp only [corridorMode, State.corridorLoad, h.ownAddress, h.validity, h.load]
  rfl

/-- With a table INVALID every signal is UNCONFIGURED (R111). -/
theorem serviceState_anyInvalid {s : State} (k : SignalId) (h : s.validity.anyInvalid = true) :
    serviceState k s = .unconfigured := by
  rw [serviceState, h, Bool.or_true, if_pos rfl]

theorem anyInvalid_set (v : Validities) (id : TableId) : (v.set id .invalid).anyInvalid = true := by
  cases id <;> simp [Validities.set, Validities.anyInvalid]

theorem recompute_ctx (k j : SignalId) (s : State) :
    (recompute k s).ctx j = if j = k then { s.ctx j with state := serviceState j s } else s.ctx j := by
  split
  · next h => subst h; exact recompute_ctx_self j s
  · next h => exact recompute_ctx_ne s h

theorem serviceState_recompute (k j : SignalId) (s : State) : serviceState j (recompute k s) = serviceState j s := by
  refine serviceState_congr (recompute_keeps k s) ?_
  rw [recompute_ctx]
  split <;> rfl

/-- Recomputing the states of some signals sets each to what R111 gives, and leaves the other contexts (R112). -/
theorem recomputeAll_ctx (l : List SignalId) (j : SignalId) (s : State) :
    (recomputeAll l s).ctx j = if j ∈ l then { s.ctx j with state := serviceState j s } else s.ctx j := by
  induction l generalizing s with
  | nil => rfl
  | cons k l ih =>
    rw [recomputeAll, List.foldl_cons]
    refine (ih (recompute k s)).trans ?_
    rw [recompute_ctx, serviceState_recompute]
    by_cases e : j = k <;> by_cases hj : j ∈ l <;> simp [e, hj]

theorem recomputeAll_record (l : List SignalId) (s : State) (i : SlotId) :
    (recomputeAll l s).record i = s.record i := by
  induction l generalizing s with
  | nil => rfl
  | cons k l ih =>
    rw [recomputeAll, List.foldl_cons]
    exact (ih (recompute k s)).trans (recompute_record k s i)

theorem mem_allSignals (k : SignalId) : k ∈ allSignals := List.mem_finRange k

theorem recomputeAll_all_ctx (k : SignalId) (s : State) :
    (recomputeAll allSignals s).ctx k = { s.ctx k with state := serviceState k s } := by
  rw [recomputeAll_ctx, if_pos (mem_allSignals k)]

theorem serviceState_recomputeAll (l : List SignalId) (k : SignalId) (s : State) :
    serviceState k (recomputeAll l s) = serviceState k s := by
  refine serviceState_congr (works_recomputeAll l s).toSameConfig ?_
  rw [recomputeAll_ctx]
  split <;> rfl

/-! ## Evaluations (R120, R123, R124) -/

/-- From s to t signals have evaluated: nothing but the service of signals and records has changed (R120). -/
structure Evaluated (s t : State) : Prop extends SameConfig s t where
  ctx : ∀ k, (t.ctx k).unserved = (s.ctx k).unserved
  record : ∀ i, (t.record i).map RequestRecord.unserved = (s.record i).map RequestRecord.unserved

theorem Evaluated.refl (s : State) : Evaluated s s where
  toSameConfig := SameConfig.refl s
  ctx _ := rfl
  record _ := rfl

theorem Evaluated.trans {s t u : State} (h : Evaluated s t) (g : Evaluated t u) : Evaluated s u where
  toSameConfig := h.toSameConfig.trans g.toSameConfig
  ctx k := (g.ctx k).trans (h.ctx k)
  record i := (g.record i).trans (h.record i)

theorem Serves.evaluated {k : SignalId} {s t : State} (h : Serves k s t) : Evaluated s t where
  toSameConfig := h.keeps
  ctx := h.ctxUnserved
  record := h.record

theorem evaluated_evaluateAll (l : List SignalId) (s : State) : Evaluated s (evaluateAll l s) := by
  unfold evaluateAll
  induction l generalizing s with
  | nil => exact Evaluated.refl s
  | cons k l ih => exact (serves_evaluate k s).evaluated.trans (ih _)

theorem Evaluated.state {s t : State} (h : Evaluated s t) (k : SignalId) : (t.ctx k).state = (s.ctx k).state := by
  have e := congrArg SignalContext.state (h.ctx k)
  exact e

theorem Evaluated.serviceState {s t : State} (h : Evaluated s t) (k : SignalId) :
    serviceState k t = serviceState k s := by
  refine serviceState_congr h.toSameConfig ?_
  have e := congrArg SignalContext.gates (h.ctx k)
  exact e

/-- A state in which a signal takes no service. -/
def ServiceState.unserved (x : ServiceState) : Prop := x = .unconfigured ∨ x = .suspended

theorem eligible_unserved {k : SignalId} {s : State} (h : (s.ctx k).state.unserved) (r : RequestRecord) :
    eligible k s r = false := by
  unfold eligible
  obtain h | h := h <;> rw [h] <;> rfl

theorem candidate_unserved {k : SignalId} {s : State} (h : (s.ctx k).state.unserved) : candidate k s = none := by
  have none : (s.records.filter fun x => eligible k s x.2) = [] :=
    List.filter_eq_nil_iff.mpr fun x _ => by rw [eligible_unserved h]; exact Bool.false_ne_true
  rw [candidate, none]
  rfl

theorem holderOf_none {k : SignalId} {s : State} (h : (s.ctx k).holder = none) : s.holderOf k = none := by
  rw [State.holderOf, h]

theorem holderOf_some {k : SignalId} {s : State} {i : SlotId} {r : RequestRecord} (h : (s.ctx k).holder = some i)
    (hr : s.record i = some r) : s.holderOf k = some (i, r) := by
  rw [State.holderOf, h]
  dsimp only
  rw [hr]
  rfl

theorem serveHolder_none {k : SignalId} {s : State} (h : (s.ctx k).holder = none) : serveHolder k s = s := by
  rw [serveHolder, holderOf_none h]

/-- A signal that takes no service and has no holder does nothing when it evaluates (R123). -/
theorem evaluate_unserved {k : SignalId} {s : State} (hstate : (s.ctx k).state.unserved)
    (h : (s.ctx k).holder = none) : evaluate k s = s := by
  have settled : settleHolder k s = s := by
    unfold settleHolder
    dsimp only
    rw [holderOf_none h, candidate_unserved hstate]
    rfl
  rw [evaluate, settled, serveHolder_none h]

/-- A signal that takes no service lets its holder and its call go when it evaluates (R123, R124). -/
theorem evaluate_releases {k : SignalId} {s : State} (hstate : (s.ctx k).state.unserved)
    (hrecord : ∀ i, (s.ctx k).holder = some i → (s.record i).isSome = true)
    (hcall : (s.ctx k).call.isSome = true → (s.ctx k).holder.isSome = true) :
    ((evaluate k s).ctx k).holder = none ∧ ((evaluate k s).ctx k).call = none := by
  cases hh : (s.ctx k).holder with
  | none =>
    rw [evaluate_unserved hstate hh]
    refine ⟨hh, ?_⟩
    rw [hh] at hcall
    exact Option.not_isSome_iff_eq_none.mp fun g => nomatch hcall g
  | some i =>
    obtain ⟨r, hr⟩ := Option.isSome_iff_exists.mp (hrecord i hh)
    have settled : settleHolder k s = giveUp k s := by
      unfold settleHolder
      dsimp only
      rw [holderOf_some hh hr]
      dsimp only
      rw [eligible_unserved hstate, candidate_unserved hstate]
      rfl
    have released := giveUp_holder k s
    rw [evaluate, settled, serveHolder_none released.1]
    exact released

/-- After the evaluations a signal that takes no service, and evaluates if it has a holder, has neither holder nor call. -/
theorem evaluateAll_releases (l : List SignalId) {k : SignalId} {s : State} (hstate : (s.ctx k).state.unserved)
    (hrecord : ∀ i, (s.ctx k).holder = some i → (s.record i).isSome = true)
    (hcall : (s.ctx k).call.isSome = true → (s.ctx k).holder.isSome = true)
    (hmem : k ∈ l ∨ (s.ctx k).holder = none) :
    ((evaluateAll l s).ctx k).holder = none ∧ ((evaluateAll l s).ctx k).call = none := by
  induction l generalizing s with
  | nil =>
    have hh := hmem.resolve_left List.not_mem_nil
    rw [hh] at hcall
    exact ⟨hh, Option.not_isSome_iff_eq_none.mp fun g => nomatch hcall g⟩
  | cons j l ih =>
    have serves := serves_evaluate j s
    refine ih (s := evaluate j s) (serves.state k ▸ hstate) ?_ ?_ ?_
    all_goals by_cases e : k = j
    case neg =>
      intro i
      rw [serves.ctxOther k e, serves.record_isSome]
      exact hrecord i
    case neg => rw [serves.ctxOther k e]; exact hcall
    case neg => rw [serves.ctxOther k e]; exact hmem.imp_left fun h => (List.mem_cons.mp h).resolve_left e
    all_goals
      subst e
      obtain ⟨hh, hc⟩ := evaluate_releases hstate hrecord hcall
    · intro i h
      rw [hh] at h
      cases h
    · intro h
      rw [hc] at h
      cases h
    · exact .inr hh

/-! ## The end of a load (R167, R168, R170) -/

/-- A load ends: its table takes a validity, the parity a setting, and the corridor mode is recomputed (R168, R170). -/
def endLoad (v : Parity) (id : TableId) (w : Validity) (s : State) : State :=
  updateMode { setParity v s with load := none, validity := s.validity.set id w }

theorem abandonLoad_eq (id : TableId) (s : State) :
    abandonLoad id s = endLoad (if id = .global then .noParity else s.parity) id .invalid s := rfl

theorem closeLoad_eq (id : TableId) (s : State) :
    closeLoad id s = recomputeAndEvaluate (endLoad
      (if id = .global then (parityOf s.tables.global.parity).getD s.parity else s.parity) id .valid s) := rfl

theorem endLoad_port (v : Parity) (id : TableId) (w : Validity) (s : State) (p : PortId) :
    (endLoad v id w s).port p = (setParity v s).port p := by
  cases p <;> rfl

theorem endLoad_parity (v : Parity) (id : TableId) (w : Validity) (s : State) : (endLoad v id w s).parity = v :=
  setParity_parity v s

/-- What the end of a load leaves: the tables, the contexts, the records, the flags, the clock and the own address. -/
theorem endLoad_keeps (v : Parity) (id : TableId) (w : Validity) (s : State) :
    (endLoad v id w s).tables = s.tables ∧ (endLoad v id w s).ctxs = s.ctxs ∧ (endLoad v id w s).slots = s.slots ∧
      (endLoad v id w s).disabled = s.disabled ∧ (endLoad v id w s).observe = s.observe ∧
      (endLoad v id w s).clock = s.clock ∧ (endLoad v id w s).ownAddress = s.ownAddress := by
  have keeps : (setParity v s).tables = s.tables ∧ (setParity v s).ctxs = s.ctxs ∧ (setParity v s).slots = s.slots ∧
      (setParity v s).disabled = s.disabled ∧ (setParity v s).observe = s.observe ∧
      (setParity v s).clock = s.clock ∧ (setParity v s).ownAddress = s.ownAddress := by
    rw [setParity_rest]
    exact ⟨rfl, rfl, rfl, rfl, rfl, rfl, rfl⟩
  exact keeps

theorem endLoad_ctx (v : Parity) (id : TableId) (w : Validity) (s : State) (k : SignalId) :
    (endLoad v id w s).ctx k = s.ctx k := by
  obtain ⟨-, hctxs, -⟩ := endLoad_keeps v id w s
  simp only [State.ctx, hctxs]

theorem endLoad_record (v : Parity) (id : TableId) (w : Validity) (s : State) (i : SlotId) :
    (endLoad v id w s).record i = s.record i := by
  obtain ⟨-, -, hslots, -⟩ := endLoad_keeps v id w s
  simp only [State.record, hslots]

/-- The receiving side of a port depends on the port but for what it sends and has waiting. -/
theorem SameReceiver.of_eq {q r : Port} (h : r = { q with callQueue := r.callQueue, txd := r.txd }) :
    SameReceiver q r := by
  rw [h]
  constructor <;> rfl

/-- What a request that ends a load leaves behind: every service state recomputed and the changed signals evaluated. -/
structure LoadEnded (v : Parity) (id : TableId) (w : Validity) (s u : State) : Prop where
  load : u.load = none
  validity : u.validity = s.validity.set id w
  tables : u.tables = s.tables
  parity : u.parity = v
  mode : u.mode = corridorMode u
  port : ∀ q, SameReceiver (s.port q) (u.port q) ∧ SentOn s.parity (s.port q) (u.port q) ∧
    (u.parity = s.parity → (u.port q).txd = (s.port q).txd)
  state : ∀ k, (u.ctx k).state = serviceState k u
  clock : u.clock = s.clock
  disabled : u.disabled = s.disabled
  observe : u.observe = s.observe
  ownAddress : u.ownAddress = s.ownAddress
  record : ∀ i, (u.record i).map RequestRecord.unserved = (s.record i).map RequestRecord.unserved

theorem acted_endLoad (v : Parity) (id : TableId) (w : Validity) (s : State) : Acted s (endLoad v id w s) :=
  (acted_setParity v s).trans_quiet ((quiet_configure _ _ _ _ _ _).trans (quiet_updateMode _))

theorem recomputeAndEvaluate_eq (s : State) :
    recomputeAndEvaluate s = evaluateAll
      (allSignals.filter fun k => ((recomputeAll allSignals s).ctx k).state != (s.ctx k).state)
      (recomputeAll allSignals s) := rfl

/-- After all states are recomputed and the changed signals have evaluated, each state is what R111 gives. -/
theorem recomputeAndEvaluate_state (k : SignalId) (s : State) :
    ((recomputeAndEvaluate s).ctx k).state = serviceState k s ∧
      serviceState k (recomputeAndEvaluate s) = serviceState k s := by
  have evaluated := evaluated_evaluateAll
    (allSignals.filter fun k => ((recomputeAll allSignals s).ctx k).state != (s.ctx k).state)
    (recomputeAll allSignals s)
  rw [recomputeAndEvaluate_eq]
  constructor
  · rw [evaluated.state, recomputeAll_all_ctx]
  · rw [evaluated.serviceState, serviceState_recomputeAll]

theorem recomputeAndEvaluate_record (s : State) (i : SlotId) :
    ((recomputeAndEvaluate s).record i).map RequestRecord.unserved = (s.record i).map RequestRecord.unserved := by
  rw [recomputeAndEvaluate_eq, (evaluated_evaluateAll _ _).record, recomputeAll_record]

theorem loadEnded_endLoad (v : Parity) (id : TableId) (w : Validity) (s : State) :
    LoadEnded v id w s (recomputeAndEvaluate (endLoad v id w s)) := by
  have keeps := works_recomputeAndEvaluate (endLoad v id w s)
  obtain ⟨htables, -, -, hdisabled, hobserve, hclock, hown⟩ := endLoad_keeps v id w s
  exact {
    load := keeps.load
    validity := keeps.validity
    tables := keeps.tables.trans htables
    parity := keeps.parity.trans (endLoad_parity v id w s)
    mode := keeps.mode.trans (corridorMode_congr keeps.toSameConfig).symm
    port := fun q => by
      refine ⟨SameReceiver.of_eq ?_, ((acted_endLoad v id w s).trans_quiet keeps.quiet).sentOn q⟩
      rw [keeps.port q, endLoad_port, setParity_port_rest]
    state := fun k => by
      obtain ⟨hstate, hservice⟩ := recomputeAndEvaluate_state k (endLoad v id w s)
      exact hstate.trans hservice.symm
    clock := keeps.clock.trans hclock
    disabled := keeps.disabled.trans hdisabled
    observe := keeps.observe.trans hobserve
    ownAddress := keeps.ownAddress.trans hown
    record := fun i => by rw [recomputeAndEvaluate_record, endLoad_record] }

theorem loadFrom_none {p : PortId} {s : State} (h : ∀ l, s.load = some l → l.port ≠ p) : loadFrom p s = none := by
  unfold loadFrom
  split
  · rfl
  · next l hl => exact if_neg (h l hl)

theorem loadFrom_some {p : PortId} {s : State} {l : LoadContext} (h : s.load = some l) (hp : l.port = p) :
    loadFrom p s = some l := by
  rw [loadFrom, h]
  exact if_pos hp

/-- A request by its effect and answer, on a part that answers it (R12, R17). -/
theorem exec_answered {c : Instr} {r : Request} {s t : State} {a : Answer} (hc : requestOf c = some r)
    (h : Answers s r.port) (hact : actRequest r.port r.kind r.payload s = (t, a)) :
    exec c s = .next (finish (placeReply r.port r.src a t)) := by
  rw [exec_request hc, requestEvent_of_answers h, hact]

/-- Settles O23: the refusals in their order, and the end of a load that passes every check. -/
theorem tableCloseValidates : Obligations.TableCloseValidates := by
  refine ⟨fun p src s h hnone => ?_, fun p src s l h hl hp => ⟨fun hbuffer => ?_, fun hbuffer hexpected hcount => ?_,
    fun hbuffer hcount id i hcheck => ?_⟩, fun p src s l h hl hp hbuffer hcount hcheck => ?_⟩
  · refine exec_answered (r := ⟨p, src, 0x68, []⟩) rfl h ?_
    show actTableClose p [] s = _
    rw [actTableClose, needLength_right 0x68 0 [] _ s rfl, loadFrom_none hnone]
    rfl
  · refine exec_answered (r := ⟨p, src, 0x68, []⟩) rfl h ?_
    show actTableClose p [] s = _
    rw [actTableClose, needLength_right 0x68 0 [] _ s rfl, loadFrom_some hl hp]
    exact if_pos hbuffer
  · refine exec_answered (r := ⟨p, src, 0x68, []⟩) rfl h ?_
    show actTableClose p [] s = _
    rw [actTableClose, needLength_right 0x68 0 [] _ s rfl, loadFrom_some hl hp]
    dsimp only
    rw [if_neg (not_not_intro hbuffer), if_pos ⟨hexpected, hcount⟩]
    rfl
  · refine exec_answered (r := ⟨p, src, 0x68, []⟩) rfl h ?_
    show actTableClose p [] s = _
    rw [actTableClose, needLength_right 0x68 0 [] _ s rfl, loadFrom_some hl hp]
    dsimp only
    rw [if_neg (not_not_intro hbuffer), if_neg (by omega), hcheck]
    rfl
  · have ended := loadEnded_endLoad
      (if l.table = .global then (parityOf s.tables.global.parity).getD s.parity else s.parity) l.table .valid s
    rw [← closeLoad_eq] at ended
    refine ⟨closeLoad l.table s, exec_answered (r := ⟨p, src, 0x68, []⟩) rfl h ?_, ended.load, ended.validity,
      ended.tables, ended.parity, ended.port, ended.mode, ended.state, ended.clock, ended.disabled, ended.observe,
      ended.ownAddress, ended.record⟩
    show actTableClose p [] s = _
    rw [actTableClose, needLength_right 0x68 0 [] _ s rfl, loadFrom_some hl hp]
    dsimp only
    rw [if_neg (not_not_intro hbuffer), if_neg (by omega), hcheck]
    rfl

/-- After a load is abandoned every signal is UNCONFIGURED, without a holder or a call (R111, R124, R170). -/
theorem abandoned_releases (v : Parity) (id : TableId) (s : State) (hholders : HoldersOk s)
    (hstates : HolderStatesOk s) (hcalls : CallsOk s) (k : SignalId) :
    ((recomputeAndEvaluate (endLoad v id .invalid s)).ctx k).state = .unconfigured ∧
      ((recomputeAndEvaluate (endLoad v id .invalid s)).ctx k).holder = none ∧
      ((recomputeAndEvaluate (endLoad v id .invalid s)).ctx k).call = none := by
  have unconfigured : serviceState k (endLoad v id .invalid s) = .unconfigured :=
    serviceState_anyInvalid k (anyInvalid_set s.validity id)
  have ctx : (recomputeAll allSignals (endLoad v id .invalid s)).ctx k = { s.ctx k with state := .unconfigured } := by
    rw [recomputeAll_all_ctx, unconfigured, endLoad_ctx]
  refine ⟨(recomputeAndEvaluate_state k _).1.trans unconfigured, ?_⟩
  rw [recomputeAndEvaluate_eq]
  refine evaluateAll_releases _ ?_ (fun i hi => ?_) ?_ ?_
  · rw [ctx]
    exact .inl rfl
  · rw [ctx] at hi
    obtain ⟨x, hx, rfl, -⟩ := hholders.1 k i hi
    rw [recomputeAll_record, endLoad_record, (s.mem_records x).mp hx]
    rfl
  · rw [ctx]
    exact fun hcall => ((hcalls k).1 hcall).1
  · rw [ctx]
    by_cases changed : (s.ctx k).state = .unconfigured
    · exact .inr (hstates k (.inl changed))
    · refine .inl (List.mem_filter.mpr ⟨mem_allSignals k, ?_⟩)
      rw [ctx, endLoad_ctx]
      exact bne_iff_ne.mpr (Ne.symm changed)

/-- Settles O24: an abandoned load ends with its table INVALID, which takes every signal out of service. -/
theorem tableAbandonLeavesInvalid : Obligations.TableAbandonLeavesInvalid := by
  refine ⟨fun p src s h hnone => ?_, fun p src s l h _ hholders hstates hcalls hl => ?_⟩
  · refine exec_answered (r := ⟨p, src, 0x69, []⟩) rfl h ?_
    show actTableAbandon [] s = _
    rw [actTableAbandon, needLength_right 0x69 0 [] _ s rfl, hnone]
    rfl
  · have ended := loadEnded_endLoad (if l.table = .global then .noParity else s.parity) l.table .invalid s
    refine ⟨_, exec_answered (r := ⟨p, src, 0x69, []⟩) rfl h ?_, ended.load, ended.validity, ended.tables,
      ended.parity, ended.mode, ended.port, abandoned_releases _ l.table s hholders hstates hcalls, ended.clock,
      ended.disabled, ended.observe, ended.ownAddress, ended.record⟩
    show actTableAbandon [] s = _
    rw [actTableAbandon, needLength_right 0x69 0 [] _ s rfl, hl]
    dsimp only
    rw [abandonLoad_eq]
    rfl

end Sys2Proof.Machine
end

section
/-! CORRIDOR RESET (R21, R81, R117, R170, R179). -/

namespace Sys2Proof.Machine

/-! ## Its steps -/

/-- The request table emptied and every context at its reset values (R81, R117). -/
def emptied (s : State) : State :=
  { s with slots := Vector.replicate 40 none, ctxs := Vector.replicate 16 SignalContext.reset }

/-- Every service state recomputed without a report (R117). -/
def recomputeAllSilently (l : List SignalId) (s : State) : State := l.foldl (fun t k => recomputeSilently k t) s

/-- The call queues and the report queue emptied (R21, R179). -/
def withoutWaiting (s : State) : State :=
  { s with west := s.west.withoutCalls, east := s.east.withoutCalls, reports := [] }

theorem corridorReset_eq (s : State) :
    corridorReset s = withoutWaiting (recomputeAllSilently allSignals (emptied (abandonOpenLoad s))) := rfl

theorem emptied_keeps (s : State) : SameConfig s (emptied s) := by
  constructor <;> rfl

theorem emptied_ctx (k : SignalId) (s : State) : (emptied s).ctx k = SignalContext.reset :=
  Vector.getElem_replicate _

theorem emptied_record (i : SlotId) (s : State) : (emptied s).record i = none := Vector.getElem_replicate _

theorem emptied_port (p : PortId) (s : State) : (emptied s).port p = s.port p := by
  cases p <;> rfl

theorem withoutWaiting_keeps (s : State) : SameConfig s (withoutWaiting s) := by
  constructor <;> rfl

theorem withoutWaiting_port (p : PortId) (s : State) : (withoutWaiting s).port p = (s.port p).withoutCalls := by
  cases p <;> rfl

theorem withoutWaiting_ctx (k : SignalId) (s : State) : (withoutWaiting s).ctx k = s.ctx k := rfl

theorem withoutWaiting_record (i : SlotId) (s : State) : (withoutWaiting s).record i = s.record i := rfl

theorem works_recomputeAllSilently (l : List SignalId) (s : State) : Works s (recomputeAllSilently l s) :=
  works_foldl _ (fun u k => works_recomputeSilently k u) l s

theorem recomputeAllSilently_record (l : List SignalId) (s : State) (i : SlotId) :
    (recomputeAllSilently l s).record i = s.record i := by
  induction l generalizing s with
  | nil => rfl
  | cons k l ih => exact ih (recomputeSilently k s)

theorem recomputeSilently_ctx (k j : SignalId) (s : State) :
    (recomputeSilently k s).ctx j = if j = k then { s.ctx j with state := serviceState j s } else s.ctx j := by
  split
  · next h => subst h; exact State.ctx_setCtx_self s j _
  · next h => exact State.ctx_setCtx_ne s _ h

theorem serviceState_recomputeSilently (k j : SignalId) (s : State) :
    serviceState j (recomputeSilently k s) = serviceState j s := by
  refine serviceState_congr (works_recomputeSilently k s).toSameConfig ?_
  rw [recomputeSilently_ctx]
  split <;> rfl

theorem recomputeAllSilently_ctx (l : List SignalId) (j : SignalId) (s : State) :
    (recomputeAllSilently l s).ctx j = if j ∈ l then { s.ctx j with state := serviceState j s } else s.ctx j := by
  induction l generalizing s with
  | nil => rfl
  | cons k l ih =>
    refine (ih (recomputeSilently k s)).trans ?_
    rw [recomputeSilently_ctx, serviceState_recomputeSilently]
    by_cases e : j = k <;> by_cases hj : j ∈ l <;> simp [e, hj]

/-! ## The abandoned load (R170) -/

theorem abandonOpenLoad_none {s : State} (h : s.load = none) : abandonOpenLoad s = s := by
  rw [abandonOpenLoad, h]

theorem abandonOpenLoad_some {s : State} {l : LoadContext} (h : s.load = some l) :
    abandonOpenLoad s = endLoad (if l.table = .global then .noParity else s.parity) l.table .invalid s := by
  rw [abandonOpenLoad, h]
  exact abandonLoad_eq l.table s

theorem abandonOpenLoad_load (s : State) : (abandonOpenLoad s).load = none := by
  cases h : s.load with
  | none => rw [abandonOpenLoad_none h, h]
  | some l => rw [abandonOpenLoad_some h]; rfl

/-- After the open load is abandoned the corridor mode is what R172 gives. -/
theorem abandonOpenLoad_mode {s : State} (h : DerivedOk s) :
    (abandonOpenLoad s).mode = corridorMode (abandonOpenLoad s) := by
  cases hl : s.load with
  | none => rw [abandonOpenLoad_none hl]; exact h.2.1
  | some l => rw [abandonOpenLoad_some hl]; rfl

theorem abandonOpenLoad_port (s : State) (p : PortId) :
    (abandonOpenLoad s).port p = { s.port p with txd := ((abandonOpenLoad s).port p).txd } := by
  cases h : s.load with
  | none => rw [abandonOpenLoad_none h]
  | some l =>
    rw [abandonOpenLoad_some h, endLoad_port]
    exact setParity_port_rest _ s p

/-! ## The reset -/

theorem corridorReset_keeps (s : State) : SameConfig (abandonOpenLoad s) (corridorReset s) :=
  ((emptied_keeps _).trans (works_recomputeAllSilently _ _).toSameConfig).trans (withoutWaiting_keeps _)

theorem corridorReset_records (s : State) : (corridorReset s).records = [] := by
  refine List.eq_nil_iff_forall_not_mem.mpr fun x hx => ?_
  have hx := (State.mem_records _ x).mp hx
  rw [corridorReset_eq, withoutWaiting_record, recomputeAllSilently_record, emptied_record] at hx
  cases hx

/-- Every context has its reset values, with the state that R111 gives (R117). -/
theorem corridorReset_ctx (s : State) (k : SignalId) :
    (corridorReset s).ctx k = { SignalContext.reset with state := serviceState k (corridorReset s) } := by
  have state : serviceState k (corridorReset s) = serviceState k (emptied (abandonOpenLoad s)) := by
    rw [corridorReset_eq]
    refine serviceState_congr ((works_recomputeAllSilently _ _).toSameConfig.trans (withoutWaiting_keeps _)) ?_
    rw [withoutWaiting_ctx, recomputeAllSilently_ctx, if_pos (mem_allSignals k)]
    rfl
  rw [state, corridorReset_eq, withoutWaiting_ctx, recomputeAllSilently_ctx, if_pos (mem_allSignals k), emptied_ctx]

/-- A port keeps everything but its calls and what a change of parity has sent on (R19, R21). -/
theorem corridorReset_port (s : State) (p : PortId) :
    (corridorReset s).port p = { s.port p with callQueue := [], txd := ((corridorReset s).port p).txd } := by
  rw [corridorReset_eq, withoutWaiting_port, (works_recomputeAllSilently _ _).port p, emptied_port, abandonOpenLoad_port]
  rfl

/-- Settles O19: the abandoned load gives the configuration, the rest is reset. -/
theorem corridorResetEffect : Obligations.CorridorResetEffect := by
  intro p src s hderived h
  have keeps := corridorReset_keeps s
  have acted := acted_corridorReset s
  obtain ⟨⟨hpending, hheld, hclock, hown⟩, -⟩ := acted.rest
  have store := sameStore_corridorReset s
  refine ⟨corridorReset s, exec_answered (r := ⟨p, src, 0x64, [5, 0]⟩) rfl h ?_, corridorReset_records s, rfl,
    keeps.load.trans (abandonOpenLoad_load s), corridorReset_ctx s, fun q => ⟨corridorReset_port s q, acted.sentOn q⟩,
    fun hl => ?_, fun l hl => ?_, ?_, store.tables, store.disabled, store.observe, hclock, hown, hheld, hpending⟩
  · show actControl [5, 0] s = _
    rw [actControl_corridorReset]
    rfl
  · have same := abandonOpenLoad_none hl
    exact ⟨keeps.validity.trans (congrArg State.validity same), keeps.parity.trans (congrArg State.parity same)⟩
  · have ended := abandonOpenLoad_some hl
    refine ⟨keeps.validity.trans (congrArg State.validity ended), keeps.parity.trans ?_⟩
    rw [ended, endLoad_parity]
  · rw [keeps.mode, abandonOpenLoad_mode hderived, corridorMode_congr keeps]

end Sys2Proof.Machine
end

section
/-! TABLE WRITE: the entries a load stores, byte for byte, and the calls that a moved signal loses (R16, R164, R165). -/

namespace Sys2Proof.Machine

/-! ## An entry and its bytes (R165, R187) -/

/-- A run of bytes of a known length by its offsets. -/
theorem eq_map_byteAt {n : Nat} {l : List Byte} (h : l.length = n) : (List.range n).map (byteAt l) = l := by
  refine eq_bytes_of_length _ l (by rw [List.length_map, List.length_range, h]) fun i hi => ?_
  have hn : i < n := h ▸ hi
  simp [byteAt, hn]

/-- The entry that the right number of bytes makes has these bytes (R165, R187). -/
theorem TableStore.entryBytes_storeEntry_self (t : TableStore) {id : TableId} {i : Nat} {l : List Byte}
    (hi : i < id.entries) (hl : l.length = id.entrySize) : (t.storeEntry id i l).entryBytes id i = l := by
  refine Eq.trans ?_ (eq_map_byteAt hl)
  cases id
  case global =>
    obtain rfl : i = 0 := Nat.lt_one_iff.mp hi
    rfl
  all_goals
    have hi' : i < _ := hi
    simp only [TableId.entries] at hi'
    simp [TableStore.storeEntry, TableStore.entryBytes, hi', SignalEntry.bytes, SignalEntry.ofBytes, PlanEntry.bytes,
      PlanEntry.ofBytes, ZoneEntry.bytes, ZoneEntry.ofBytes, RouteEntry.bytes, RouteEntry.ofBytes, SegmentEntry.bytes,
      SegmentEntry.ofBytes, halfBytes_halfAt, TableId.entrySize, List.range_succ]

theorem TableId.entrySize_pos (id : TableId) : 0 < id.entrySize := by
  cases id <;> decide

/-! ## The load context of a run of entries (R160, R164) -/

/-- The context after some entries have been taken from its buffer (R164). -/
theorem advanced_iterate (n : Nat) (l : LoadContext) :
    LoadContext.advanced^[n] l = { l with
      writeIndex := l.writeIndex + n
      buffer := l.buffer.drop (n * l.table.entrySize)
      written := (LoadContext.advanced^[n] l).written } := by
  induction n generalizing l with
  | zero => simp
  | succ n ih =>
    rw [Function.iterate_succ_apply, ih]
    simp [LoadContext.advanced, Nat.add_assoc, Nat.add_comm 1, Nat.succ_mul,
      Nat.add_comm (n * l.table.entrySize)]

/-- The indices of the entries taken join the written set (R160). -/
theorem mem_written_iterate (n : Nat) (l : LoadContext) (i : Nat) :
    i ∈ (LoadContext.advanced^[n] l).written ↔ i ∈ l.written ∨ (l.writeIndex ≤ i ∧ i < l.writeIndex + n) := by
  induction n generalizing l with
  | zero =>
    rw [Function.iterate_zero, id]
    exact ⟨.inl, fun h => h.resolve_right (by omega)⟩
  | succ n ih =>
    rw [Function.iterate_succ_apply, ih]
    have split : l.writeIndex ≤ i ∧ i < l.writeIndex + (n + 1) ↔
        i = l.writeIndex ∨ (l.writeIndex + 1 ≤ i ∧ i < l.writeIndex + 1 + n) := by omega
    simp only [LoadContext.advanced, mem_insertIndex, split]
    tauto

/-- A number of whole entries stored one after another (R164 step 3). -/
def storeRun : Nat → LoadContext → State → State
  | 0, l, s => { s with load := some l }
  | n + 1, l, s =>
    storeRun n l.advanced
      (storeEntry l.table l.writeIndex (l.buffer.take l.table.entrySize) { s with load := some l })

/-- A WRITE stores the whole entries that the buffer holds (R164 step 3). -/
theorem assemble_eq_storeRun {n fuel : Nat} {l : LoadContext} (s : State)
    (hn : l.buffer.length / l.table.entrySize = n) (hfuel : n ≤ fuel) : assemble fuel l s = storeRun n l s := by
  have hsize := l.table.entrySize_pos
  induction n generalizing fuel l s with
  | zero =>
    have short : l.buffer.length < l.table.entrySize := (Nat.div_eq_zero_iff_lt hsize).mp hn
    cases fuel with
    | zero => rfl
    | succ fuel => rw [assemble, if_pos short]; rfl
  | succ n ih =>
    obtain ⟨fuel, rfl⟩ : ∃ m, fuel = m + 1 := ⟨fuel - 1, by omega⟩
    have whole : ¬ l.buffer.length < l.table.entrySize := by
      intro short
      rw [Nat.div_eq_of_lt short] at hn
      cases hn
    rw [assemble, if_neg whole, storeRun]
    refine ih _ ?_ (by omega) hsize
    show (l.buffer.drop l.table.entrySize).length / l.table.entrySize = n
    have less := Nat.div_eq_sub_div hsize (Nat.not_lt.mp whole)
    rw [List.length_drop]
    omega

/-- A run leaves its context as the open load. -/
theorem storeRun_load (n : Nat) (l : LoadContext) (s : State) :
    (storeRun n l s).load = some (LoadContext.advanced^[n] l) := by
  induction n generalizing l s with
  | zero => rfl
  | succ n ih => rw [storeRun, ih, Function.iterate_succ_apply]

/-! ## What a run leaves unchanged -/

/-- The parts of the configuration beside the tables and the open load. -/
structure SameSettings (s t : State) : Prop where
  validity : t.validity = s.validity
  mode : t.mode = s.mode
  parity : t.parity = s.parity
  clock : t.clock = s.clock
  disabled : t.disabled = s.disabled
  observe : t.observe = s.observe
  ownAddress : t.ownAddress = s.ownAddress

theorem storeRun_settings (n : Nat) (l : LoadContext) (s : State) : SameSettings s (storeRun n l s) := by
  induction n generalizing l s with
  | zero => constructor <;> rfl
  | succ n ih =>
    have rest := ih l.advanced (storeEntry l.table l.writeIndex (l.buffer.take l.table.entrySize) { s with load := some l })
    have first := storeEntry_keeps l.table l.writeIndex (l.buffer.take l.table.entrySize) { s with load := some l }
    rw [storeRun]
    exact {
      validity := rest.validity.trans first.validity
      mode := rest.mode.trans first.mode
      parity := rest.parity.trans first.parity
      clock := rest.clock.trans first.clock
      disabled := rest.disabled.trans first.disabled
      observe := rest.observe.trans first.observe
      ownAddress := rest.ownAddress.trans first.ownAddress }

/-- The tables after one entry of a run (R165). -/
theorem storeEntry_tables (l : LoadContext) (bytes : List Byte) (s : State) :
    (storeEntry l.table l.writeIndex bytes { s with load := some l }).tables =
      s.tables.storeEntry l.table l.writeIndex bytes :=
  (storeEntry_keeps l.table l.writeIndex bytes { s with load := some l }).tables

/-- A run leaves the entries that are not its own (R165). -/
theorem storeRun_entryBytes_other (n : Nat) (l : LoadContext) (s : State) {id : TableId} {i : Nat}
    (h : id ≠ l.table ∨ i < l.writeIndex ∨ l.writeIndex + n ≤ i) :
    (storeRun n l s).tables.entryBytes id i = s.tables.entryBytes id i := by
  induction n generalizing l s with
  | zero => rfl
  | succ n ih =>
    have rest : id ≠ l.advanced.table ∨ i < l.advanced.writeIndex ∨ l.advanced.writeIndex + n ≤ i :=
      h.imp_right fun g => by simp only [LoadContext.advanced]; omega
    rw [storeRun, ih l.advanced _ rest, storeEntry_tables]
    by_cases e : id = l.table
    · subst e
      have apart := h.resolve_left (absurd rfl)
      exact TableStore.entryBytes_storeEntry_index _ _ _ _ _ (by omega)
    · exact TableStore.entryBytes_storeEntry_table _ _ _ _ _ _ e

/-- A run stores each of its entries byte for byte (R164, R165). -/
theorem storeRun_entryBytes {n : Nat} {l : LoadContext} (s : State) {j : Nat} (hj : j < n)
    (hin : l.writeIndex + n ≤ l.table.entries) (hbytes : n * l.table.entrySize ≤ l.buffer.length) :
    (storeRun n l s).tables.entryBytes l.table (l.writeIndex + j) =
      (l.buffer.drop (j * l.table.entrySize)).take l.table.entrySize := by
  induction n generalizing l s j with
  | zero => cases hj
  | succ n ih =>
    rw [Nat.succ_mul] at hbytes
    rw [storeRun]
    cases j with
    | zero =>
      have length : (l.buffer.take l.table.entrySize).length = l.table.entrySize := by
        rw [List.length_take]
        omega
      rw [Nat.add_zero, Nat.zero_mul, List.drop_zero,
        storeRun_entryBytes_other n l.advanced _ (.inr (.inl (Nat.lt_succ_self _))), storeEntry_tables]
      exact TableStore.entryBytes_storeEntry_self _ (by omega) length
    | succ j =>
      have tail := ih (l := l.advanced)
        (storeEntry l.table l.writeIndex (l.buffer.take l.table.entrySize) { s with load := some l })
        (j := j) (by omega) (by simp only [LoadContext.advanced]; omega)
        (by simp only [LoadContext.advanced, List.length_drop]; omega)
      simp only [LoadContext.advanced, List.drop_drop] at tail
      rw [Nat.succ_mul, Nat.add_comm (j * _), ← tail]
      congr 1
      omega

/-- A run leaves the SIGNAL entries below its first index, and all of them when it is a run of another table. -/
theorem storeRun_signalEntry (n : Nat) (l : LoadContext) (s : State) {k : SignalId}
    (h : l.table = .signal → k.val < l.writeIndex) : (storeRun n l s).signalEntry k = s.signalEntry k := by
  induction n generalizing l s with
  | zero => rfl
  | succ n ih =>
    rw [storeRun, ih l.advanced _ fun e => Nat.lt_succ_of_lt (h e)]
    simp only [State.signalEntry, storeEntry_tables]
    rw [TableStore.signal_storeEntry, if_neg]
    rintro ⟨e, hi⟩
    have := h e
    omega

/-! ## Signals whose entries are being loaded (R111, R116) -/

/-- A signal that the open load covers takes no service (R111). -/
theorem serviceState_covered {k : SignalId} {s : State} (h : s.covered k = true) : (serviceState k s).unserved := by
  rw [serviceState, h]
  split
  · exact .inl rfl
  · exact .inr rfl

/-- The signals that a load covers take no service and have no holder. -/
def Withdrawn (l : LoadContext) (s : State) : Prop :=
  ∀ k, l.covers k = true → (s.ctx k).state.unserved ∧ (s.ctx k).holder = none

theorem Withdrawn.congr {l : LoadContext} {s t : State} (h : Withdrawn l s) (hctx : ∀ k, t.ctx k = s.ctx k) :
    Withdrawn l t := by
  intro k hk
  rw [hctx]
  exact h k hk

theorem withdrawn_recompute {l : LoadContext} {s : State} (k : SignalId) (hl : s.load = some l) (h : Withdrawn l s) :
    Withdrawn l (recompute k s) := by
  intro j hj
  obtain ⟨hstate, hholder⟩ := h j hj
  rw [recompute_ctx]
  split
  · refine ⟨serviceState_covered ?_, hholder⟩
    rw [State.covered, hl]
    exact hj
  · exact ⟨hstate, hholder⟩

/-- A covered signal without a holder does no more than recompute its state (R112). -/
theorem recomputeOne_withdrawn {l : LoadContext} {s : State} {k : SignalId} (hl : s.load = some l) (h : Withdrawn l s)
    (hk : l.covers k = true) : recomputeOne k s = recompute k s := by
  unfold recomputeOne
  dsimp only
  split
  · rfl
  · obtain ⟨hstate, hholder⟩ := withdrawn_recompute k hl h k hk
    exact evaluate_unserved hstate hholder

theorem dropMovedCall_ctx (k : SignalId) (before : Option PortId) (s : State) (j : SignalId) :
    (dropMovedCall k before s).ctx j = s.ctx j := by
  unfold dropMovedCall
  split
  · rfl
  · split <;> simp

/-! ## The calls that stay (R16) -/

/-- A port with the calls of the signals that a state configures on it. -/
def Port.configured (q : Port) (p : PortId) (u : State) : Port :=
  { q with callQueue := q.callQueue.filter fun c => decide ((u.signalEntry c.signal).configuredPort = some p) }

/-- Every waiting call is for a signal configured on its port (R14, R16). -/
def CallsConfigured (s : State) : Prop :=
  ∀ p : PortId, ∀ c ∈ (s.port p).callQueue, (s.signalEntry c.signal).configuredPort = some p

theorem QueuesOk.configured {s : State} (h : QueuesOk s) : CallsConfigured s := by
  intro p
  obtain ⟨-, -, hcfg⟩ := (queuesOk_iff s).mp h p
  exact hcfg

/-- A port loses no call when the signals of its calls are still configured on it. -/
theorem configured_self {q : Port} {p : PortId} {u : State}
    (h : ∀ c ∈ q.callQueue, (u.signalEntry c.signal).configuredPort = some p) : q.configured p u = q := by
  rw [Port.configured, List.filter_eq_self.mpr fun c hc => decide_eq_true (h c hc)]

/-- The calls that stay after a first change of the table and then after a second. -/
theorem configured_configured {q : Port} {p : PortId} {t u : State}
    (h : ∀ c ∈ q.callQueue, (u.signalEntry c.signal).configuredPort = some p →
      (t.signalEntry c.signal).configuredPort = some p) :
    (q.configured p t).configured p u = q.configured p u := by
  unfold Port.configured
  dsimp only
  rw [List.filter_filter]
  congr 1
  refine List.filter_congr fun c hc => ?_
  by_cases hu : (u.signalEntry c.signal).configuredPort = some p
  · simp [hu, h c hc hu]
  · simp [hu]

/-- One moved signal: its call leaves, the others stay (R16). -/
theorem dropMovedCall_configured {k : SignalId} {s u : State} (hport : ∀ p, u.port p = s.port p)
    (hother : ∀ j, j ≠ k → u.signalEntry j = s.signalEntry j) (h : CallsConfigured s) (p : PortId) :
    (dropMovedCall k (s.signalEntry k).configuredPort u).port p = (s.port p).configured p u := by
  have others : ∀ c ∈ (s.port p).callQueue, c.signal ≠ k → (u.signalEntry c.signal).configuredPort = some p := by
    intro c hc hne
    rw [hother c.signal hne]
    exact h p c hc
  rw [dropMovedCall_port, hport]
  split
  · next moved =>
    obtain ⟨-, hmoved⟩ := moved
    unfold Port.dropCall Port.configured
    congr 1
    refine List.filter_congr fun c hc => ?_
    by_cases e : c.signal = k
    · simp [e, hmoved]
    · simp [e, others c hc e]
  · next stays =>
    refine (configured_self fun c hc => ?_).symm
    by_cases e : c.signal = k
    · have before := h p c hc
      rw [e] at before ⊢
      by_contra moved
      exact stays ⟨before, moved⟩
    · exact others c hc e

/-! ## One entry of a run, and the run -/

/-- What one entry stored leaves of the covered signals and the ports. -/
structure EntryTaken (l : LoadContext) (s t : State) : Prop where
  withdrawn : Withdrawn l t
  port : ∀ p, t.port p = (s.port p).configured p t

theorem covers_signal {l : LoadContext} (h : l.table = .signal) {k : SignalId} (hlo : l.start ≤ k.val)
    (hhi : k.val ≤ l.rangeEnd) : l.covers k = true := by
  rw [LoadContext.covers, h]
  simp [hlo, hhi]

theorem covers_plan {l : LoadContext} (h : l.table = .plan) {k : SignalId} {i : Nat} (hk : k.val = i / 2)
    (hlo : l.start ≤ i) (hhi : i ≤ l.rangeEnd) : l.covers k = true := by
  rw [LoadContext.covers, h]
  simp [hk, Nat.div_le_div_right hlo, Nat.div_le_div_right hhi]

theorem storeEntry_signal {i : Nat} {k : SignalId} (hk : indexBelow 16 i = some k) (bytes : List Byte) (s : State) :
    storeEntry .signal i bytes s = recomputeOne k (dropMovedCall k (s.signalEntry k).configuredPort
      { s with tables := s.tables.storeEntry .signal i bytes }) := by
  unfold storeEntry
  dsimp only
  rw [hk]

theorem storeEntry_plan {i : Nat} {k : SignalId} (hk : indexBelow 16 (i / 2) = some k) (bytes : List Byte) (s : State) :
    storeEntry .plan i bytes s = recomputeOne k { s with tables := s.tables.storeEntry .plan i bytes } := by
  unfold storeEntry
  dsimp only
  rw [hk]

/-- A stored entry withdraws no signal further, and drops the call of the signal it moves (R16, R111). -/
theorem entryTaken_storeEntry {l : LoadContext} {s : State} (bytes : List Byte) (hl : s.load = some l)
    (hlo : l.start ≤ l.writeIndex) (hhi : l.writeIndex ≤ l.rangeEnd) (hend : l.rangeEnd < l.table.entries)
    (hw : Withdrawn l s) (hc : CallsConfigured s) : EntryTaken l s (storeEntry l.table l.writeIndex bytes s) := by
  have unmoved (t : State) (hport : ∀ p, t.port p = s.port p)
      (hentry : ∀ k, t.signalEntry k = s.signalEntry k) (p : PortId) : t.port p = (s.port p).configured p t := by
    rw [configured_self fun c h => ?_, hport]
    rw [hentry]
    exact hc p c h
  have ports (t : TableStore) : ∀ p, ({ s with tables := t } : State).port p = s.port p := port_setTables s t
  have entries (k : SignalId) (h : ¬ (l.table = .signal ∧ l.writeIndex = k.val)) :
      ({ s with tables := s.tables.storeEntry l.table l.writeIndex bytes } : State).signalEntry k = s.signalEntry k :=
    signalEntry_storeEntry_ne s _ _ bytes h
  cases ht : l.table
  case signal =>
    rw [ht] at hend entries
    obtain ⟨k, hk⟩ : ∃ k, indexBelow 16 l.writeIndex = some k := ⟨_, indexBelow_lt (by
      simp only [TableId.entries] at hend
      omega)⟩
    have index := indexBelow_some hk
    have covered := covers_signal ht (k := k) (index ▸ hlo) (index ▸ hhi)
    have before : Withdrawn l (dropMovedCall k (s.signalEntry k).configuredPort
        { s with tables := s.tables.storeEntry .signal l.writeIndex bytes }) :=
      hw.congr fun j => dropMovedCall_ctx k _ _ j
    have load := (dropMovedCall_keeps k (s.signalEntry k).configuredPort
      { s with tables := s.tables.storeEntry .signal l.writeIndex bytes }).load.trans hl
    rw [storeEntry_signal hk, recomputeOne_withdrawn load before covered]
    refine ⟨withdrawn_recompute k load before, fun p => ?_⟩
    rw [recompute_port, dropMovedCall_configured (ports _) (fun j hj => entries j ?_) hc]
    · simp only [Port.configured, State.signalEntry, recompute_tables, (dropMovedCall_keeps _ _ _).tables]
      rfl
    · rintro ⟨-, e⟩
      exact hj (Fin.ext (e.symm.trans index.symm))
  case plan =>
    rw [ht] at hend entries
    obtain ⟨k, hk⟩ : ∃ k, indexBelow 16 (l.writeIndex / 2) = some k := ⟨_, indexBelow_lt (by
      simp only [TableId.entries] at hend
      omega)⟩
    have covered := covers_plan ht (indexBelow_some hk) hlo hhi
    have before : Withdrawn l { s with tables := s.tables.storeEntry .plan l.writeIndex bytes } :=
      hw.congr fun _ => rfl
    rw [storeEntry_plan hk, recomputeOne_withdrawn (by exact hl) before covered]
    refine ⟨withdrawn_recompute k (by exact hl) before,
      unmoved _ (fun p => (recompute_port _ _ p).trans (ports _ p)) fun j => ?_⟩
    refine Eq.trans ?_ (entries j (by rintro ⟨e, -⟩; cases e))
    simp only [State.signalEntry, recompute_tables]
  all_goals
    rw [ht] at entries
    exact ⟨hw.congr fun _ => rfl, unmoved _ (ports _) fun j => entries j (by rintro ⟨e, -⟩; cases e)⟩

/-- A run drops the calls of the signals that its entries move, and nothing else of the ports (R16). -/
theorem storeRun_port {n : Nat} {l : LoadContext} {s : State} (hlo : l.start ≤ l.writeIndex)
    (hhi : l.writeIndex + n ≤ l.rangeEnd + 1) (hend : l.rangeEnd < l.table.entries) (hw : Withdrawn l s)
    (hc : CallsConfigured s) (p : PortId) :
    (storeRun n l s).port p = (s.port p).configured p (storeRun n l s) := by
  induction n generalizing l s with
  | zero =>
    refine Eq.trans ?_ (configured_self (u := storeRun 0 l s) fun c h => hc p c h).symm
    cases p <;> rfl
  | succ n ih =>
    have loaded : ∀ p, ({ s with load := some l } : State).port p = s.port p := fun p => by cases p <;> rfl
    have taken := entryTaken_storeEntry (l := l) (s := { s with load := some l })
      (l.buffer.take l.table.entrySize) rfl hlo (by omega) hend (hw.congr fun _ => rfl) fun p c h =>
        hc p c (by rwa [loaded] at h)
    have entry : ∀ k : SignalId, ¬ (l.table = .signal ∧ l.writeIndex = k.val) →
        (storeEntry l.table l.writeIndex (l.buffer.take l.table.entrySize) { s with load := some l }).signalEntry k =
          s.signalEntry k := by
      intro k hk
      simp only [State.signalEntry, storeEntry_tables]
      rw [TableStore.signal_storeEntry, if_neg hk]
    rw [storeRun]
    generalize storeEntry l.table l.writeIndex (l.buffer.take l.table.entrySize) { s with load := some l } = t at *
    have port := taken.port
    simp only [loaded] at port
    have configured : CallsConfigured t := by
      intro p c h
      rw [port p] at h
      exact of_decide_eq_true (List.mem_filter.mp h).2
    rw [ih (l := l.advanced) (by simp only [LoadContext.advanced]; omega) (by simp only [LoadContext.advanced]; omega)
      hend taken.withdrawn configured, port, configured_configured]
    intro c h after
    by_cases stored : l.table = .signal ∧ l.writeIndex = c.signal.val
    · have kept := storeRun_signalEntry n l.advanced t (k := c.signal) fun _ => by
        simp only [LoadContext.advanced]
        omega
      rwa [kept] at after
    · rw [entry c.signal stored]
      exact hc p c h

/-! ## TABLE WRITE -/

/-- With its states recomputed and no holder where no service is taken, a part has withdrawn what its load covers. -/
theorem withdrawn_of_derivedOk {s : State} {l : LoadContext} (hl : s.load = some l) (h : DerivedOk s)
    (hstates : HolderStatesOk s) : Withdrawn l s := by
  intro k hk
  have state : (s.ctx k).state.unserved := by
    rw [h.1 k]
    exact serviceState_covered (by rw [State.covered, hl]; exact hk)
  exact ⟨state, hstates k state⟩

theorem overruns_iff (l : LoadContext) (n : Nat) :
    l.overruns n = true ↔ (l.rangeEnd + 1 - l.writeIndex) * l.table.entrySize < l.buffer.length + n :=
  decide_eq_true_iff

/-- Settles O21: the refusals, and the run of whole entries that a WRITE stores. -/
theorem tableWriteStoresEntries : Obligations.TableWriteStoresEntries := by
  refine ⟨fun p src d s h hlen hnone => ?_, fun p src d s l h hlen hl hp hover => ?_,
    fun p src d s l n h hload hlen hl hp hfits hn => ?_⟩
  · refine exec_answered (r := ⟨p, src, 0x66, d⟩) rfl h ?_
    show actTableWrite p d s = _
    rw [actTableWrite, if_neg (by omega), loadFrom_none hnone]
    rfl
  · refine exec_answered (r := ⟨p, src, 0x66, d⟩) rfl h ?_
    show actTableWrite p d s = _
    rw [actTableWrite, if_neg (by omega), loadFrom_some hl hp]
    exact if_pos ((overruns_iff l d.length).mpr hover)
  · obtain ⟨-, hlo, hwrite, -, hend, -, -, -⟩ := hload.1 l hl
    have hsize := l.table.entrySize_pos
    have whole : n * l.table.entrySize ≤ (l.buffer ++ d).length := hn ▸ Nat.div_mul_le_self _ _
    have inRange : l.writeIndex + n ≤ l.rangeEnd + 1 := by
      have : n * l.table.entrySize ≤ (l.rangeEnd + 1 - l.writeIndex) * l.table.entrySize :=
        whole.trans (by rw [List.length_append]; exact hfits)
      have := Nat.le_of_mul_le_mul_right this hsize
      omega
    have fuel : n ≤ l.buffer.length + d.length := by
      rw [← List.length_append]
      exact hn ▸ Nat.div_le_self _ _
    have run : appendBytes l d s = storeRun n { l with buffer := l.buffer ++ d } s :=
      assemble_eq_storeRun s hn.symm fuel
    have context := advanced_iterate n { l with buffer := l.buffer ++ d }
    have load := storeRun_load n { l with buffer := l.buffer ++ d } s
    have settings := storeRun_settings n { l with buffer := l.buffer ++ d } s
    refine ⟨storeRun n { l with buffer := l.buffer ++ d } s,
      LoadContext.advanced^[n] { l with buffer := l.buffer ++ d },
      exec_answered (r := ⟨p, src, 0x66, d⟩) rfl h ?_, load, context,
      mem_written_iterate n { l with buffer := l.buffer ++ d },
      fun j hj => storeRun_entryBytes (l := { l with buffer := l.buffer ++ d }) s hj
        (Nat.le_trans inRange hend) whole,
      fun id i hi => storeRun_entryBytes_other n { l with buffer := l.buffer ++ d } s hi, ?_,
      fun hderived hstates hqueues q => storeRun_port (l := { l with buffer := l.buffer ++ d }) hlo inRange hend
        (withdrawn_of_derivedOk (l := l) hl hderived hstates) hqueues.configured q,
      settings.validity, settings.mode, settings.parity, settings.clock, settings.disabled, settings.observe,
      settings.ownAddress⟩
    · show actTableWrite p d s = _
      rw [actTableWrite, if_neg (by omega), loadFrom_some hl hp]
      dsimp only
      rw [if_neg (by rw [overruns_iff]; omega), run, writeReply, load]
      rfl
    · rintro rfl
      rfl

end Sys2Proof.Machine
end

section
/-! Bus reports and status frames as commands, and those that have no effect (R25, R26, R28, R100). -/

namespace Sys2Proof.Machine

/-! ## Frames handed to a block (R9) -/

/-- A bus report handed to the locator is taken, and then its event ends. -/
theorem exec_busReport {p : PortId} {s : State} (h : HandsOn s p) (r : BusReport) :
    exec (.busReport p r) s = .next (finish (takeBusReport r s)) := by
  obtain ⟨hreset, hrunning, hown⟩ := h
  exact congrArg Host.Outcome.next (onHandOver_handed p _ s hreset hrunning hown)

/-- A status frame handed on reaches its contexts, and then its event ends. -/
theorem exec_signalStatus {p : PortId} {s : State} (h : HandsOn s p) (src : Byte) (f : SignalStatus) :
    exec (.signalStatus p src f) s = .next (finish (handStatus p src f s)) := by
  obtain ⟨hreset, hrunning, hown⟩ := h
  exact congrArg Host.Outcome.next (onHandOver_handed p _ s hreset hrunning hown)

/-! ## Bus reports that are ignored (R25, R26, R28) -/

theorem directionOf_eq_none_iff (b : Byte) : directionOf b = none ↔ 1 < b.toNat := by
  unfold directionOf
  split
  · next h => simp [h]
  · next h0 =>
    split
    · next h1 => simp [h1]
    · next h1 =>
      have : b.toNat ≠ 0 := fun e => h0 (BitVec.eq_of_toNat_eq e)
      have : b.toNat ≠ 1 := fun e => h1 (BitVec.eq_of_toNat_eq e)
      simp only [true_iff]
      omega

/-- A bus report is taken unless R26 ignores it. -/
theorem taken_eq_none_iff (r : BusReport) :
    taken r = none ↔ r.bus = 0 ∨ 1 < r.heading.toNat ∨ 9999 < r.route.toNat := by
  rw [← directionOf_eq_none_iff, taken]
  cases directionOf r.heading with
  | none => simp
  | some d => simp [or_iff_not_imp_left]

/-- A route number that no in-use entry and no default route answers is not resolved (R28, R41). -/
theorem resolveRoute_eq_none {t : TableStore} {number : Half}
    (h : ∀ i : Fin 32, flagSet t.route[i].inUse = true → t.route[i].number ≠ number ∧ t.route[i].number ≠ 0) :
    resolveRoute t number = none := by
  have unanswered : ∀ n, (n = number ∨ n = 0) →
      (List.finRange 32).find? (fun i => flagSet t.route[i].inUse && t.route[i].number == n) = none := by
    intro n hn
    refine List.find?_eq_none.mpr fun i _ => ?_
    rw [Bool.and_eq_true, beq_iff_eq]
    rintro ⟨hused, rfl⟩
    obtain ⟨hnumber, hzero⟩ := h i hused
    exact hn.elim hnumber hzero
  simp only [resolveRoute]
  rw [unanswered number (.inl rfl), unanswered 0 (.inr rfl)]
  rfl

/-- A report is taken with its own bus and route number (R27). -/
theorem taken_names {r : BusReport} {t : TakenReport} (h : taken r = some t) : t.bus = r.bus ∧ t.route = r.route := by
  unfold taken at h
  split at h
  · cases h
  · split at h <;> cases h
    exact ⟨rfl, rfl⟩

theorem takeBusReport_inactive {s : State} (h : s.mode ≠ .active) (r : BusReport) : takeBusReport r s = s := by
  rw [takeBusReport, if_neg h]

theorem takeBusReport_untaken {r : BusReport} (h : taken r = none) (s : State) : takeBusReport r s = s := by
  rw [takeBusReport, h]
  split <;> rfl

theorem takeBusReport_unresolved {r : BusReport} {s : State} (h : resolveRoute s.tables r.route = none) :
    takeBusReport r s = s := by
  rw [takeBusReport]
  split
  · split
    · rfl
    · next t ht =>
      rw [(taken_names ht).2, h]
  · rfl

/-- A report taken in mode ACTIVE, of a route that is resolved, is acted on (R25 to R28). -/
theorem takeBusReport_taken {r : BusReport} {t : TakenReport} {route : Fin 32} {s : State} (hmode : s.mode = .active)
    (ht : taken r = some t) (hroute : resolveRoute s.tables t.route = some route) :
    takeBusReport r s = actOnReport t route s := by
  rw [takeBusReport, if_pos hmode, ht]
  dsimp only
  rw [hroute]

/-! ## Status frames that are ignored (R100) -/

theorem planOf_eq_none {b : Byte} (h : 1 < b.toNat) : planOf b = none := by
  have h0 : b ≠ 0 := by rintro rfl; exact absurd h (by decide)
  have h1 : b ≠ 1 := by rintro rfl; exact absurd h (by decide)
  rw [planOf, if_neg h0, if_neg h1]

/-- A context leaves a frame that fails one of the tests of R100. -/
theorem offerStatus_rejected {k : SignalId} {f : SignalStatus} {s : State}
    (h : 1 < f.planSelect.toNat ∨
      ∀ q, planOf f.planSelect = some q → flagSet (s.tables.planEntry k q).inUse = true ∧
        (s.tables.planEntry k q).cycle.toNat ≤ f.position.toNat) : offerStatus k f s = s := by
  have rejected : statusAccepted k f s = none := by
    unfold statusAccepted
    obtain h | h := h
    · rw [planOf_eq_none h]
    · split
      · rfl
      · next q hq =>
        obtain ⟨hused, hcycle⟩ := h q hq
        simp [hused, hcycle]
  rw [offerStatus, rejected]

theorem foldl_fixed {α β : Type} {f : β → α → β} {s : β} {l : List α} (h : ∀ x ∈ l, f s x = s) :
    l.foldl f s = s := by
  induction l with
  | nil => rfl
  | cons x l ih =>
    rw [List.foldl_cons, h x List.mem_cons_self]
    exact ih fun y hy => h y (List.mem_cons_of_mem x hy)

theorem handStatus_rejected {p : PortId} {src : Byte} {f : SignalStatus} {s : State}
    (h : ∀ k, statusMatches p src (s.signalEntry k) = true → offerStatus k f s = s) : handStatus p src f s = s :=
  foldl_fixed fun k hk => h k (List.mem_filter.mp hk).2

/-- Settles O25. -/
theorem ignoredFrames : Obligations.IgnoredFrames := by
  constructor
  · intro p r s hands h
    have ignored : takeBusReport r s = s := by
      obtain h | h | h | h | h := h
      · exact takeBusReport_inactive h r
      · exact takeBusReport_untaken ((taken_eq_none_iff r).mpr (.inl h)) s
      · exact takeBusReport_untaken ((taken_eq_none_iff r).mpr (.inr (.inl h))) s
      · exact takeBusReport_untaken ((taken_eq_none_iff r).mpr (.inr (.inr h))) s
      · exact takeBusReport_unresolved (resolveRoute_eq_none h)
    rw [exec_busReport hands, ignored]
  · intro p src f s hands h
    have ignored : handStatus p src f s = s := by
      refine handStatus_rejected fun k hk => ?_
      simp only [statusMatches, Bool.and_eq_true, beq_iff_eq] at hk
      obtain ⟨⟨hused, hcabinet⟩, hport⟩ := hk
      exact offerStatus_rejected (h k hused hcabinet hport)
    rw [exec_signalStatus hands, ignored]

end Sys2Proof.Machine
end

section
/-! The checks of a CLOSE, row by row, and what they say of VALID tables (R22, R23, R24, R40, R169). -/

namespace Sys2Proof.Machine

/-! ## Codes (R184) -/

theorem flagSet_iff (b : Byte) : flagSet b = true ↔ b ≠ 0 := bne_iff_ne

theorem flagSet_eq_false_iff (b : Byte) : flagSet b = false ↔ b = 0 := bne_eq_false_iff_eq

theorem isSome_directionOf_iff (b : Byte) : (directionOf b).isSome = true ↔ b.toNat ≤ 1 := by
  rw [Option.isSome_iff_ne_none, Ne, directionOf_eq_none_iff, not_lt]

theorem isSome_portOf_iff (b : Byte) : (portOf b).isSome = true ↔ b.toNat ≤ 1 := by
  unfold portOf
  split
  · next h => simp [h]
  · split
    · next h => simp [h]
    · simp only [Option.isSome_none, Bool.false_eq_true, false_iff]
      bv_omega

theorem isSome_parityOf_iff (b : Byte) : (parityOf b).isSome = true ↔ b.toNat ≤ 2 := by
  unfold parityOf
  split
  · next h => simp [h]
  · split
    · next h => simp [h]
    · split
      · next h => simp [h]
      · simp only [Option.isSome_none, Bool.false_eq_true, false_iff]
        bv_omega

theorem directionOf_eq_some_iff (b : Byte) (d : Direction) : directionOf b = some d ↔ b = directionCode d := by
  unfold directionOf
  split
  · next h => subst h; cases d <;> decide
  · next h0 =>
    split
    · next h => subst h; cases d <;> decide
    · next h1 => cases d <;> simpa [directionCode]

theorem inRange_iff (lo hi n : Nat) : inRange lo hi n = true ↔ Within lo hi n := by
  simp [inRange, Within]

/-! ## What a check reports -/

/-- A check passes exactly when it is met at every entry index, and otherwise reports the lowest at which it is not. -/
def ReportsLowest (failure : Option Nat) (met : Nat → Prop) : Prop :=
  (failure = none ↔ ∀ i, met i) ∧ ∀ i, failure = some i ↔ ¬ met i ∧ ∀ j, j < i → met j

theorem reportsLowest_of {failure : Option Nat} {met : Nat → Prop} (hnone : failure = none → ∀ i, met i)
    (hsome : ∀ i, failure = some i → ¬ met i ∧ ∀ j, j < i → met j) : ReportsLowest failure met := by
  cases failure with
  | none => exact ⟨by simpa using hnone rfl, fun i => by simpa using fun h => absurd (hnone rfl i) h⟩
  | some v =>
    obtain ⟨unmet, below⟩ := hsome v rfl
    refine ⟨⟨nofun, fun h => absurd (h v) unmet⟩, fun i => ⟨hsome i, fun ⟨h, hbelow⟩ => ?_⟩⟩
    obtain hlt | rfl | hgt := Nat.lt_trichotomy v i
    · exact absurd (hbelow v hlt) unmet
    · rfl
    · exact absurd (below i hgt) h

/-- A row that tests the in-use entries of a table one by one and reports an index that grows with theirs. -/
theorem reportsLowest_firstFailure {n : Nat} {used ok : Fin n → Bool} {met : Nat → Prop} {place : Nat → Nat}
    (hplace : StrictMono place)
    (hmet : ∀ i, met i ↔ ∀ k : Fin n, place k.val = i → used k = true → ok k = true) :
    ReportsLowest ((firstFailure n used ok).map place) met := by
  unfold firstFailure
  apply reportsLowest_of
  · intro h i
    rw [Option.map_eq_none_iff, Option.map_eq_none_iff, List.find?_eq_none] at h
    refine (hmet i).mpr fun k _ hused => ?_
    simpa [hused] using h k (List.mem_finRange k)
  · intro i h
    simp only [Option.map_map, Option.map_eq_some_iff, List.find?_eq_some_iff_getElem] at h
    obtain ⟨k, ⟨hk, p, hp, rfl, hbefore⟩, rfl⟩ := h
    simp only [List.getElem_finRange, Fin.val_cast, Function.comp_apply, Bool.and_eq_true] at hk hbefore ⊢
    obtain ⟨hused, hfails⟩ := hk
    refine ⟨fun h => ?_, fun j hj => (hmet j).mpr fun q hq hused => ?_⟩
    · have passes := (hmet _).mp h ⟨p, by simpa using hp⟩ rfl hused
      exact absurd passes (by simpa using hfails)
    · have hlt : q.val < p := hplace.lt_iff_lt.mp (hq ▸ hj)
      simpa [hused] using hbefore q.val hlt

theorem reportsLowest_entries {n : Nat} {used ok : Fin n → Bool} {met : Nat → Prop}
    (hmet : ∀ i, met i ↔ ∀ k : Fin n, k.val = i → used k = true → ok k = true) :
    ReportsLowest (firstFailure n used ok) met := by
  have h := reportsLowest_firstFailure strictMono_id hmet
  rwa [Option.map_id] at h

/-! ## The ranges of one entry -/

theorem signalRanges_iff (e : SignalEntry) :
    (inRange 1 62 e.cabinet.toNat && (portOf e.port).isSome && inRange 0 60 e.projectionGrace.toNat) = true ↔
      SignalMeets e := by
  simp only [Bool.and_eq_true, inRange_iff, isSome_portOf_iff, SignalMeets, Within, Nat.zero_le, true_and, and_assoc]

theorem windowOk_iff (cycle start length : Nat) (h : 300 ≤ cycle) :
    windowOk cycle start length = true ↔ WindowMeets cycle start length := by
  simp only [windowOk, Bool.and_eq_true, decide_eq_true_eq, inRange_iff, Within, WindowMeets]
  omega

theorem planRangesOk_iff (e : PlanEntry) : e.rangesOk = true ↔ PlanMeets e := by
  by_cases hcycle : Within 300 2400 e.cycle.toNat
  · have refreshes : e.maxRefreshes.toNat ≤ 255 := by have := e.maxRefreshes.isLt; omega
    have window := fun start length => windowOk_iff e.cycle.toNat start length hcycle.1
    simp only [PlanEntry.rangesOk, PlanMeets, Bool.and_eq_true, Bool.or_eq_true, inRange_iff, flagSet_iff, window,
      decide_eq_true_eq, Within, Nat.zero_le, true_and, refreshes, and_true, and_assoc, or_iff_not_imp_left,
      not_not, ne_eq]
  · have unmet : ¬ inRange 300 2400 e.cycle.toNat = true := fun h => hcycle ((inRange_iff _ _ _).mp h)
    simp [PlanEntry.rangesOk, PlanMeets, hcycle, unmet]

theorem zoneRangesOk_iff (e : ZoneEntry) : e.rangesOk = true ↔ ZoneMeets e := by
  have kind : (e.kind = 0 ∨ e.kind = 1) ↔ e.kind.toNat ≤ 1 := by
    constructor
    · rintro (h | h) <;> rw [h] <;> decide
    · intro h
      bv_omega
  simp only [ZoneEntry.rangesOk, ZoneMeets, Bool.and_eq_true, Bool.or_eq_true, beq_iff_eq, inRange_iff,
    isSome_directionOf_iff, decide_eq_true_eq, kind, Within, Nat.zero_le, true_and, and_assoc]

theorem headOk_iff (b : Byte) : headOk b = true ↔ b.toNat ≤ 127 ∨ b = 0xFF := by
  simp [headOk, Nat.lt_succ_iff]

theorem segmentRanges_iff (e : SegmentEntry) :
    (inRange 0 15 e.signal.toNat && (directionOf e.direction).isSome && inRange 0 6000 e.travel.toNat &&
      inRange 0 600 e.dwell.toNat && (flagSet e.ends || decide (e.next.toNat < 128))) = true ↔ SegmentMeets e := by
  simp only [SegmentMeets, Bool.and_eq_true, Bool.or_eq_true, inRange_iff, isSome_directionOf_iff, flagSet_iff,
    decide_eq_true_eq, Within, Nat.zero_le, true_and, and_assoc, or_iff_not_imp_left, not_not, ne_eq, Nat.lt_succ_iff]

/-- No entry before another in a table stands against it. -/
theorem all_below_iff {n : Nat} (k : Fin n) (used : Fin n → Bool) (clash : Fin n → Bool) :
    ((List.finRange n).all fun j => !(decide (j < k) && used j && clash j)) = true ↔
      ∀ j, j < k → used j = true → clash j = false := by
  simp [List.all_eq_true, Bool.and_assoc, imp_iff_not_or]

theorem overlaps_iff (e f : ZoneEntry) : e.overlaps f = true ↔ ShareAPosition e f := by
  simp only [ZoneEntry.overlaps, ShareAPosition, Bool.and_eq_true, beq_iff_eq, decide_eq_true_eq]
  refine and_congr_right fun _ => ⟨fun h => ⟨max e.start.toNat f.start.toNat, ?_⟩, fun ⟨x, h⟩ => ?_⟩ <;> omega

theorem placedRight_iff (e : ZoneEntry) (g : SignalEntry) : placedRight e g = true ↔ ZonePlaced e g := by
  have code := directionOf_eq_some_iff e.direction
  have a_ne_b : directionCode .a ≠ directionCode .b := by decide
  cases hd : directionOf e.direction with
  | none =>
    have nowhere : ∀ d, e.direction ≠ directionCode d := fun d h => by rw [(code d).mpr h] at hd; cases hd
    have unplaced : ¬ ZonePlaced e g := by
      rintro (⟨h, -⟩ | ⟨h, -⟩ | ⟨h, -⟩ | ⟨h, -⟩)
      exacts [nowhere .a h, nowhere .b h, nowhere .a h, nowhere .b h]
    simp only [placedRight, hd, unplaced, Bool.false_eq_true]
  | some d =>
    have hcode := (code d).mp hd
    cases d
    case a =>
      have other : ¬ (0 : Byte) = 1 := a_ne_b
      rw [placedRight, hd]
      by_cases hk : e.kind = 0 <;>
        simp only [ZonePlaced, show e.direction = 0 from hcode, other, hk, if_true, if_false, decide_eq_true_eq, ne_eq,
          not_true_eq_false, not_false_eq_true, true_and, false_and, or_false, false_or]
    case b =>
      have other : ¬ (1 : Byte) = 0 := a_ne_b.symm
      rw [placedRight, hd]
      by_cases hk : e.kind = 0 <;>
        simp only [ZonePlaced, show e.direction = 1 from hcode, other, hk, if_true, if_false, decide_eq_true_eq, ne_eq,
          not_true_eq_false, not_false_eq_true, true_and, false_and, or_false, false_or]

/-! ## Rows 1 to 10 -/

theorem checkGlobal_reports (own : Option (BitVec 6)) (t : TableStore) :
    ReportsLowest (checkGlobal t) (CheckMet own t 1) := by
  have met : ∀ i, CheckMet own t 1 i ↔ (i = 0 → GlobalMeets t.global) := fun _ => Iff.rfl
  have failure : checkGlobal t = none ↔ GlobalMeets t.global := by
    simp only [checkGlobal, ite_eq_left_iff, reduceCtorEq, imp_false, not_not, Bool.and_eq_true, flagSet_iff, inRange_iff,
      isSome_parityOf_iff, GlobalMeets, Within, Nat.zero_le, true_and, and_assoc]
  have place : ∀ i, checkGlobal t = some i → i = 0 := by
    intro i h
    simp only [checkGlobal] at h
    split at h <;> simp_all
  refine reportsLowest_of (fun h i => (met i).mpr fun _ => failure.mp h) fun i h => ?_
  obtain rfl := place i h
  refine ⟨fun unmet => ?_, fun j hj => absurd hj (Nat.not_lt_zero j)⟩
  rw [failure.mpr ((met 0).mp unmet rfl)] at h
  cases h

theorem checkSignalRanges_reports (own : Option (BitVec 6)) (t : TableStore) :
    ReportsLowest (checkSignalRanges t) (CheckMet own t 2) := by
  refine reportsLowest_entries fun i => forall₂_congr fun k _ => ?_
  rw [flagSet_iff, signalRanges_iff]

theorem cabinetIsOwn_iff (own : Option (BitVec 6)) (cabinet : Byte) :
    (own.any fun a => a.zeroExtend 8 == cabinet) = false ↔ ∀ a, own = some a → cabinet.toNat ≠ a.toNat := by
  cases own with
  | none => simp
  | some a =>
    have := a.isLt
    simp only [Option.any_some, beq_eq_false_iff_ne, Option.some.injEq, forall_eq', ne_eq]
    bv_omega

theorem checkCabinets_reports (own : Option (BitVec 6)) (t : TableStore) :
    ReportsLowest (checkCabinets own t) (CheckMet own t 3) := by
  refine reportsLowest_entries fun i => forall₂_congr fun k _ => ?_
  rw [flagSet_iff, Bool.and_eq_true, Bool.not_eq_true', cabinetIsOwn_iff, all_below_iff]
  simp only [flagSet_iff, beq_eq_false_iff_ne]

theorem checkPlanRanges_reports (own : Option (BitVec 6)) (t : TableStore) :
    ReportsLowest (checkPlanRanges t) (CheckMet own t 4) := by
  refine reportsLowest_entries fun i => forall₂_congr fun k _ => ?_
  rw [flagSet_iff, planRangesOk_iff]

theorem checkPlanA_reports (own : Option (BitVec 6)) (t : TableStore) :
    ReportsLowest (checkPlanA t) (CheckMet own t 5) := by
  refine reportsLowest_firstFailure (fun a b h => Nat.mul_lt_mul_of_pos_left h (by decide)) fun i =>
    forall₂_congr fun k _ => ?_
  rw [flagSet_iff, flagSet_iff]

theorem checkZoneRanges_reports (own : Option (BitVec 6)) (t : TableStore) :
    ReportsLowest (checkZoneRanges t) (CheckMet own t 6) := by
  refine reportsLowest_entries fun i => forall₂_congr fun k _ => ?_
  rw [flagSet_iff, zoneRangesOk_iff]

theorem checkZoneOverlaps_reports (own : Option (BitVec 6)) (t : TableStore) :
    ReportsLowest (checkZoneOverlaps t) (CheckMet own t 7) := by
  refine reportsLowest_entries fun i => forall₂_congr fun k _ => ?_
  rw [flagSet_iff, all_below_iff]
  simp only [flagSet_iff, ← overlaps_iff, Bool.not_eq_true]

theorem checkZonePlacement_reports (own : Option (BitVec 6)) (t : TableStore) :
    ReportsLowest (checkZonePlacement t) (CheckMet own t 8) := by
  refine reportsLowest_entries fun i => forall₂_congr fun k _ => imp_congr (flagSet_iff _).symm ?_
  split
  · next h =>
    have := indexBelow_none h
    simp only [Bool.false_eq_true, iff_false, not_exists, not_and]
    intro g hg
    omega
  · next g h =>
    have hg := indexBelow_some h
    rw [Bool.and_eq_true, flagSet_iff, placedRight_iff]
    constructor
    · rintro ⟨q, hq, placed⟩
      obtain rfl : q = g := Fin.ext (hq.symm.trans hg.symm)
      exact placed
    · exact fun placed => ⟨g, hg.symm, placed⟩

theorem checkRoutes_reports (own : Option (BitVec 6)) (t : TableStore) :
    ReportsLowest (checkRoutes t) (CheckMet own t 9) := by
  refine reportsLowest_entries fun i => forall₂_congr fun k _ => imp_congr (flagSet_iff _).symm ?_
  rw [Bool.and_eq_true, all_below_iff]
  simp only [flagSet_iff, beq_eq_false_iff_ne, RouteMeets, Bool.and_eq_true, inRange_iff, headOk_iff, decide_eq_true_eq,
    Within, Nat.zero_le, true_and, and_assoc]

theorem checkSegments_reports (own : Option (BitVec 6)) (t : TableStore) :
    ReportsLowest (checkSegments t) (CheckMet own t 10) := by
  refine reportsLowest_entries fun i => forall₂_congr fun k _ => ?_
  rw [flagSet_iff, segmentRanges_iff]

/-! ## Row 11: the walk of a chain (R39, R40) -/

theorem nextSegment_eq_some_iff {t : TableStore} {i j : Fin 128} :
    nextSegment t i = some j ↔ t.segment[i].ends = 0 ∧ t.segment[i].next.toNat = j.val := by
  unfold nextSegment segmentIndex indexBelow
  rw [← flagSet_eq_false_iff]
  generalize t.segment[i] = g
  by_cases hends : flagSet g.ends = true
  · simp [hends]
  · by_cases hfar : g.next.toNat < 128
    · simp [hends, hfar, Fin.ext_iff]
    · have : g.next.toNat ≠ j.val := by omega
      simp [hends, hfar, this]

/-- Each segment of a walk is followed by its next segment. -/
def Follows (t : TableStore) (i j : Fin 128) : Prop := nextSegment t i = some j

theorem head?_walkFrom (t : TableStore) (fuel : Nat) (i : Fin 128) : (walkFrom t (fuel + 1) i).head? = some i := by
  rw [walkFrom]
  rfl

theorem length_walkFrom_le (t : TableStore) (fuel : Nat) (i : Fin 128) : (walkFrom t fuel i).length ≤ fuel := by
  induction fuel generalizing i with
  | zero => exact Nat.le_refl 0
  | succ fuel ih =>
    rw [walkFrom, List.length_cons]
    refine Nat.succ_le_succ ?_
    split
    · exact Nat.zero_le fuel
    · exact ih _

theorem isChain_walkFrom (t : TableStore) (fuel : Nat) (i : Fin 128) :
    (walkFrom t fuel i).IsChain (Follows t) := by
  induction fuel generalizing i with
  | zero => exact List.isChain_nil
  | succ fuel ih =>
    rw [walkFrom]
    split
    · exact List.isChain_singleton i
    · next j hj =>
      refine List.isChain_cons.mpr ⟨fun q hq => ?_, ih j⟩
      cases fuel with
      | zero => cases hq
      | succ fuel =>
        rw [head?_walkFrom] at hq
        cases hq
        exact hj

/-- A walk that ends within the fuel is the one walked. -/
theorem walkFrom_eq {t : TableStore} {fuel : Nat} {i : Fin 128} {l : List (Fin 128)} (hhead : l.head? = some i)
    (hlength : l.length ≤ fuel) (hchain : l.IsChain (Follows t))
    (hlast : ∀ j, l.getLast? = some j → nextSegment t j = none) : walkFrom t fuel i = l := by
  induction l generalizing i fuel with
  | nil => cases hhead
  | cons a l ih =>
    cases hhead
    cases fuel with
    | zero => cases hlength
    | succ fuel =>
      rw [walkFrom]
      cases l with
      | nil => rw [hlast a rfl]
      | cons b l =>
        obtain ⟨hab, hrest⟩ := List.isChain_cons_cons.mp hchain
        rw [show nextSegment t a = some b from hab]
        dsimp only
        rw [ih rfl (Nat.le_of_succ_le_succ hlength) hrest fun j hj => hlast j (by rw [List.getLast?_cons_cons]; exact hj)]

theorem walkOk_iff (t : TableStore) (l : List (Fin 128)) :
    walkOk t l = true ↔ (∀ i ∈ l, t.segment[i].inUse ≠ 0) ∧ l.Nodup ∧
      ∃ i, l.getLast? = some i ∧ t.segment[i].ends ≠ 0 := by
  simp only [walkOk, Bool.and_eq_true, List.all_eq_true, flagSet_iff, decide_eq_true_eq, and_assoc]
  cases l.getLast? <;> simp [flagSet_iff]

theorem soundWalk_iff (t : TableStore) (i : Fin 128) (l : List (Fin 128)) :
    SoundWalk t i l ↔ l.head? = some i ∧ l.length ≤ 16 ∧ l.IsChain (Follows t) ∧ walkOk t l = true := by
  have linked : l.IsChain (Follows t) ↔ ∀ (n : Nat) (i j : Fin 128), l[n]? = some i → l[n + 1]? = some j →
      t.segment[i].ends = 0 ∧ t.segment[i].next.toNat = j.val := by
    simp only [List.isChain_iff_getElem, Follows, nextSegment_eq_some_iff]
    refine ⟨fun h n i j hi hj => ?_, fun h n hn => h n _ _ (List.getElem?_eq_getElem _) (List.getElem?_eq_getElem _)⟩
    obtain ⟨hn, rfl⟩ := List.getElem?_eq_some_iff.mp hj
    obtain ⟨hn', rfl⟩ := List.getElem?_eq_some_iff.mp hi
    exact h n hn
  rw [linked, walkOk_iff, SoundWalk, List.head?_eq_getElem?]
  tauto

/-- A chain passes the test of row 11 when a sound walk starts at its head. -/
theorem walkOk_chain_iff (t : TableStore) (e : RouteEntry) :
    walkOk t (chain t e) = true ↔ ∃ (g : Fin 128) (l : List (Fin 128)), e.head.toNat = g.val ∧ SoundWalk t g l := by
  simp only [soundWalk_iff, chain, chainLimit, segmentIndex]
  split
  · next h =>
    have := indexBelow_none h
    refine ⟨fun h => absurd h (by simp [walkOk]), ?_⟩
    rintro ⟨g, -, hg, -⟩
    omega
  · next g h =>
    have hg := indexBelow_some h
    constructor
    · exact fun ok => ⟨g, _, hg.symm, head?_walkFrom t 15 g, length_walkFrom_le t 16 g, isChain_walkFrom t 16 g, ok⟩
    · rintro ⟨q, l, hq, hhead, hlength, hchain, ok⟩
      obtain rfl : q = g := Fin.ext (hq.symm.trans hg.symm)
      obtain ⟨-, -, last, hlast, hends⟩ := (walkOk_iff t l).mp ok
      rw [walkFrom_eq hhead hlength hchain]
      · exact ok
      · intro j hj
        obtain rfl : j = last := Option.some.inj (hj.symm.trans hlast)
        rw [nextSegment, (flagSet_iff _).mpr hends, if_pos rfl]

theorem checkWalks_reports (own : Option (BitVec 6)) (t : TableStore) :
    ReportsLowest (checkWalks t) (CheckMet own t 11) := by
  refine reportsLowest_entries fun i => forall₂_congr fun k _ => ?_
  rw [walkOk_chain_iff, Bool.and_eq_true, flagSet_iff, bne_iff_ne, and_imp]

/-! ## The rows of a CLOSE (section 9.5) -/

theorem checkRows_report (own : Option (BitVec 6)) (t : TableStore) {n : Nat} {row : CheckRow}
    (h : (checkRows own t)[n]? = some row) : ReportsLowest row.failure (CheckMet own t (n + 1)) := by
  rw [checkRows] at h
  match n, h with
  | 0, rfl => exact checkGlobal_reports own t
  | 1, rfl => exact checkSignalRanges_reports own t
  | 2, rfl => exact checkCabinets_reports own t
  | 3, rfl => exact checkPlanRanges_reports own t
  | 4, rfl => exact checkPlanA_reports own t
  | 5, rfl => exact checkZoneRanges_reports own t
  | 6, rfl => exact checkZoneOverlaps_reports own t
  | 7, rfl => exact checkZonePlacement_reports own t
  | 8, rfl => exact checkRoutes_reports own t
  | 9, rfl => exact checkSegments_reports own t
  | 10, rfl => exact checkWalks_reports own t

theorem applies_iff (closing : TableId) (s : State) (row : CheckRow) :
    row.applies closing s.validity = true ↔ CheckMade closing s row := by
  simp [CheckRow.applies, CheckMade, List.all_eq_true]

/-- The first answer of a list is that of the first place that has one. -/
theorem findSome?_eq_some_iff_place {α β : Type} (f : α → Option β) (l : List α) (b : β) :
    l.findSome? f = some b ↔ ∃ (n : Nat) (a : α), l[n]? = some a ∧ f a = some b ∧
      ∀ (m : Nat) (x : α), m < n → l[m]? = some x → f x = none := by
  rw [List.findSome?_eq_some_iff]
  constructor
  · rintro ⟨l₁, a, l₂, rfl, ha, before⟩
    refine ⟨l₁.length, a, by simp, ha, fun m x hm hx => before x ?_⟩
    rw [List.getElem?_append_left hm] at hx
    exact List.mem_of_getElem? hx
  · rintro ⟨n, a, hn, ha, before⟩
    obtain ⟨hlt, rfl⟩ := List.getElem?_eq_some_iff.mp hn
    refine ⟨l.take n, l[n], l.drop (n + 1), by simp, ha, fun x hx => ?_⟩
    obtain ⟨m, hm, rfl⟩ := List.mem_take_iff_getElem.mp hx
    exact before m _ (by omega) (List.getElem?_eq_getElem _)

theorem firstFailedCheck_iff (closing id : TableId) (i : Nat) (s : State) :
    firstFailedCheck closing s = some (id, i) ↔
      ∃ (n : Nat) (row : CheckRow), (checkRows s.ownAddress s.tables)[n]? = some row ∧ CheckMade closing s row ∧
        row.reported = id ∧ row.failure = some i ∧
        ∀ (m : Nat) (other : CheckRow), m < n → (checkRows s.ownAddress s.tables)[m]? = some other →
          CheckMade closing s other → other.failure = none := by
  rw [firstFailedCheck, findSome?_eq_some_iff_place]
  have failed : ∀ row : CheckRow, (if row.applies closing s.validity then row.failure.map fun i => (row.reported, i)
      else none) = some (id, i) ↔ CheckMade closing s row ∧ row.reported = id ∧ row.failure = some i := by
    intro row
    rw [← applies_iff]
    by_cases made : row.applies closing s.validity = true <;> simp [made, and_comm]
  have passed : ∀ row : CheckRow, (if row.applies closing s.validity then row.failure.map fun i => (row.reported, i)
      else none) = none ↔ (CheckMade closing s row → row.failure = none) := by
    intro row
    rw [← applies_iff]
    by_cases made : row.applies closing s.validity = true <;> simp [made]
  simp only [failed, passed, and_assoc]

/-! ## VALID tables (R22, R23, R24) -/

theorem contains_iff (e : ZoneEntry) (x : Half) :
    e.contains x = true ↔ e.start.toNat ≤ x.toNat ∧ x.toNat < e.start.toNat + e.length.toNat := by
  simp [ZoneEntry.contains]

/-- A row of VALID tables is met at every index. -/
theorem ValidTablesPass.met {s : State} (h : ValidTablesPass s) {n : Nat} {row : CheckRow}
    (hrow : (checkRows s.ownAddress s.tables)[n]? = some row) (hvalid : ∀ id ∈ row.tables, s.validity.get id = .valid)
    (i : Nat) : CheckMet s.ownAddress s.tables (n + 1) i :=
  (checkRows_report s.ownAddress s.tables hrow).1.mp (h row (List.mem_of_getElem? hrow) hvalid) i

/-- In a VALID ZONE table a position lies in at most one in-use zone of a direction (R22, row 7 of R169). -/
theorem ValidTablesPass.zone_unique {s : State} (h : ValidTablesPass s) (hzone : s.validity.zone = .valid) {i j : Fin 64}
    {x : Half} (hi : flagSet s.tables.zone[i].inUse = true) (hj : flagSet s.tables.zone[j].inUse = true)
    (hdir : s.tables.zone[j].direction = s.tables.zone[i].direction) (hxi : s.tables.zone[i].contains x = true)
    (hxj : s.tables.zone[j].contains x = true) : j = i := by
  have apart : ∀ a b : Fin 64, a < b → flagSet s.tables.zone[a].inUse = true → flagSet s.tables.zone[b].inUse = true →
      ¬ ShareAPosition s.tables.zone[a] s.tables.zone[b] := by
    intro a b hab ha hb
    have row := h.met (n := 6) (row := ⟨[.zone], .zone, checkZoneOverlaps s.tables⟩) rfl
      (by simpa [Validities.get] using hzone) b.val
    exact row b rfl ((flagSet_iff _).mp hb) a hab ((flagSet_iff _).mp ha)
  rw [contains_iff] at hxi hxj
  obtain ⟨hi0, hi1⟩ := hxi
  obtain ⟨hj0, hj1⟩ := hxj
  obtain hlt | rfl | hgt := lt_trichotomy j i
  · exact absurd ⟨hdir, x.toNat, hj0, hj1, hi0, hi1⟩ (apart j i hlt hj hi)
  · rfl
  · exact absurd ⟨hdir.symm, x.toNat, hi0, hi1, hj0, hj1⟩ (apart i j hgt hi hj)

/-- In a zone placed as R24 says, a CHECK_IN position is short of the stop bar and a CHECK_OUT position is at or past
it. -/
theorem ZonePlaced.distance {e : ZoneEntry} {g : SignalEntry} (h : ZonePlaced e g) {x : Half} (hx : e.contains x = true) :
    ∃ d, directionOf e.direction = some d ∧ (e.kind = 0 → 1 ≤ distance g d x) ∧ (e.kind = 1 → distance g d x ≤ 0) := by
  rw [contains_iff] at hx
  have checkOut : e.kind = 1 → e.kind ≠ 0 := fun h => h ▸ by decide
  obtain ⟨hd, hk, hplace⟩ | ⟨hd, hk, hplace⟩ | ⟨hd, hk, hplace⟩ | ⟨hd, hk, hplace⟩ := h
  · refine ⟨.a, by rw [hd]; rfl, fun _ => ?_, fun h => absurd hk (checkOut h)⟩
    simp only [Machine.distance]
    omega
  · refine ⟨.b, by rw [hd]; rfl, fun _ => ?_, fun h => absurd hk (checkOut h)⟩
    simp only [Machine.distance]
    omega
  · refine ⟨.a, by rw [hd]; rfl, fun h => absurd h hk, fun _ => ?_⟩
    simp only [Machine.distance]
    omega
  · refine ⟨.b, by rw [hd]; rfl, fun h => absurd h hk, fun _ => ?_⟩
    simp only [Machine.distance]
    omega

/-- Settles O45: each row's test is read in the manual's terms, and rows 7 and 8 give what VALID tables promise. -/
theorem validTablesMeetTheChecks : Obligations.ValidTablesMeetTheChecks := by
  refine ⟨fun own t => rfl, fun own t n row h => checkRows_report own t h,
    fun closing id i s => firstFailedCheck_iff closing id i s, ?_⟩
  intro s i x pass hzone hused hx
  refine ⟨fun j hj hdir hxj => pass.zone_unique hzone hused hj hdir hx hxj, fun hsignal => ?_⟩
  have row := pass.met (n := 7) (row := ⟨[.zone, .signal], .zone, checkZonePlacement s.tables⟩) rfl
    (by simpa [Validities.get] using ⟨hzone, hsignal⟩) i.val
  obtain ⟨k, hk, -, placed⟩ := row i rfl ((flagSet_iff _).mp hused)
  obtain ⟨d, hd, places⟩ := placed.distance hx
  exact ⟨k, d, hk, hd, places⟩

end Sys2Proof.Machine
end

section
/-! Closing several records: the reports, the lockouts and the holders that are left (R78, R79, R80, R109), and a report
with CANCEL (R29). -/

namespace Sys2Proof.Machine

/-! ## One closure (R78) -/

/-- The state in which a record has been struck out, its report written and its signal told, before the signal's service
state is recomputed: steps 1 to 4 of R78. -/
def struckOut (i : SlotId) (r : RequestRecord) (reason : ClosureReason) (s : State) : State :=
  let wasHolder := decide ((s.ctx r.signal).holder = some i)
  let s1 := if wasHolder then generateCancel r.signal s else s
  let s2 := writeReport (r.closedReport i reason) (s1.setRecord i none)
  s2.setCtx r.signal { s2.ctx r.signal with
    holder := if wasHolder then none else (s2.ctx r.signal).holder
    lockout := lockoutAfter (s2.ctx r.signal).lockout (s2.fallbackPlan r.signal).lockoutCycles.toNat reason wasHolder
      r.served }

theorem closeRecord_eq {i : SlotId} {r : RequestRecord} {s : State} (h : s.record i = some r) (reason : ClosureReason) :
    closeRecord i reason s = recompute r.signal (struckOut i r reason s) := by
  unfold closeRecord
  rw [h]
  rfl

/-- The CANCEL of a closing holder keeps the frame of its signal. -/
theorem serves_cancelWhen (k : SignalId) (b : Bool) (s : State) :
    Serves k s (if b then generateCancel k s else s) := by
  cases b
  · exact Serves.refl k s
  · exact serves_generateCancel k s

/-- The plan whose lockout cycles and horizon apply depends on the tables and the plan in effect. -/
theorem fallbackPlan_congr {s t : State} {k : SignalId} (htables : t.tables = s.tables)
    (hplan : (t.ctx k).plan = (s.ctx k).plan) : t.fallbackPlan k = s.fallbackPlan k := by
  simp only [State.fallbackPlan, State.planInEffect, htables, hplan]
  rfl

theorem Serves.fallbackPlan {k : SignalId} {s t : State} (h : Serves k s t) (j : SignalId) :
    t.fallbackPlan j = s.fallbackPlan j :=
  fallbackPlan_congr h.tables (h.plan j)

theorem struckOut_keeps (i : SlotId) (r : RequestRecord) (reason : ClosureReason) (s : State) :
    SameConfig s (struckOut i r reason s) :=
  (((serves_cancelWhen r.signal _ s).keeps.trans (setRecord_keeps i none _)).trans (writeReport_keeps _ _)).trans
    (setCtx_keeps _ _ _)

theorem struckOut_reports (i : SlotId) (r : RequestRecord) (reason : ClosureReason) (s : State) :
    (struckOut i r reason s).reports = storeReport s.clock (r.closedReport i reason) s.reports := by
  have h := serves_cancelWhen r.signal (decide ((s.ctx r.signal).holder = some i)) s
  simp only [struckOut, State.setCtx_reports, writeReport_reports, State.setRecord_reports, State.setRecord_clock, h.clock,
    h.reports]

theorem struckOut_ctx_ne {i : SlotId} {r : RequestRecord} {reason : ClosureReason} {s : State} {k : SignalId}
    (h : k ≠ r.signal) : (struckOut i r reason s).ctx k = s.ctx k := by
  simp only [struckOut, State.ctx_setCtx_ne _ _ h, ctx_writeReport, State.ctx_setRecord]
  exact (serves_cancelWhen r.signal _ s).ctxOther k h

/-- The context of the closed record's signal: nothing of it but what an evaluation writes and the lockout count has
changed. -/
theorem struckOut_ctx (i : SlotId) (r : RequestRecord) (reason : ClosureReason) (s : State) :
    ((struckOut i r reason s).ctx r.signal).unserved =
      { (s.ctx r.signal).unserved with
        lockout := lockoutAfter (s.ctx r.signal).lockout (s.fallbackPlan r.signal).lockoutCycles.toNat reason
          (decide ((s.ctx r.signal).holder = some i)) r.served } := by
  have h := serves_cancelWhen r.signal (decide ((s.ctx r.signal).holder = some i)) s
  have hctx := h.ctxUnserved r.signal
  have hplan := h.fallbackPlan r.signal
  generalize hu : (if decide ((s.ctx r.signal).holder = some i) then generateCancel r.signal s else s) = u at h hctx hplan
  have hcount := congrArg SignalContext.lockout hctx
  have hlockout : (u.ctx r.signal).lockout = (s.ctx r.signal).lockout := hcount
  rw [← hctx, ← hlockout, ← hplan]
  simp only [struckOut, State.ctx_setCtx_self, hu]
  rfl

theorem struckOut_gates (i : SlotId) (r : RequestRecord) (reason : ClosureReason) (s : State) :
    ((struckOut i r reason s).ctx r.signal).gates =
      ((s.ctx r.signal).freshness, (s.ctx r.signal).accepting, (s.ctx r.signal).plan,
        lockoutAfter (s.ctx r.signal).lockout (s.fallbackPlan r.signal).lockoutCycles.toNat reason
          (decide ((s.ctx r.signal).holder = some i)) r.served) := by
  have h := congrArg SignalContext.gates (struckOut_ctx i r reason s)
  exact h

theorem struckOut_holder (i : SlotId) (r : RequestRecord) (reason : ClosureReason) (s : State) (k : SignalId) :
    ((struckOut i r reason s).ctx k).holder =
      if k = r.signal ∧ (s.ctx k).holder = some i then none else (s.ctx k).holder := by
  by_cases hk : k = r.signal
  · subst hk
    by_cases h : (s.ctx r.signal).holder = some i
    · simp [struckOut, h]
    · simp [struckOut, h]
  · rw [struckOut_ctx_ne hk, if_neg fun h => hk h.1]

theorem recompute_holder (k j : SignalId) (s : State) : ((recompute k s).ctx j).holder = (s.ctx j).holder := by
  rw [recompute_ctx]
  split <;> rfl

theorem recompute_gates (k j : SignalId) (s : State) : ((recompute k s).ctx j).gates = (s.ctx j).gates := by
  rw [recompute_ctx]
  split <;> rfl

/-- A closure leaves a signal without its holder when that is the record closed (R78). -/
theorem closeRecord_holder {i : SlotId} {r : RequestRecord} {s : State} (h : s.record i = some r) (reason : ClosureReason)
    (k : SignalId) :
    ((closeRecord i reason s).ctx k).holder =
      if k = r.signal ∧ (s.ctx k).holder = some i then none else (s.ctx k).holder := by
  rw [closeRecord_eq h, recompute_holder, struckOut_holder]

/-- What a closure leaves of the values a service state depends on: all but the lockout count of the record's signal. -/
theorem closeRecord_gates {i : SlotId} {r : RequestRecord} {s : State} (h : s.record i = some r) (reason : ClosureReason)
    (k : SignalId) :
    ((closeRecord i reason s).ctx k).gates =
      ((s.ctx k).freshness, (s.ctx k).accepting, (s.ctx k).plan,
        if k = r.signal then lockoutAfter (s.ctx k).lockout (s.fallbackPlan k).lockoutCycles.toNat reason
          (decide ((s.ctx k).holder = some i)) r.served else (s.ctx k).lockout) := by
  rw [closeRecord_eq h, recompute_gates]
  by_cases hk : k = r.signal
  · subst hk
    rw [if_pos rfl]
    exact struckOut_gates i r reason s
  · rw [struckOut_ctx_ne hk, if_neg hk]
    rfl

theorem closeRecord_plan (i : SlotId) (reason : ClosureReason) (s : State) (k : SignalId) :
    ((closeRecord i reason s).ctx k).plan = (s.ctx k).plan := by
  cases h : s.record i with
  | none => rw [closeRecord_free i reason s h]
  | some r => exact congrArg (fun g => g.2.2.1) (closeRecord_gates h reason k)

theorem closeRecord_lockout {i : SlotId} {r : RequestRecord} {s : State} (h : s.record i = some r)
    (reason : ClosureReason) (k : SignalId) :
    ((closeRecord i reason s).ctx k).lockout =
      if k = r.signal then lockoutAfter (s.ctx k).lockout (s.fallbackPlan k).lockoutCycles.toNat reason
        (decide ((s.ctx k).holder = some i)) r.served else (s.ctx k).lockout :=
  congrArg (fun g => g.2.2.2) (closeRecord_gates h reason k)

theorem closeRecord_fallbackPlan (i : SlotId) (reason : ClosureReason) (s : State) (k : SignalId) :
    (closeRecord i reason s).fallbackPlan k = s.fallbackPlan k :=
  fallbackPlan_congr (closeRecord_keeps i reason s).tables (closeRecord_plan i reason s k)

/-! ## The reports of a closure (R80, R113) -/

/-- Every service state is the one R111 gives. -/
def StatesDerived (s : State) : Prop := ∀ k, (s.ctx k).state = serviceState k s

/-- The service state that the rows of R111 above LOCKOUT and READY give, when one of them does. -/
def stateAboveLockout (k : SignalId) (s : State) : Option ServiceState :=
  if !flagSet (s.signalEntry k).inUse || !flagSet (s.tables.planEntry k .a).inUse || s.validity.anyInvalid then
    some .unconfigured
  else if s.covered k then some .suspended
  else if s.isDisabled k then some .disabled
  else if !(s.ctx k).freshness.isFresh then some .noStatus
  else if !(s.ctx k).accepting || !flagSet (s.planInEffect k).inUse then some .inhibited
  else none

theorem serviceState_eq (k : SignalId) (s : State) :
    serviceState k s = (stateAboveLockout k s).getD (if 0 < (s.ctx k).lockout then .lockout else .ready) := by
  unfold serviceState stateAboveLockout
  split_ifs <;> rfl

/-- A service state that changes by its lockout count alone is not reported (R109, R113). -/
theorem reportsStateChange_lockout {s t : State} {k : SignalId} {n : Nat} (h : SameConfig s t)
    (hgates : (t.ctx k).gates = ((s.ctx k).freshness, (s.ctx k).accepting, (s.ctx k).plan, n)) :
    reportsStateChange (serviceState k s) (serviceState k t) = false := by
  simp only [SignalContext.gates, Prod.mk.injEq] at hgates
  obtain ⟨hfresh, haccepting, hplan, -⟩ := hgates
  have above : stateAboveLockout k t = stateAboveLockout k s := by
    simp only [stateAboveLockout, State.signalEntry, State.covered, State.isDisabled, State.planInEffect, h.tables,
      h.validity, h.load, h.disabled, hfresh, haccepting, hplan]
    rfl
  rw [serviceState_eq, serviceState_eq, above]
  cases stateAboveLockout k s with
  | some x => simp [reportsStateChange]
  | none => split_ifs <;> rfl

/-- A closure among derived service states leaves them derived, and writes its REQUEST_CLOSED report alone. -/
theorem closeRecord_derived {i : SlotId} {r : RequestRecord} {s : State} (h : s.record i = some r) (reason : ClosureReason)
    (hs : StatesDerived s) :
    StatesDerived (closeRecord i reason s) ∧
      (closeRecord i reason s).reports = storeReport s.clock (r.closedReport i reason) s.reports := by
  have keeps := struckOut_keeps i r reason s
  have state : ∀ k, ((struckOut i r reason s).ctx k).state = serviceState k s := by
    intro k
    rw [← hs k]
    by_cases hk : k = r.signal
    · subst hk
      have hstate := congrArg SignalContext.state (struckOut_ctx i r reason s)
      exact hstate
    · rw [struckOut_ctx_ne hk]
  constructor
  · intro k
    rw [closeRecord_eq h, serviceState_recompute, recompute_ctx]
    split
    · rfl
    · next hk =>
      rw [state]
      exact (serviceState_congr keeps (by rw [struckOut_ctx_ne hk])).symm
  · have quiet : reportsStateChange (serviceState r.signal s) (serviceState r.signal (struckOut i r reason s)) = false :=
      reportsStateChange_lockout keeps (struckOut_gates i r reason s)
    rw [closeRecord_eq h, recompute_eq, State.setReports_reports, state, quiet, if_neg Bool.false_ne_true,
      struckOut_reports]

/-! ## Several closures (R79) -/

theorem State.records_slots (s : State) : s.records.map Prod.fst = allSlots.filter fun i => (s.record i).isSome := by
  rw [State.records]
  generalize allSlots = l
  induction l with
  | nil => rfl
  | cons i l ih =>
    cases h : s.record i <;> simp [h, ih]

/-- The slots of records that meet a condition, in their order, are different slots. -/
theorem State.nodup_records_filter (s : State) (p : SlotId × RequestRecord → Bool) :
    ((s.records.filter p).map Prod.fst).Nodup := by
  refine List.Nodup.sublist (List.filter_sublist.map Prod.fst) ?_
  rw [s.records_slots]
  exact (List.nodup_finRange 40).filter _

/-- These are records of the state, in different slots. -/
def Listed (s : State) (l : List (SlotId × RequestRecord)) : Prop :=
  (∀ x ∈ l, s.record x.1 = some x.2) ∧ (l.map Prod.fst).Nodup

theorem listed_filter (s : State) (p : SlotId × RequestRecord → Bool) : Listed s (s.records.filter p) :=
  ⟨fun x hx => (s.mem_records x).mp (List.mem_of_mem_filter hx), s.nodup_records_filter p⟩

/-- After the first of several records has closed, the others are still there. -/
theorem Listed.closed {s : State} {x : SlotId × RequestRecord} {l : List (SlotId × RequestRecord)}
    (h : Listed s (x :: l)) (reason : ClosureReason) : Listed (closeRecord x.1 reason s) l := by
  obtain ⟨hrecord, hnodup⟩ := h
  rw [List.map_cons, List.nodup_cons] at hnodup
  refine ⟨fun y hy => ?_, hnodup.2⟩
  rw [closeRecord_other]
  · exact hrecord y (List.mem_cons_of_mem x hy)
  · exact fun e => hnodup.1 (e ▸ List.mem_map_of_mem hy)

/-- Several closures among derived service states write their REQUEST_CLOSED reports in their order, and no other. -/
theorem closeAll_reports {l : List (SlotId × RequestRecord)} {s : State} (h : Listed s l) (reason : ClosureReason)
    (hs : StatesDerived s) : (closeAll (l.map Prod.fst) reason s).reports = closureReports s reason l := by
  induction l generalizing s with
  | nil => rfl
  | cons x l ih =>
    obtain ⟨derived, reports⟩ := closeRecord_derived (h.1 x List.mem_cons_self) reason hs
    have rest := ih (h.closed reason) derived
    rw [closureReports, (closeRecord_keeps x.1 reason s).clock, reports] at rest
    exact rest

/-- A record closes of which a lockout begins: a completed passage of the SERVED holder of a signal (R109). -/
def BeginsLockout (s : State) (k : SignalId) (x : SlotId × RequestRecord) : Prop :=
  x.2.signal = k ∧ (s.ctx k).holder = some x.1 ∧ x.2.served = true ∧ 0 < (s.fallbackPlan k).lockoutCycles.toNat

theorem closeRecord_lockout_begins {s : State} {x : SlotId × RequestRecord} {k : SignalId} {reason : ClosureReason}
    (hx : s.record x.1 = some x.2) (hpassage : reason.isPassage = true) (h : BeginsLockout s k x) :
    ((closeRecord x.1 reason s).ctx k).lockout = (s.fallbackPlan k).lockoutCycles.toNat := by
  obtain ⟨hsignal, hholder, hserved, hcycles⟩ := h
  rw [closeRecord_lockout hx, if_pos hsignal.symm]
  simp [lockoutAfter, hholder, hserved, hpassage, hcycles]

theorem closeRecord_lockout_keeps {s : State} {x : SlotId × RequestRecord} {k : SignalId} {reason : ClosureReason}
    (hx : s.record x.1 = some x.2) (h : reason.isPassage = true → ¬ BeginsLockout s k x) :
    ((closeRecord x.1 reason s).ctx k).lockout = (s.ctx k).lockout := by
  rw [closeRecord_lockout hx]
  split
  · next hk =>
    rw [lockoutAfter, if_neg]
    simp only [Bool.and_eq_true, decide_eq_true_eq]
    rintro ⟨⟨⟨hholder, hserved⟩, hpassage⟩, hcycles⟩
    exact h hpassage ⟨hk.symm, hholder, hserved, hcycles⟩
  · rfl

/-- The lockout counts after several closures (R109). -/
theorem closeAll_lockout {l : List (SlotId × RequestRecord)} {s : State} (h : Listed s l) (reason : ClosureReason)
    (k : SignalId) :
    (reason.isPassage = true → (∃ x ∈ l, BeginsLockout s k x) →
      ((closeAll (l.map Prod.fst) reason s).ctx k).lockout = (s.fallbackPlan k).lockoutCycles.toNat) ∧
    ((reason.isPassage = true → ∀ x ∈ l, ¬ BeginsLockout s k x) →
      ((closeAll (l.map Prod.fst) reason s).ctx k).lockout = (s.ctx k).lockout) := by
  induction l generalizing s with
  | nil => exact ⟨fun _ ⟨x, hx, _⟩ => absurd hx List.not_mem_nil, fun _ => rfl⟩
  | cons x l ih =>
    have hx := h.1 x List.mem_cons_self
    have hplan := closeRecord_fallbackPlan x.1 reason s k
    have hholder := closeRecord_holder hx reason k
    have later : ∀ y, BeginsLockout (closeRecord x.1 reason s) k y → BeginsLockout s k y := by
      rintro y ⟨hsignal, hy, hserved, hcycles⟩
      rw [hholder] at hy
      split at hy
      · cases hy
      · exact ⟨hsignal, hy, hserved, hplan ▸ hcycles⟩
    obtain ⟨begins, keeps⟩ := ih (h.closed reason)
    rw [hplan] at begins
    by_cases first : reason.isPassage = true ∧ BeginsLockout s k x
    · have none_later : ∀ y ∈ l, ¬ BeginsLockout (closeRecord x.1 reason s) k y := by
        rintro y - ⟨-, hy, -⟩
        rw [hholder, if_pos ⟨first.2.1.symm, first.2.2.1⟩] at hy
        cases hy
      have now := closeRecord_lockout_begins hx first.1 first.2
      exact ⟨fun _ _ => (keeps fun _ => none_later).trans now,
        fun h => absurd first.2 (h first.1 x List.mem_cons_self)⟩
    · have now := closeRecord_lockout_keeps hx fun hpassage hbegins => first ⟨hpassage, hbegins⟩
      have earlier : reason.isPassage = true → ∀ y ∈ l, BeginsLockout s k y →
          BeginsLockout (closeRecord x.1 reason s) k y := by
        rintro hpassage y hy ⟨hsignal, hy', hserved, hcycles⟩
        refine ⟨hsignal, ?_, hserved, hplan.symm ▸ hcycles⟩
        rw [hholder, if_neg]
        · exact hy'
        · rintro ⟨-, hx'⟩
          have same : x.1 = y.1 := Option.some.inj (hx'.symm.trans hy')
          exact (List.nodup_cons.mp h.2).1 (same ▸ List.mem_map_of_mem hy)
      refine ⟨fun hpassage ⟨y, hy, hbegins⟩ => ?_, fun hnone => ?_⟩
      · obtain rfl | hy := List.mem_cons.mp hy
        · exact absurd ⟨hpassage, hbegins⟩ first
        · exact begins hpassage ⟨y, hy, earlier hpassage y hy hbegins⟩
      · refine (keeps fun hpassage y hy hbegins => ?_).trans now
        exact hnone hpassage y (List.mem_cons_of_mem x hy) (later y hbegins)

/-! ## The evaluations of a report (R37) -/

/-- The signals that evaluate after a report. -/
def touchedSignals (l : List SignalId) : List SignalId := allSignals.filter fun k => l.contains k

theorem mem_touchedSignals {l : List SignalId} {k : SignalId} : k ∈ touchedSignals l ↔ k ∈ l := by
  simp [touchedSignals, mem_allSignals]

theorem nodup_touchedSignals (l : List SignalId) : (touchedSignals l).Nodup :=
  (List.nodup_finRange 16).filter _

/-- The evaluations of a report, and beside them only the order in the two call queues and the count of free choices. -/
theorem evaluateTouched_eq (l : List SignalId) (s : State) :
    ∃ west east : Port, evaluateTouched l s =
      { evaluateAll (touchedSignals l) s with west := west, east := east, freeCount := s.freeCount + 1 } :=
  ⟨_, _, rfl⟩

theorem evaluateTouched_record (l : List SignalId) (s : State) (i : SlotId) :
    (evaluateTouched l s).record i = (evaluateAll (touchedSignals l) s).record i := by
  obtain ⟨west, east, h⟩ := evaluateTouched_eq l s
  rw [h]
  rfl

theorem evaluateTouched_ctx (l : List SignalId) (s : State) (k : SignalId) :
    (evaluateTouched l s).ctx k = (evaluateAll (touchedSignals l) s).ctx k := by
  obtain ⟨west, east, h⟩ := evaluateTouched_eq l s
  rw [h]
  rfl

theorem evaluated_evaluateTouched (l : List SignalId) (s : State) : Evaluated s (evaluateTouched l s) where
  toSameConfig := evaluateTouched_keeps l s
  ctx k := by rw [evaluateTouched_ctx]; exact (evaluated_evaluateAll _ s).ctx k
  record i := by rw [evaluateTouched_record]; exact (evaluated_evaluateAll _ s).record i

theorem evaluateAll_reports (l : List SignalId) (s : State) : (evaluateAll l s).reports = s.reports := by
  induction l generalizing s with
  | nil => rfl
  | cons k l ih => exact (ih (evaluate k s)).trans (serves_evaluate k s).reports

theorem evaluateTouched_reports (l : List SignalId) (s : State) : (evaluateTouched l s).reports = s.reports := by
  obtain ⟨west, east, h⟩ := evaluateTouched_eq l s
  rw [h]
  exact evaluateAll_reports _ s

theorem Evaluated.lockout {s t : State} (h : Evaluated s t) (k : SignalId) : (t.ctx k).lockout = (s.ctx k).lockout := by
  have e := congrArg SignalContext.lockout (h.ctx k)
  exact e

/-- Queues that have gained no call slot stay in their order. -/
theorem reorderNew_self (key : SignalId → Nat) (p : PortId) (s : State) : reorderNew key s p s = s := by
  have order : reorderTail key (s.port p).callQueue.length (s.port p).callQueue = (s.port p).callQueue := by
    simp [reorderTail, sortByKey]
  rw [reorderNew, order]
  exact s.setPort_port p

/-- With no signal touched nothing evaluates. -/
theorem evaluateTouched_nil (s : State) : evaluateTouched [] s = { s with freeCount := s.freeCount + 1 } := by
  have none_evaluates : evaluateAll (allSignals.filter fun k => [].contains k) s = s := by
    rw [List.filter_eq_nil_iff.mpr fun k _ => by simp]
    rfl
  simp only [evaluateTouched, none_evaluates, reorderNew_self]

/-! ## The event of a report -/

/-- A report taken in mode ACTIVE, of a route that is resolved: its event, and the frame of it. -/
theorem exec_busReport_taken {p : PortId} {r : BusReport} {t : TakenReport} {route : Fin 32} {s : State}
    (hands : HandsOn s p) (hmode : s.mode = .active) (ht : taken r = some t)
    (hroute : resolveRoute s.tables t.route = some route) :
    exec (.busReport p r) s = .next (finish (actOnReport t route s)) ∧ SameConfig s (finish (actOnReport t route s)) ∧
      ∀ q : PortId, SameReceiver (s.port q) ((finish (actOnReport t route s)).port q) := by
  have works := works_actOnReport t route s
  refine ⟨?_, works.toSameConfig.trans (finish_keeps _), fun q => ?_⟩
  · rw [exec_busReport hands, takeBusReport_taken hmode ht hroute]
  · have received : SameReceiver (s.port q) ((actOnReport t route s).port q) := SameReceiver.of_eq (works.port q ▸ rfl)
    have sent := Port.transmit_keeps ((actOnReport t route s).port q) (actOnReport t route s).parity
      (actOnReport t route s).srcByte
    rw [finish_port]
    exact ⟨sent.state.trans received.state, sent.rate.trans received.rate, sent.hasRun.trans received.hasRun,
      sent.awaitingIdle.trans received.awaitingIdle, sent.rx.trans received.rx,
      sent.consecutiveBad.trans received.consecutiveBad, sent.badFrames.trans received.badFrames,
      sent.repeatDrops.trans received.repeatDrops⟩

/-! ## A report with CANCEL (R29) -/

theorem actOnReport_cancel {t : TakenReport} (h : t.cancel = true) (route : Fin 32) (s : State) :
    actOnReport t route s =
      evaluateTouched (signalsOf (slotsOf t.bus s) s) (closeAll (slotsOf t.bus s) .canceled s) := by
  rw [actOnReport, if_pos h]
  rfl

theorem mem_slots_filter {s : State} {p : SlotId × RequestRecord → Bool} {i : SlotId} :
    i ∈ (s.records.filter p).map Prod.fst ↔ ∃ x, s.record i = some x ∧ p (i, x) = true := by
  simp only [List.mem_map, List.mem_filter, State.mem_records]
  constructor
  · rintro ⟨x, ⟨hx, hp⟩, rfl⟩
    exact ⟨x.2, hx, hp⟩
  · rintro ⟨x, hx, hp⟩
    exact ⟨(i, x), ⟨hx, hp⟩, rfl⟩

theorem mem_slotsOf {bus : Half} {s : State} {i : SlotId} :
    i ∈ slotsOf bus s ↔ ∃ x, s.record i = some x ∧ x.bus = bus := by
  rw [slotsOf, mem_slots_filter]
  simp only [beq_iff_eq]

theorem DerivedOk.states {s : State} (h : DerivedOk s) : StatesDerived s := h.1

/-- The records left after several closures and the evaluations are those of the other slots, but for their fields of
service. -/
theorem closed_record {reason : ClosureReason} {slots : List SlotId} (touched : List SignalId) (s : State) (i : SlotId) :
    ((evaluateTouched touched (closeAll slots reason s)).record i).map RequestRecord.unserved =
      if i ∈ slots then none else (s.record i).map RequestRecord.unserved := by
  rw [(evaluated_evaluateTouched touched _).record, closeAll_record]
  split <;> rfl

/-- Settles O26. -/
theorem cancelReportClosesAll : Obligations.CancelReportClosesAll := by
  intro p r t route s hands hmode ht hroute hcancel
  obtain ⟨hexec, hconfig, hreceiver⟩ := exec_busReport_taken hands hmode ht hroute
  rw [actOnReport_cancel hcancel, (taken_names ht).1] at *
  refine ⟨_, hexec, hconfig, hreceiver, fun i x hx hbus => ?_, fun i hother => ?_, fun derived => ?_, fun k => ?_,
    fun hnone => ?_⟩
  · have gone := closed_record (reason := .canceled) (slots := slotsOf r.bus s) (signalsOf (slotsOf r.bus s) s) s i
    rw [if_pos (mem_slotsOf.mpr ⟨x, hx, hbus⟩), Option.map_eq_none_iff] at gone
    rw [finish_record]
    exact gone
  · have stays := closed_record (reason := .canceled) (slots := slotsOf r.bus s) (signalsOf (slotsOf r.bus s) s) s i
    rw [if_neg fun h => (mem_slotsOf.mp h).elim fun x hx => hother x hx.1 hx.2] at stays
    rw [finish_record]
    exact stays
  · rw [finish_reports, evaluateTouched_reports, slotsOf]
    exact closeAll_reports (listed_filter s fun x => x.2.bus == r.bus) .canceled derived.states
  · rw [finish_ctx, (evaluated_evaluateTouched _ _).lockout, slotsOf]
    exact (closeAll_lockout (listed_filter s fun x => x.2.bus == r.bus) .canceled k).2 nofun
  · have no_slots : slotsOf r.bus s = [] := List.eq_nil_iff_forall_not_mem.mpr fun i hi =>
      (mem_slotsOf.mp hi).elim fun x hx => hnone i x hx.1 hx.2
    rw [no_slots]
    exact congrArg finish (evaluateTouched_nil s)

end Sys2Proof.Machine
end

section
/-! What evaluations make of a record and of the holders: where each record stands against its signal's horizon, and which
records an evaluation can change (R59, R60, R63, R120, R123, R124). -/

namespace Sys2Proof.Machine

/-! ## Fields of service -/

theorem unserved_signal {x y : RequestRecord} (h : y.unserved = x.unserved) : y.signal = x.signal := by
  have e := congrArg RequestRecord.signal h
  exact e

theorem unserved_bus {x y : RequestRecord} (h : y.unserved = x.unserved) : y.bus = x.bus := by
  have e := congrArg RequestRecord.bus h
  exact e

theorem unserved_arrival {x y : RequestRecord} (h : y.unserved = x.unserved) : y.arrival = x.arrival := by
  have e := congrArg RequestRecord.arrival h
  exact e

theorem unserved_projectionExpiry {x y : RequestRecord} (h : y.unserved = x.unserved) :
    y.projectionExpiry = x.projectionExpiry := by
  have e := congrArg RequestRecord.projectionExpiry h
  exact e

/-! ## Where a record stands (R59 to R61) -/

/-- Two states in which records stand against the same horizons at the same time. -/
def SameHorizons (s t : State) : Prop := t.clock = s.clock ∧ ∀ k, t.horizonUnits k = s.horizonUnits k

theorem SameHorizons.symm {s t : State} (h : SameHorizons s t) : SameHorizons t s :=
  ⟨h.1.symm, fun k => (h.2 k).symm⟩

theorem sameHorizons_of {s t : State} (h : SameConfig s t) (hplan : ∀ k, (t.ctx k).plan = (s.ctx k).plan) :
    SameHorizons s t :=
  ⟨h.clock, fun k => by rw [State.horizonUnits, fallbackPlan_congr h.tables (hplan k), State.horizonUnits]⟩

theorem Evaluated.plan {s t : State} (h : Evaluated s t) (k : SignalId) : (t.ctx k).plan = (s.ctx k).plan := by
  have e := congrArg SignalContext.plan (h.ctx k)
  exact e

theorem Evaluated.sameHorizons {s t : State} (h : Evaluated s t) : SameHorizons s t :=
  sameHorizons_of h.toSameConfig h.plan

theorem PlacedByHorizon.congr {s t : State} {r : RequestRecord} (h : PlacedByHorizon s r) (hst : SameHorizons s t) :
    PlacedByHorizon t r := by
  rw [PlacedByHorizon, hst.1, hst.2]
  exact h

theorem PlacedByHorizon.record_congr {s : State} {r q : RequestRecord} (h : PlacedByHorizon s r)
    (hunserved : q.unserved = r.unserved) (hstate : q.state = r.state) (hentry : q.horizonEntry = r.horizonEntry) :
    PlacedByHorizon s q := by
  rw [PlacedByHorizon, hstate, hentry, unserved_signal hunserved, unserved_arrival hunserved]
  exact h

theorem placedByHorizon_byHorizon {s : State} {r : RequestRecord} {k : SignalId} (h : r.signal = k) :
    PlacedByHorizon s (r.byHorizon s.clock (s.horizonUnits k)) := by
  subst h
  unfold RequestRecord.byHorizon
  split
  · next far => exact ⟨fun _ => ⟨rfl, rfl⟩, fun near => absurd far (Nat.not_lt.mpr near)⟩
  · next near => exact ⟨fun far => absurd far near, fun _ => ⟨.inl rfl, rfl⟩⟩

theorem byHorizon_state (r : RequestRecord) (now : Time) (horizon : Nat) :
    (r.byHorizon now horizon).state = .armed ∨ (r.byHorizon now horizon).state = .waiting := by
  unfold RequestRecord.byHorizon
  split
  · exact .inl rfl
  · exact .inr rfl

theorem byHorizon_lapsed (r : RequestRecord) (now : Time) (horizon : Nat) : (r.byHorizon now horizon).lapsed = r.lapsed := by
  unfold RequestRecord.byHorizon
  split <;> rfl

theorem released_of_projected {r : RequestRecord} (h : r.state = .projected) (now : Time) (horizon : Nat) :
    r.released now horizon = r := by
  rw [RequestRecord.released, if_pos h]

theorem released_of_checkIn {r : RequestRecord} (h : r.state ≠ .projected) (now : Time) (horizon : Nat) :
    r.released now horizon = r.byHorizon now horizon := by
  rw [RequestRecord.released, if_neg h]

theorem held_of_projected {r : RequestRecord} (h : r.state = .projected) : r.held = r := by
  rw [RequestRecord.held, if_pos h]

theorem held_of_checkIn {r : RequestRecord} (h : r.state ≠ .projected) :
    r.held = { r with state := .holding, horizonEntry := none } := by
  rw [RequestRecord.held, if_neg h]

/-- A holder gives up holding into a state other than HOLDING. -/
theorem released_state_ne {r : RequestRecord} (now : Time) (horizon : Nat) : (r.released now horizon).state ≠ .holding := by
  by_cases h : r.state = .projected
  · rw [released_of_projected h, h]
    decide
  · rw [released_of_checkIn h]
    obtain e | e := byHorizon_state r now horizon <;> rw [e] <;> decide

theorem held_state (r : RequestRecord) : r.held.state = .holding ∨ r.held.state = .projected := by
  by_cases h : r.state = .projected
  · rw [held_of_projected h]
    exact .inr h
  · rw [held_of_checkIn h]
    exact .inl rfl

/-- What evaluations make of a record: its fields of service alone, not LAPSED; and it has stayed where it stood, or, of
origin CHECK_IN, has been placed by its horizon. -/
structure Resettled (s : State) (r q : RequestRecord) : Prop where
  unserved : q.unserved = r.unserved
  lapsed : q.lapsed = r.lapsed
  place : (q.state = r.state ∧ q.horizonEntry = r.horizonEntry) ∨
    (r.state ≠ .projected ∧ q.state ≠ .projected ∧ PlacedByHorizon s q)

theorem Resettled.refl (s : State) (r : RequestRecord) : Resettled s r r := ⟨rfl, rfl, .inl ⟨rfl, rfl⟩⟩

theorem Resettled.projected_iff {s : State} {r q : RequestRecord} (h : Resettled s r q) :
    q.state = .projected ↔ r.state = .projected := by
  obtain ⟨hstate, -⟩ | ⟨hr, hq, -⟩ := h.place
  · rw [hstate]
  · exact ⟨fun e => absurd e hq, fun e => absurd e hr⟩

/-- A record that stood by its horizon stands by it. -/
theorem Resettled.placed {s : State} {r q : RequestRecord} (h : Resettled s r q) (hr : PlacedByHorizon s r) :
    PlacedByHorizon s q := by
  obtain ⟨hstate, hentry⟩ | ⟨-, -, placed⟩ := h.place
  · exact hr.record_congr h.unserved hstate hentry
  · exact placed

theorem Resettled.trans {s t : State} {r q x : RequestRecord} (h : Resettled s r q) (g : Resettled t q x)
    (hst : SameHorizons s t) : Resettled s r x where
  unserved := g.unserved.trans h.unserved
  lapsed := g.lapsed.trans h.lapsed
  place := by
    obtain ⟨hstate, hentry⟩ | ⟨hq, hx, placed⟩ := g.place
    · obtain ⟨hstate', hentry'⟩ | ⟨hr, hq, placed⟩ := h.place
      · exact .inl ⟨hstate.trans hstate', hentry.trans hentry'⟩
      · exact .inr ⟨hr, hstate ▸ hq, placed.record_congr g.unserved hstate hentry⟩
    · exact .inr ⟨fun e => hq (h.projected_iff.mpr e), hx, placed.congr hst.symm⟩

theorem resettled_released {s : State} {r : RequestRecord} {k : SignalId} (h : r.signal = k) :
    Resettled s r (r.released s.clock (s.horizonUnits k)) := by
  by_cases hp : r.state = .projected
  · rw [released_of_projected hp]
    exact Resettled.refl s r
  · rw [released_of_checkIn hp]
    refine ⟨byHorizon_unserved r _ _, byHorizon_lapsed r _ _, .inr ⟨hp, ?_, placedByHorizon_byHorizon h⟩⟩
    obtain e | e := byHorizon_state r s.clock (s.horizonUnits k) <;> rw [e] <;> decide

/-- A record within its horizon that becomes holder stands by its horizon. -/
theorem resettled_held {s : State} {r : RequestRecord} (h : remaining s.clock r.arrival ≤ s.horizonUnits r.signal) :
    Resettled s r r.held := by
  by_cases hp : r.state = .projected
  · rw [held_of_projected hp]
    exact Resettled.refl s r
  · rw [held_of_checkIn hp]
    refine ⟨rfl, rfl, .inr ⟨hp, nofun, fun far => absurd h (Nat.not_le.mpr far), fun _ => ⟨.inr rfl, rfl⟩⟩⟩

/-! ## Holders (R63) -/

theorem holdersOk_iff (s : State) :
    HoldersOk s ↔
      (∀ (k : SignalId) (i : SlotId), (s.ctx k).holder = some i →
        ∃ r, s.record i = some r ∧ r.signal = k ∧ (r.state = .holding ∨ r.state = .projected)) ∧
      ∀ i r, s.record i = some r → r.state = .holding → (s.ctx r.signal).holder = some i := by
  constructor
  · rintro ⟨named, holding⟩
    refine ⟨fun k i hi => ?_, fun i r hr => holding (i, r) ((s.mem_records (i, r)).mpr hr)⟩
    obtain ⟨⟨_, r⟩, hr, rfl, hsignal, hstate⟩ := named k i hi
    exact ⟨r, (s.mem_records _).mp hr, hsignal, hstate⟩
  · rintro ⟨named, holding⟩
    refine ⟨fun k i hi => ?_, fun x hx => holding x.1 x.2 ((s.mem_records x).mp hx)⟩
    obtain ⟨r, hr, hsignal, hstate⟩ := named k i hi
    exact ⟨(i, r), (s.mem_records _).mpr hr, rfl, hsignal, hstate⟩

/-- The holder of a signal is a record of that signal. -/
theorem HoldersOk.holder {s : State} (h : HoldersOk s) {k : SignalId} {i : SlotId} (hi : (s.ctx k).holder = some i) :
    ∃ r, s.record i = some r ∧ r.signal = k ∧ (r.state = .holding ∨ r.state = .projected) :=
  ((holdersOk_iff s).mp h).1 k i hi

theorem HoldersOk.holding {s : State} (h : HoldersOk s) {i : SlotId} {r : RequestRecord} (hr : s.record i = some r)
    (hstate : r.state = .holding) : (s.ctx r.signal).holder = some i :=
  ((holdersOk_iff s).mp h).2 i r hr hstate

/-- A record is holder of no signal but its own. -/
theorem HoldersOk.holder_signal {s : State} (h : HoldersOk s) {k : SignalId} {i : SlotId} {r : RequestRecord}
    (hi : (s.ctx k).holder = some i) (hr : s.record i = some r) : r.signal = k := by
  obtain ⟨q, hq, hsignal, -⟩ := h.holder hi
  obtain rfl : r = q := Option.some.inj (hr.symm.trans hq)
  exact hsignal

theorem HoldersOk.holder_free {s : State} (h : HoldersOk s) {i : SlotId} (hi : s.record i = none) (k : SignalId) :
    (s.ctx k).holder ≠ some i := by
  intro hk
  obtain ⟨r, hr, -⟩ := h.holder hk
  rw [hi] at hr
  cases hr

/-- The signal of a record and whether it is HOLDING or PROJECTED: what a holder's record is judged by. -/
def RequestRecord.standing (r : RequestRecord) : SignalId × Bool × Bool :=
  (r.signal, decide (r.state = .holding), decide (r.state = .projected))

theorem standing_eq_iff {r q : RequestRecord} :
    q.standing = r.standing ↔
      q.signal = r.signal ∧ (q.state = .holding ↔ r.state = .holding) ∧ (q.state = .projected ↔ r.state = .projected) := by
  simp [RequestRecord.standing]

/-- Holders depend on the contexts' holders and on where each record stands. -/
theorem HoldersOk.congr {s t : State} (h : HoldersOk s) (hholder : ∀ k, (t.ctx k).holder = (s.ctx k).holder)
    (hrecord : ∀ i, (t.record i).map RequestRecord.standing = (s.record i).map RequestRecord.standing) :
    HoldersOk t := by
  refine (holdersOk_iff t).mpr ⟨fun k i hi => ?_, fun i r hr hstate => ?_⟩
  · obtain ⟨r, hr, hsignal, hstate⟩ := h.holder ((hholder k).symm.trans hi)
    have e := hrecord i
    rw [hr, Option.map_some, Option.map_eq_some_iff] at e
    obtain ⟨q, hq, e⟩ := e
    obtain ⟨esignal, eholding, eprojected⟩ := standing_eq_iff.mp e
    exact ⟨q, hq, esignal.trans hsignal, hstate.imp eholding.mpr eprojected.mpr⟩
  · have e := (hrecord i).symm
    rw [hr, Option.map_some, Option.map_eq_some_iff] at e
    obtain ⟨q, hq, e⟩ := e
    obtain ⟨esignal, eholding, -⟩ := standing_eq_iff.mp e
    rw [hholder, ← esignal]
    exact h.holding hq (eholding.mpr hstate)

/-! ## Giving up and taking holding (R63, R124) -/

theorem giveUp_record {k : SignalId} {s : State} {i : SlotId} (h : (s.ctx k).holder = some i) (j : SlotId) :
    (giveUp k s).record j =
      if j = i then (s.record j).map fun r => r.released s.clock (s.horizonUnits k) else s.record j := by
  have cancels := serves_generateCancel k s
  have holder := (generateCancel_holder k s).trans h
  have horizon : (generateCancel k s).horizonUnits k = s.horizonUnits k := by
    rw [State.horizonUnits, cancels.fallbackPlan, State.horizonUnits]
  simp only [giveUp, holder, State.record_setCtx, State.record_modRecord, generateCancel_record, cancels.clock, horizon]

theorem takeHolding_record (k : SignalId) (i : SlotId) (s : State) (j : SlotId) :
    (takeHolding k i s).record j = if j = i then (s.record j).map RequestRecord.held else s.record j := by
  rw [takeHolding, State.record_setCtx, State.record_modRecord]

theorem takeHolding_ctx_ne {k j : SignalId} (i : SlotId) (s : State) (h : j ≠ k) : (takeHolding k i s).ctx j = s.ctx j :=
  (serves_takeHolding k i s).ctxOther j h

theorem holdersOk_giveUp {s : State} (h : HoldersOk s) {k : SignalId} {i : SlotId} (hk : (s.ctx k).holder = some i) :
    HoldersOk (giveUp k s) := by
  have gone := (giveUp_holder k s).1
  have others := (serves_giveUp k s).ctxOther
  have record := giveUp_record hk
  refine (holdersOk_iff _).mpr ⟨fun j a ha => ?_, fun a r hr hstate => ?_⟩
  · have hj : j ≠ k := by
      rintro rfl
      rw [gone] at ha
      cases ha
    rw [others j hj] at ha
    obtain ⟨r, hr, hsignal, hstate⟩ := h.holder ha
    refine ⟨r, ?_, hsignal, hstate⟩
    rw [record, if_neg]
    · exact hr
    · rintro rfl
      exact hj (hsignal.symm.trans (h.holder_signal hk hr))
  · rw [record] at hr
    split at hr
    · obtain ⟨q, -, rfl⟩ := Option.map_eq_some_iff.mp hr
      exact absurd hstate (released_state_ne _ _)
    · next ha =>
      have hholder := h.holding hr hstate
      rw [others]
      · exact hholder
      · intro e
        rw [e, hk] at hholder
        exact ha (Option.some.inj hholder).symm

theorem holdersOk_takeHolding {s : State} (h : HoldersOk s) {k : SignalId} {i : SlotId} {q : RequestRecord}
    (hk : (s.ctx k).holder = none) (hq : s.record i = some q) (hsignal : q.signal = k) : HoldersOk (takeHolding k i s) := by
  have record := takeHolding_record k i s
  refine (holdersOk_iff _).mpr ⟨fun j a ha => ?_, fun a r hr hstate => ?_⟩
  · by_cases hj : j = k
    · subst hj
      obtain rfl : i = a := Option.some.inj ((takeHolding_holder j i s).symm.trans ha)
      refine ⟨q.held, ?_, (unserved_signal (held_unserved q)).trans hsignal, held_state q⟩
      rw [record, if_pos rfl, hq]
      rfl
    · rw [takeHolding_ctx_ne i s hj] at ha
      obtain ⟨r, hr, hrj, hstate⟩ := h.holder ha
      refine ⟨r, ?_, hrj, hstate⟩
      rw [record, if_neg]
      · exact hr
      · rintro rfl
        obtain rfl : q = r := Option.some.inj (hq.symm.trans hr)
        exact hj (hrj.symm.trans hsignal)
  · rw [record] at hr
    split at hr
    · next ha =>
      subst ha
      rw [hq] at hr
      cases hr
      rw [unserved_signal (held_unserved q), hsignal]
      exact takeHolding_holder k a s
    · have hholder := h.holding hr hstate
      rw [takeHolding_ctx_ne i s]
      · exact hholder
      · intro e
        rw [e, hk] at hholder
        cases hholder

/-! ## The choice of a holder (R121, R123) -/

/-- A fold that at each place keeps what it has or picks what it meets ends with one of those. -/
theorem foldl_pick_mem {α : Type} {f : Option α → α → Option α} (hf : ∀ best x, f best x = some x ∨ f best x = best)
    {l : List α} {best : Option α} {y : α} (h : l.foldl f best = some y) : best = some y ∨ y ∈ l := by
  induction l generalizing best with
  | nil => exact .inl h
  | cons x l ih =>
    obtain e | hy := ih h
    · obtain picked | kept := hf best x
      · rw [picked] at e
        exact .inr (List.mem_cons.mpr (.inl (Option.some.inj e).symm))
      · exact .inl (kept.symm.trans e)
    · exact .inr (List.mem_cons_of_mem x hy)

theorem topRanked_mem {l : List (SlotId × RequestRecord)} {x : SlotId × RequestRecord} (h : topRanked l = some x) :
    x ∈ l := by
  unfold topRanked at h
  refine (foldl_pick_mem (fun best y => ?_) h).resolve_left nofun
  cases best with
  | none => exact .inl rfl
  | some z =>
    dsimp only
    split
    · exact .inl rfl
    · exact .inr rfl

theorem candidate_some {k : SignalId} {s : State} {i : SlotId} {r : RequestRecord} (h : candidate k s = some (i, r)) :
    s.record i = some r ∧ eligible k s r = true := by
  obtain ⟨hmem, heligible⟩ := List.mem_filter.mp (topRanked_mem h)
  exact ⟨(s.mem_records (i, r)).mp hmem, heligible⟩

/-- An eligible record is of the signal and within its horizon (R121). -/
theorem eligible_stands {k : SignalId} {s : State} {r : RequestRecord} (h : eligible k s r = true) :
    r.signal = k ∧ remaining s.clock r.arrival ≤ s.horizonUnits k := by
  simp only [eligible, Bool.and_eq_true, beq_iff_eq, decide_eq_true_eq] at h
  tauto

theorem holderOf_eq_some {k : SignalId} {s : State} {i : SlotId} {r : RequestRecord} (h : s.holderOf k = some (i, r)) :
    (s.ctx k).holder = some i ∧ s.record i = some r := by
  unfold State.holderOf at h
  split at h
  · cases h
  · next j hj =>
    obtain ⟨q, hq, e⟩ := Option.map_eq_some_iff.mp h
    cases e
    exact ⟨hj, hq⟩

/-- What the choice of a holder can do: a signal without a holder takes its candidate, if there is one; a holder stays,
or it is not eligible and leaves, or it makes way for the candidate. -/
theorem settleHolder_cases (k : SignalId) (s : State) :
    (s.holderOf k = none ∧ settleHolder k s = takeCandidate k (candidate k s) s) ∨
      ∃ i r, s.holderOf k = some (i, r) ∧
        ((eligible k s r = true ∧ settleHolder k s = s) ∨
          (eligible k s r = false ∧ settleHolder k s = giveUp k s) ∨
          ∃ j q, candidate k s = some (j, q) ∧ j ≠ i ∧ settleHolder k s = takeHolding k j (giveUp k s)) := by
  cases hk : s.holderOf k with
  | none => exact .inl ⟨rfl, by rw [settleHolder, hk]⟩
  | some x =>
    obtain ⟨i, r⟩ := x
    refine .inr ⟨i, r, rfl, ?_⟩
    unfold settleHolder
    dsimp only
    rw [hk]
    dsimp only
    cases he : eligible k s r with
    | true =>
      rw [Bool.not_true, if_neg Bool.false_ne_true]
      cases hc : candidate k s with
      | none => exact .inl ⟨rfl, rfl⟩
      | some y =>
        obtain ⟨j, q⟩ := y
        dsimp only
        split
        · exact .inl ⟨rfl, rfl⟩
        · next hji =>
          split
          · exact .inr (.inr ⟨j, q, rfl, hji, rfl⟩)
          · split
            · exact .inr (.inr ⟨j, q, rfl, hji, rfl⟩)
            · exact .inl ⟨rfl, rfl⟩
    | false =>
      rw [Bool.not_false, if_pos rfl]
      cases hc : candidate k s with
      | none => exact .inr (.inl ⟨rfl, rfl⟩)
      | some y =>
        obtain ⟨j, q⟩ := y
        refine .inr (.inr ⟨j, q, rfl, ?_, rfl⟩)
        rintro rfl
        obtain ⟨hq, hq'⟩ := candidate_some hc
        rw [(holderOf_eq_some hk).2] at hq
        cases hq
        exact Bool.false_ne_true (he.symm.trans hq')

theorem HoldersOk.holderOf_none {s : State} (h : HoldersOk s) {k : SignalId} (hk : s.holderOf k = none) :
    (s.ctx k).holder = none := by
  by_contra hne
  obtain ⟨i, hi⟩ := Option.ne_none_iff_exists'.mp hne
  obtain ⟨r, hr, -⟩ := h.holder hi
  rw [holderOf_some hi hr] at hk
  cases hk

/-- The record that a signal's holder choice leaves in a slot. -/
structure HolderChosen (k : SignalId) (s t : State) (i : SlotId) (r q : RequestRecord) : Prop where
  resettled : Resettled s r q
  placed : (s.ctx k).holder = some i → r.state = .holding → r.horizonEntry = none → PlacedByHorizon s q
  unheld : (s.ctx k).holder ≠ some i → (t.ctx k).holder ≠ some i → q = r

theorem holderChosen_other {k : SignalId} {s t : State} {i : SlotId} (h : (s.ctx k).holder ≠ some i) (r : RequestRecord) :
    HolderChosen k s t i r r :=
  ⟨Resettled.refl s r, fun e => absurd e h, fun _ _ => rfl⟩

/-- An eligible record that holds stands by its horizon. -/
theorem placedByHorizon_holding {k : SignalId} {s : State} {r : RequestRecord} (h : eligible k s r = true)
    (hstate : r.state = .holding) (hentry : r.horizonEntry = none) : PlacedByHorizon s r := by
  obtain ⟨rfl, hnear⟩ := eligible_stands h
  exact ⟨fun far => absurd hnear (Nat.not_le.mpr far), fun _ => ⟨.inr hstate, hentry⟩⟩

theorem holderChosen_released {k : SignalId} {s t : State} {i : SlotId} {r : RequestRecord} (hk : (s.ctx k).holder = some i)
    (hsignal : r.signal = k) : HolderChosen k s t i r (r.released s.clock (s.horizonUnits k)) where
  resettled := resettled_released hsignal
  placed _ hstate _ := by
    rw [released_of_checkIn (hstate ▸ nofun)]
    exact placedByHorizon_byHorizon hsignal
  unheld h := absurd hk h

theorem holderChosen_held {k : SignalId} {s t : State} {i : SlotId} {r : RequestRecord} (h : eligible k s r = true)
    (hs : (s.ctx k).holder ≠ some i) (ht : (t.ctx k).holder = some i) : HolderChosen k s t i r r.held where
  resettled := by
    obtain ⟨rfl, hnear⟩ := eligible_stands h
    exact resettled_held hnear
  placed e := absurd e hs
  unheld _ e := absurd ht e

/-- What the choice of a holder makes of the records (R63, R123, R124). -/
theorem settleHolder_record {k : SignalId} {s : State} (hs : HoldersOk s) {i : SlotId} {r : RequestRecord}
    (hr : s.record i = some r) :
    ∃ q, (settleHolder k s).record i = some q ∧ HolderChosen k s (settleHolder k s) i r q := by
  obtain ⟨hk, e⟩ | ⟨a, x, hk, outcome⟩ := settleHolder_cases k s
  · have unheld : (s.ctx k).holder ≠ some i := by rw [hs.holderOf_none hk]; nofun
    rw [e]
    cases hc : candidate k s with
    | none => exact ⟨r, hr, holderChosen_other unheld r⟩
    | some c =>
      obtain ⟨hcr, heligible⟩ := candidate_some hc
      rw [takeCandidate, takeHolding_record]
      by_cases hi : i = c.1
      · subst hi
        obtain rfl : r = c.2 := Option.some.inj (hr.symm.trans hcr)
        rw [if_pos rfl, hr]
        exact ⟨_, rfl, holderChosen_held heligible unheld (takeHolding_holder k c.1 s)⟩
      · rw [if_neg hi]
        exact ⟨r, hr, holderChosen_other unheld r⟩
  · obtain ⟨ha, hx⟩ := holderOf_eq_some hk
    have released : ∀ t, i = a → ∃ q, (s.record i).map (fun r => r.released s.clock (s.horizonUnits k)) = some q ∧
        HolderChosen k s t i r q := by
      rintro t rfl
      rw [hr]
      exact ⟨_, rfl, holderChosen_released ha (hs.holder_signal ha hr)⟩
    have unheld : i ≠ a → (s.ctx k).holder ≠ some i := fun hi e => hi (Option.some.inj (e.symm.trans ha))
    obtain ⟨heligible, e⟩ | ⟨-, e⟩ | ⟨j, y, hc, hja, e⟩ := outcome <;> rw [e]
    · refine ⟨r, hr, Resettled.refl s r, fun hi => ?_, fun _ _ => rfl⟩
      obtain rfl : a = i := Option.some.inj (ha.symm.trans hi)
      obtain rfl : x = r := Option.some.inj (hx.symm.trans hr)
      exact placedByHorizon_holding heligible
    · rw [giveUp_record ha]
      by_cases hi : i = a
      · rw [if_pos hi]
        exact released _ hi
      · rw [if_neg hi]
        exact ⟨r, hr, holderChosen_other (unheld hi) r⟩
    · obtain ⟨hy, heligible⟩ := candidate_some hc
      rw [takeHolding_record, giveUp_record ha]
      by_cases hij : i = j
      · subst hij
        obtain rfl : r = y := Option.some.inj (hr.symm.trans hy)
        rw [if_pos rfl, if_neg hja, hr]
        exact ⟨_, rfl, holderChosen_held heligible (unheld hja) (takeHolding_holder k i _)⟩
      · rw [if_neg hij]
        by_cases hi : i = a
        · rw [if_pos hi]
          exact released _ hi
        · rw [if_neg hi]
          exact ⟨r, hr, holderChosen_other (unheld hi) r⟩

theorem holdersOk_settleHolder {s : State} (h : HoldersOk s) (k : SignalId) : HoldersOk (settleHolder k s) := by
  obtain ⟨hk, e⟩ | ⟨a, x, hk, outcome⟩ := settleHolder_cases k s
  · rw [e]
    cases hc : candidate k s with
    | none => exact h
    | some c =>
      obtain ⟨hcr, heligible⟩ := candidate_some hc
      exact holdersOk_takeHolding h (h.holderOf_none hk) hcr (eligible_stands heligible).1
  · obtain ⟨ha, -⟩ := holderOf_eq_some hk
    obtain ⟨-, e⟩ | ⟨-, e⟩ | ⟨j, y, hc, hja, e⟩ := outcome <;> rw [e]
    · exact h
    · exact holdersOk_giveUp h ha
    · obtain ⟨hy, heligible⟩ := candidate_some hc
      refine holdersOk_takeHolding (holdersOk_giveUp h ha) (giveUp_holder k s).1 ?_ (eligible_stands heligible).1
      rw [giveUp_record ha, if_neg hja]
      exact hy

/-! ## The outcome (R126 to R138) -/

/-- A change of a signal's outcome, call and counts: no holder changes, and of the records only the accounts of the
signal's holder. -/
structure Accounts (k : SignalId) (s t : State) : Prop where
  holder : ∀ j, (t.ctx j).holder = (s.ctx j).holder
  record : ∀ i r, s.record i = some r → ∃ q, t.record i = some q ∧ q.unserved = r.unserved ∧ q.lapsed = r.lapsed ∧
    q.state = r.state ∧ q.horizonEntry = r.horizonEntry ∧ ((s.ctx k).holder ≠ some i → q = r)

theorem Accounts.refl (k : SignalId) (s : State) : Accounts k s s :=
  ⟨fun _ => rfl, fun _ r hr => ⟨r, hr, rfl, rfl, rfl, rfl, fun _ => rfl⟩⟩

theorem Accounts.trans {k : SignalId} {s t u : State} (h : Accounts k s t) (g : Accounts k t u) : Accounts k s u where
  holder j := (g.holder j).trans (h.holder j)
  record i r hr := by
    obtain ⟨q, hq, unserved, lapsed, state, entry, other⟩ := h.record i r hr
    obtain ⟨x, hx, unserved', lapsed', state', entry', other'⟩ := g.record i q hq
    refine ⟨x, hx, unserved'.trans unserved, lapsed'.trans lapsed, state'.trans state, entry'.trans entry, fun hk => ?_⟩
    rw [other' (by rw [h.holder]; exact hk), other hk]

theorem accounts_generateCancel (k : SignalId) (s : State) : Accounts k s (generateCancel k s) where
  holder j := by
    by_cases e : j = k
    · rw [e, generateCancel_holder]
    · rw [(serves_generateCancel k s).ctxOther j e]
  record i r hr := ⟨r, (generateCancel_record k s i).trans hr, rfl, rfl, rfl, rfl, fun _ => rfl⟩

/-- A change to the accounts of the holder's record. -/
theorem accounts_modRecord {k : SignalId} {s : State} {i : SlotId} (hk : (s.ctx k).holder = some i)
    {f : RequestRecord → RequestRecord} (hf : ∀ r, (f r).unserved = r.unserved ∧ (f r).lapsed = r.lapsed ∧
      (f r).state = r.state ∧ (f r).horizonEntry = r.horizonEntry) : Accounts k s (s.modRecord i f) where
  holder _ := rfl
  record j r hr := by
    rw [State.record_modRecord]
    by_cases e : j = i
    · subst e
      obtain ⟨unserved, lapsed, state, entry⟩ := hf r
      rw [if_pos rfl, hr]
      exact ⟨f r, rfl, unserved, lapsed, state, entry, fun h => absurd hk h⟩
    · rw [if_neg e]
      exact ⟨r, hr, rfl, rfl, rfl, rfl, fun _ => rfl⟩

theorem accounts_placeCall (k : SignalId) (c : CallContent) (s : State) : Accounts k s (placeCall k c s) where
  holder j := by rw [placeCall_ctx]
  record i r hr := ⟨r, (placeCall_record k c s i).trans hr, rfl, rfl, rfl, rfl, fun _ => rfl⟩

theorem accounts_setCtx {k : SignalId} {c : SignalContext} {s : State} (h : c.holder = (s.ctx k).holder) :
    Accounts k s (s.setCtx k c) where
  holder j := by
    by_cases e : j = k
    · rw [e, State.ctx_setCtx_self, h]
    · rw [State.ctx_setCtx_ne s c e]
  record i r hr := ⟨r, hr, rfl, rfl, rfl, rfl, fun _ => rfl⟩

theorem accounts_generateCall {k : SignalId} {s : State} {i : SlotId} (hk : (s.ctx k).holder = some i) (r : RequestRecord)
    (action : CallAction) (amount : Nat) (pf : Bool) : Accounts k s (generateCall k i r action amount pf s) := by
  unfold generateCall
  refine Accounts.trans (Accounts.trans (accounts_setCtx ?_) (accounts_modRecord ?_ ?_)) (accounts_placeCall k _ _)
  · rfl
  · rw [State.ctx_setCtx_self]
    exact hk
  · exact fun q => ⟨rfl, rfl, rfl, rfl⟩

theorem accounts_serveHolder (k : SignalId) (s : State) : Accounts k s (serveHolder k s) := by
  unfold serveHolder
  split
  · exact Accounts.refl k s
  · next i r hk =>
    obtain ⟨hholder, -⟩ := holderOf_eq_some hk
    split
    · exact Accounts.refl k s
    · next o _ =>
      have recorded : Accounts k s (recordOutcome i o s) := accounts_modRecord hholder fun q => ⟨rfl, rfl, rfl, rfl⟩
      have hholder' := (recorded.holder k).trans hholder
      refine recorded.trans ?_
      unfold actOnOutcome
      split
      · exact accounts_generateCancel k _
      · split
        · exact Accounts.refl k _
        · exact accounts_generateCall hholder' r _ _ _

/-! ## An evaluation (R120) -/

/-- From s to t signals have evaluated: the holders are records of their signals in state HOLDING or PROJECTED as before,
and every record has stayed where it stood or has been placed by its horizon. -/
structure Settled (s t : State) : Prop extends Evaluated s t where
  holders : HoldersOk s → HoldersOk t
  resettled : HoldersOk s → ∀ i r, s.record i = some r → ∃ q, t.record i = some q ∧ Resettled s r q

theorem Settled.refl (s : State) : Settled s s :=
  ⟨Evaluated.refl s, id, fun _ _ r hr => ⟨r, hr, Resettled.refl s r⟩⟩

theorem Settled.trans {s t u : State} (h : Settled s t) (g : Settled t u) : Settled s u where
  toEvaluated := h.toEvaluated.trans g.toEvaluated
  holders hs := g.holders (h.holders hs)
  resettled hs i r hr := by
    obtain ⟨q, hq, hrq⟩ := h.resettled hs i r hr
    obtain ⟨x, hx, hqx⟩ := g.resettled (h.holders hs) i q hq
    exact ⟨x, hx, hrq.trans hqx h.sameHorizons⟩

/-- An evaluation as the choice of a holder and the accounts of its outcome. -/
theorem evaluate_record {k : SignalId} {s : State} (hs : HoldersOk s) {i : SlotId} {r : RequestRecord}
    (hr : s.record i = some r) : ∃ q, (evaluate k s).record i = some q ∧ HolderChosen k s (evaluate k s) i r q := by
  obtain ⟨q, hq, chosen⟩ := settleHolder_record (k := k) hs hr
  have accounts := accounts_serveHolder k (settleHolder k s)
  obtain ⟨x, hx, unserved, lapsed, state, entry, other⟩ := accounts.record i q hq
  have same : Resettled s q x := ⟨unserved, lapsed, .inl ⟨state, entry⟩⟩
  refine ⟨x, hx, chosen.resettled.trans same ⟨rfl, fun _ => rfl⟩, fun hk hstate hentry => ?_, fun before after => ?_⟩
  · exact same.placed (chosen.placed hk hstate hentry)
  · have after' : ((settleHolder k s).ctx k).holder ≠ some i := accounts.holder k ▸ after
    rw [other after', chosen.unheld before after']

theorem holdersOk_evaluate {s : State} (h : HoldersOk s) (k : SignalId) : HoldersOk (evaluate k s) := by
  have settled := holdersOk_settleHolder h k
  have accounts := accounts_serveHolder k (settleHolder k s)
  refine settled.congr accounts.holder fun i => ?_
  cases hr : (settleHolder k s).record i with
  | none =>
    have free := (serves_serveHolder k (settleHolder k s)).record_isSome i
    rw [hr, Option.isSome_none, Option.isSome_eq_false_iff, Option.isNone_iff_eq_none] at free
    exact congrArg _ free
  | some r =>
    obtain ⟨q, hq, unserved, -, state, -⟩ := accounts.record i r hr
    have standing : q.standing = r.standing := by
      rw [RequestRecord.standing, unserved_signal unserved, state, RequestRecord.standing]
    show ((serveHolder k (settleHolder k s)).record i).map _ = _
    rw [hq, Option.map_some, standing]
    rfl

theorem settled_evaluate (k : SignalId) (s : State) : Settled s (evaluate k s) where
  toEvaluated := (serves_evaluate k s).evaluated
  holders h := holdersOk_evaluate h k
  resettled hs i r hr := by
    obtain ⟨q, hq, chosen⟩ := evaluate_record (k := k) hs hr
    exact ⟨q, hq, chosen.resettled⟩

/-- An evaluation of another signal leaves a record as it is. -/
theorem evaluate_record_other {k : SignalId} {s : State} (hs : HoldersOk s) {i : SlotId} {r : RequestRecord}
    (hr : s.record i = some r) (h : r.signal ≠ k) : (evaluate k s).record i = some r := by
  obtain ⟨q, hq, chosen⟩ := evaluate_record (k := k) hs hr
  have before : (s.ctx k).holder ≠ some i := fun e => h (hs.holder_signal e hr)
  have after : ((evaluate k s).ctx k).holder ≠ some i := fun e =>
    h ((unserved_signal chosen.resettled.unserved).symm.trans ((holdersOk_evaluate hs k).holder_signal e hq))
  rw [hq, chosen.unheld before after]

/-! ## The evaluations of several signals (R37) -/

theorem settled_evaluateAll (l : List SignalId) (s : State) : Settled s (evaluateAll l s) := by
  induction l generalizing s with
  | nil => exact Settled.refl s
  | cons k l ih => exact (settled_evaluate k s).trans (ih _)

theorem evaluateAll_ctx_other {l : List SignalId} {k : SignalId} (h : k ∉ l) (s : State) :
    (evaluateAll l s).ctx k = s.ctx k := by
  induction l generalizing s with
  | nil => rfl
  | cons j l ih =>
    rw [List.mem_cons, not_or] at h
    exact (ih h.2 (evaluate j s)).trans ((serves_evaluate j s).ctxOther k h.1)

theorem evaluateAll_record_other {l : List SignalId} {s : State} (hs : HoldersOk s) {i : SlotId} {r : RequestRecord}
    (hr : s.record i = some r) (h : r.signal ∉ l) : (evaluateAll l s).record i = some r := by
  induction l generalizing s with
  | nil => exact hr
  | cons k l ih =>
    rw [List.mem_cons, not_or] at h
    exact ih (holdersOk_evaluate hs k) (evaluate_record_other hs hr h.1) h.2

/-- A HOLDING record stands by its horizon once its signal has evaluated: within it, or placed beyond it as it gives up
holding. -/
theorem evaluateAll_places {l : List SignalId} {s : State} (hs : HoldersOk s) {i : SlotId} {r : RequestRecord}
    (hr : s.record i = some r) (hstate : r.state = .holding) (hentry : r.horizonEntry = none) (h : r.signal ∈ l) :
    ∃ q, (evaluateAll l s).record i = some q ∧ PlacedByHorizon s q := by
  induction l generalizing s with
  | nil => exact absurd h List.not_mem_nil
  | cons k l ih =>
    have settled := settled_evaluate k s
    have hs' := holdersOk_evaluate hs k
    by_cases hk : r.signal = k
    · obtain ⟨q, hq, chosen⟩ := evaluate_record (k := k) hs hr
      obtain ⟨x, hx, hqx⟩ := (settled_evaluateAll l (evaluate k s)).resettled hs' i q hq
      have placed := chosen.placed (hk ▸ hs.holding hr hstate) hstate hentry
      exact ⟨x, hx, (hqx.placed (placed.congr settled.sameHorizons)).congr settled.sameHorizons.symm⟩
    · obtain ⟨q, hq, placed⟩ := ih hs' (evaluate_record_other hs hr hk) ((List.mem_cons.mp h).resolve_left hk)
      exact ⟨q, hq, placed.congr settled.sameHorizons.symm⟩

/-- A record that is not its signal's holder before the evaluations nor after them is left as it is. -/
theorem evaluateAll_unheld {l : List SignalId} (hl : l.Nodup) {s : State} (hs : HoldersOk s) {i : SlotId}
    {r : RequestRecord} (hr : s.record i = some r) (before : (s.ctx r.signal).holder ≠ some i)
    (after : ((evaluateAll l s).ctx r.signal).holder ≠ some i) : (evaluateAll l s).record i = some r := by
  induction l generalizing s with
  | nil => exact hr
  | cons k l ih =>
    obtain ⟨hkl, hl⟩ := List.nodup_cons.mp hl
    have hs' := holdersOk_evaluate hs k
    by_cases hk : r.signal = k
    · subst hk
      have rest : (evaluateAll (r.signal :: l) s).ctx r.signal = (evaluate r.signal s).ctx r.signal :=
        evaluateAll_ctx_other hkl (evaluate r.signal s)
      rw [rest] at after
      obtain ⟨q, hq, chosen⟩ := evaluate_record (k := r.signal) hs hr
      obtain rfl := chosen.unheld before after
      exact evaluateAll_record_other hs' hq hkl
    · have hr' := evaluate_record_other hs hr hk
      refine ih hl hs' hr' ?_ after
      rw [(serves_evaluate k s).ctxOther r.signal hk]
      exact before

theorem settled_evaluateTouched (l : List SignalId) (s : State) : Settled s (evaluateTouched l s) where
  toEvaluated := evaluated_evaluateTouched l s
  holders h := ((settled_evaluateAll (touchedSignals l) s).holders h).congr
    (fun k => by rw [evaluateTouched_ctx]) fun i => by rw [evaluateTouched_record]
  resettled h i r hr := by
    rw [evaluateTouched_record]
    exact (settled_evaluateAll _ s).resettled h i r hr

end Sys2Proof.Machine
end

section
/-! The update a report makes to the open records of its bus (R34, R48, R49, R61, R69 to R71), record by record. -/

namespace Sys2Proof.Machine

/-! ## Records changed one after another -/

theorem foldl_setRecord_notMem (g : SlotId × RequestRecord → RequestRecord) {l : List (SlotId × RequestRecord)} (s : State)
    {i : SlotId} (h : i ∉ l.map Prod.fst) :
    (l.foldl (fun u x => u.setRecord x.1 (some (g x))) s).record i = s.record i := by
  induction l generalizing s with
  | nil => rfl
  | cons x l ih =>
    rw [List.map_cons, List.mem_cons, not_or] at h
    exact (ih _ h.2).trans (s.record_setRecord_ne _ h.1)

theorem foldl_setRecord_mem (g : SlotId × RequestRecord → RequestRecord) {l : List (SlotId × RequestRecord)}
    (hl : (l.map Prod.fst).Nodup) (s : State) {x : SlotId × RequestRecord} (h : x ∈ l) :
    (l.foldl (fun u x => u.setRecord x.1 (some (g x))) s).record x.1 = some (g x) := by
  induction l generalizing s with
  | nil => exact absurd h List.not_mem_nil
  | cons y l ih =>
    obtain ⟨hy, hl⟩ := List.nodup_cons.mp hl
    obtain rfl | hx := List.mem_cons.mp h
    · exact (foldl_setRecord_notMem g _ hy).trans (s.record_setRecord_self _ _)
    · exact ih hl _ hx

/-- Changing the records that meet a condition changes each slot's record when it meets it. -/
theorem foldl_records_record (p : SlotId × RequestRecord → Bool) (g : SlotId × RequestRecord → RequestRecord) (s : State)
    (i : SlotId) :
    ((s.records.filter p).foldl (fun u x => u.setRecord x.1 (some (g x))) s).record i =
      (s.record i).map fun r => if p (i, r) then g (i, r) else r := by
  obtain ⟨listed, nodup⟩ := listed_filter s p
  by_cases hi : i ∈ (s.records.filter p).map Prod.fst
  · obtain ⟨r, hr, hp⟩ := mem_slots_filter.mp hi
    rw [hr, Option.map_some, if_pos hp]
    exact foldl_setRecord_mem g nodup s (List.mem_filter.mpr ⟨(s.mem_records (i, r)).mpr hr, hp⟩)
  · rw [foldl_setRecord_notMem g s hi]
    cases hr : s.record i with
    | none => rfl
    | some r => rw [Option.map_some, if_neg fun hp => hi (mem_slots_filter.mpr ⟨r, hr, hp⟩)]

/-- A change that does not depend on the changes before it. -/
theorem foldl_setRecord_frame {I : State → Prop} {f : State → SlotId × RequestRecord → RequestRecord}
    {l : List (SlotId × RequestRecord)} {s u : State} (hu : I u) (hf : ∀ v x, I v → f v x = f s x)
    (hI : ∀ v, ∀ x ∈ l, I v → I (v.setRecord x.1 (some (f s x)))) :
    l.foldl (fun v x => v.setRecord x.1 (some (f v x))) u = l.foldl (fun v x => v.setRecord x.1 (some (f s x))) u := by
  induction l generalizing u with
  | nil => rfl
  | cons x l ih =>
    rw [List.foldl_cons, List.foldl_cons, hf u x hu]
    exact ih (hI u x List.mem_cons_self hu) fun v y hy => hI v y (List.mem_cons_of_mem x hy)

/-- Only records have changed from s to t. -/
def OnlyRecords (s t : State) : Prop := ∃ v, t = { s with slots := v }

theorem OnlyRecords.refl (s : State) : OnlyRecords s s := ⟨s.slots, rfl⟩

theorem OnlyRecords.setRecord {s t : State} (h : OnlyRecords s t) (i : SlotId) (r : Option RequestRecord) :
    OnlyRecords s (t.setRecord i r) := by
  obtain ⟨v, rfl⟩ := h
  exact ⟨v.set i r, rfl⟩

theorem OnlyRecords.trans {s t u : State} (h : OnlyRecords s t) (g : OnlyRecords t u) : OnlyRecords s u := by
  obtain ⟨v, rfl⟩ := h
  obtain ⟨w, rfl⟩ := g
  exact ⟨w, rfl⟩

theorem OnlyRecords.keeps {s t : State} (h : OnlyRecords s t) : SameConfig s t := by
  obtain ⟨v, rfl⟩ := h
  constructor <;> rfl

theorem OnlyRecords.ctx {s t : State} (h : OnlyRecords s t) (k : SignalId) : t.ctx k = s.ctx k := by
  obtain ⟨v, rfl⟩ := h
  rfl

theorem OnlyRecords.reports {s t : State} (h : OnlyRecords s t) : t.reports = s.reports := by
  obtain ⟨v, rfl⟩ := h
  rfl

theorem OnlyRecords.sameHorizons {s t : State} (h : OnlyRecords s t) : SameHorizons s t :=
  sameHorizons_of h.keeps fun k => by rw [h.ctx]

theorem onlyRecords_foldl (f : State → SlotId × RequestRecord → Option RequestRecord)
    (l : List (SlotId × RequestRecord)) (s : State) :
    OnlyRecords s (l.foldl (fun u x => u.setRecord x.1 (f u x)) s) := by
  induction l generalizing s with
  | nil => exact OnlyRecords.refl s
  | cons x l ih => exact ((OnlyRecords.refl s).setRecord x.1 _).trans (ih _)

/-! ## Records found by bus and signal (R55) -/

/-- The bus and the signal of a record. -/
def RequestRecord.key (r : RequestRecord) : Half × SignalId := (r.bus, r.signal)

theorem findRecord_slot (s : State) (bus : Half) (k : SignalId) :
    (s.findRecord bus k).map Prod.fst = allSlots.find? fun i => ((s.record i).map RequestRecord.key) == some (bus, k) := by
  rw [State.findRecord, State.records]
  generalize allSlots = l
  induction l with
  | nil => rfl
  | cons i l ih =>
    rw [List.filterMap_cons, List.find?_cons]
    cases hr : s.record i with
    | none => exact ih
    | some r =>
      rw [Option.map_some, Option.map_some, List.find?_cons]
      by_cases hkey : r.bus = bus ∧ r.signal = k
      · simp [RequestRecord.key, hkey]
      · have bus_k : ((r.bus == bus) && (r.signal == k)) = false := by simpa using hkey
        have key : (some r.key == some (bus, k)) = false := by simpa [RequestRecord.key] using hkey
        rw [bus_k, key]
        exact ih

theorem findRecord_slot_congr {s t : State} (h : ∀ i, (t.record i).map RequestRecord.key = (s.record i).map RequestRecord.key)
    (bus : Half) (k : SignalId) : (t.findRecord bus k).map Prod.fst = (s.findRecord bus k).map Prod.fst := by
  simp only [findRecord_slot, h]

theorem uniqueRecords_iff (s : State) :
    UniqueRecords s ↔
      ∀ i j r q, s.record i = some r → s.record j = some q → r.key = q.key → i = j := by
  constructor
  · intro h i j r q hr hq hkey
    obtain ⟨hbus, hsignal⟩ := Prod.mk.inj hkey
    exact h (i, r) ((s.mem_records (i, r)).mpr hr) (j, q) ((s.mem_records (j, q)).mpr hq) hbus hsignal
  · intro h x hx y hy hbus hsignal
    exact h x.1 y.1 x.2 y.2 ((s.mem_records x).mp hx) ((s.mem_records y).mp hy) (Prod.ext hbus hsignal)

/-- Different buses or signals stay so while no slot gets the bus and the signal of a record that it did not hold. -/
theorem UniqueRecords.of_sub {s t : State} (h : UniqueRecords s)
    (hsub : ∀ i q, t.record i = some q → ∃ r, s.record i = some r ∧ r.key = q.key) : UniqueRecords t := by
  refine (uniqueRecords_iff t).mpr fun i j r q hr hq hkey => ?_
  obtain ⟨r', hr', rkey⟩ := hsub i r hr
  obtain ⟨q', hq', qkey⟩ := hsub j q hq
  exact (uniqueRecords_iff s).mp h i j r' q' hr' hq' (rkey.trans (hkey.trans qkey.symm))

theorem UniqueRecords.congr {s t : State} (h : UniqueRecords s)
    (hkey : ∀ i, (t.record i).map RequestRecord.key = (s.record i).map RequestRecord.key) : UniqueRecords t := by
  refine h.of_sub fun i q hq => ?_
  have e := (hkey i).symm
  rw [hq, Option.map_some, Option.map_eq_some_iff] at e
  exact e

theorem findRecord_unique {s : State} (hs : UniqueRecords s) {i : SlotId} {r : RequestRecord} (hr : s.record i = some r) :
    s.findRecord r.bus r.signal = some (i, r) := by
  cases h : s.findRecord r.bus r.signal with
  | none => exact absurd rfl (State.findRecord_none.mp h i r hr rfl)
  | some x =>
    obtain ⟨hx, hbus, hsignal⟩ := State.findRecord_some h
    have slot : x.1 = i := (uniqueRecords_iff s).mp hs x.1 i x.2 r hx hr (Prod.ext hbus hsignal)
    rw [slot, hr] at hx
    cases hx
    rw [← slot]

/-! ## The record behind a PROJECTED one (R48) -/

/-- What a re-estimation reads of a record: its bus and signal, and for one of origin CHECK_IN its direction and
arrival. -/
def RequestRecord.chainView (r : RequestRecord) : (Half × SignalId) × Option (Direction × Time) :=
  (r.key, if r.state = .projected then none else some (r.direction, r.arrival))

theorem chainView_of_projected {r : RequestRecord} (h : r.state = .projected) : r.chainView = (r.key, none) := by
  rw [RequestRecord.chainView, if_pos h]

/-- From s to t nothing has changed that a re-estimation reads of the records. -/
def SameChains (s t : State) : Prop :=
  ∀ i, (t.record i).map RequestRecord.chainView = (s.record i).map RequestRecord.chainView

theorem SameChains.refl (s : State) : SameChains s s := fun _ => rfl

theorem SameChains.trans {s t u : State} (h : SameChains s t) (g : SameChains t u) : SameChains s u :=
  fun i => (g i).trans (h i)

theorem SameChains.key {s t : State} (h : SameChains s t) (i : SlotId) :
    (t.record i).map RequestRecord.key = (s.record i).map RequestRecord.key := by
  have e := congrArg (Option.map Prod.fst) (h i)
  rw [Option.map_map, Option.map_map] at e
  exact e

/-- The record of a bus at a signal, when it is of origin CHECK_IN and of a direction. -/
def checkInAt (s : State) (bus : Half) (k : SignalId) (d : Direction) : Option RequestRecord :=
  match s.findRecord bus k with
  | none => none
  | some (_, q) => if q.state ≠ .projected ∧ q.direction = d then some q else none

theorem checkInAt_congr {s t : State} (h : SameChains s t) (bus : Half) (k : SignalId) (d : Direction) :
    (checkInAt t bus k d).map RequestRecord.arrival = (checkInAt s bus k d).map RequestRecord.arrival := by
  have slot := findRecord_slot_congr h.key bus k
  unfold checkInAt
  cases hs : s.findRecord bus k with
  | none =>
    rw [hs, Option.map_none, Option.map_eq_none_iff] at slot
    rw [slot]
  | some x =>
    rw [hs, Option.map_some, Option.map_eq_some_iff] at slot
    obtain ⟨y, hy, hxy⟩ := slot
    have view := h x.1
    rw [(State.findRecord_some hs).1, ← hxy, (State.findRecord_some hy).1, Option.map_some, Option.map_some,
      Option.some.injEq, RequestRecord.chainView, RequestRecord.chainView] at view
    rw [hy]
    dsimp only
    by_cases hx : x.2.state = .projected <;> by_cases hy : y.2.state = .projected
    · rw [if_neg fun h => h.1 hy, if_neg fun h => h.1 hx]
    · simp [hx, hy] at view
    · simp [hx, hy] at view
    · simp only [if_neg hy, if_neg hx, Option.some.injEq, Prod.mk.injEq] at view
      obtain ⟨-, direction, arrival⟩ := view
      by_cases hd : x.2.direction = d
      · rw [if_pos ⟨hy, direction.trans hd⟩, if_pos ⟨hx, hd⟩]
        exact congrArg some arrival
      · rw [if_neg fun h => hd (direction.symm.trans h.2), if_neg fun h => hd h.2]

theorem precedingRecord_eq (r : RequestRecord) (s : State) :
    precedingRecord r s =
      ((r.cursor.bind (precedingSegment s.tables r.routeIndex)).bind fun g => s.tables.segment[g].target).bind fun x =>
        checkInAt s r.bus x.1 x.2 := by
  unfold precedingRecord
  cases r.cursor.bind (precedingSegment s.tables r.routeIndex) with
  | none => rfl
  | some g =>
    dsimp only [Option.bind_some]
    cases s.tables.segment[g].target with
    | none => rfl
    | some x => rfl

theorem precedingRecord_congr {s t : State} (htables : t.tables = s.tables) (h : SameChains s t) (r : RequestRecord) :
    (precedingRecord r t).map RequestRecord.arrival = (precedingRecord r s).map RequestRecord.arrival := by
  rw [precedingRecord_eq, precedingRecord_eq, htables]
  simp only [Option.map_bind]
  refine congrArg _ (funext fun x => ?_)
  exact checkInAt_congr h _ _ _

theorem target_eq_some_iff {g : SegmentEntry} {k : SignalId} {d : Direction} :
    g.target = some (k, d) ↔ g.signal.toNat = k.val ∧ directionOf g.direction = some d := by
  unfold SegmentEntry.target
  split
  · next k' d' hk hd =>
    have := indexBelow_some hk
    rw [hd, Option.some.injEq, Prod.mk.injEq, Option.some.injEq, Fin.ext_iff, this]
  · next h =>
    refine ⟨nofun, fun ⟨hk, hd⟩ => absurd hd (h k d ?_)⟩
    rw [hk]
    exact indexBelow_lt k.isLt

theorem checkInAt_eq_some {s : State} {bus : Half} {k : SignalId} {d : Direction} {q : RequestRecord}
    (h : checkInAt s bus k d = some q) :
    ∃ j, s.record j = some q ∧ q.bus = bus ∧ q.signal = k ∧ q.state ≠ .projected ∧ q.direction = d := by
  unfold checkInAt at h
  split at h
  · cases h
  · next j x hx =>
    split at h
    · next hp =>
      cases h
      obtain ⟨hrecord, hbus, hsignal⟩ := State.findRecord_some hx
      exact ⟨j, hrecord, hbus, hsignal, hp⟩
    · cases h

/-- The record that a re-estimation finds stands behind the projected one. -/
theorem precedes_of_precedingRecord {s : State} {x q : RequestRecord} (h : precedingRecord x s = some q) :
    Precedes s x q := by
  rw [precedingRecord_eq, Option.bind_eq_some_iff] at h
  obtain ⟨⟨k, d⟩, hsegment, h⟩ := h
  obtain ⟨g, hbehind, htarget⟩ := Option.bind_eq_some_iff.mp hsegment
  obtain ⟨c, hc, hg⟩ := Option.bind_eq_some_iff.mp hbehind
  obtain ⟨j, hq, hbus, rfl, hp, rfl⟩ := checkInAt_eq_some h
  obtain ⟨hsignal, hdirection⟩ := target_eq_some_iff.mp htarget
  exact ⟨c, g, j, hc, hg, hq, hbus, hp, hsignal, hdirection⟩

/-- The record that stands behind a projected one is the one a re-estimation finds, among different buses and signals. -/
theorem precedingRecord_of_precedes {s : State} (hs : UniqueRecords s) {x q : RequestRecord} (h : Precedes s x q) :
    precedingRecord x s = some q := by
  obtain ⟨c, g, j, hc, hg, hq, hbus, hp, hsignal, hdirection⟩ := h
  rw [precedingRecord_eq, hc, Option.bind_some, hg, Option.bind_some, target_eq_some_iff.mpr ⟨hsignal, hdirection⟩,
    Option.bind_some, checkInAt, ← hbus, findRecord_unique hs hq]
  exact if_pos ⟨hp, rfl⟩

/-! ## A record refreshed (R61, R70, R71) -/

/-- A record with a report's values and its flag changes (R70, R71). -/
def RequestRecord.valued (r : RequestRecord) (t : TakenReport) : RequestRecord :=
  { r with
    position := t.position, speed := t.speed, latenessSec := t.latenessSec, occupancy := t.occupancy
    doorsOpen := t.doorsOpen
    stopPending := r.stopPending && !t.doorsOpen }

theorem withDoors_eq (r : RequestRecord) (doors : Bool) :
    r.withDoors doors = { r with doorsOpen := doors, stopPending := r.stopPending && !doors } := by
  cases doors <;> simp [RequestRecord.withDoors]

/-- A record of origin CHECK_IN as a report leaves it, but for where it stands: the report's values, and the arrival time,
the score and the age expiry time from them (R57, R70, R82, R90). -/
def RequestRecord.reported (r : RequestRecord) (t : TakenReport) (s : State) : RequestRecord :=
  { r.valued t with
    arrival := arrivalTime s (r.valued t)
    score := baseScore s.tables.global s.tables.route[r.routeIndex] t.latenessSec t.occupancy
    ageExpiry := later s.clock (10 * s.tables.global.holdTime.toNat) }

theorem withReport_eq {r : RequestRecord} (h : r.state ≠ .projected) (t : TakenReport) (s : State) :
    r.withReport t s = r.reported t s := by
  simp only [RequestRecord.withReport, withDoors_eq, recordScore, if_neg h]
  rfl

theorem reported_congr {s u : State} (h : SameConfig s u) (r : RequestRecord) (t : TakenReport) :
    r.reported t u = r.reported t s := by
  simp only [RequestRecord.reported, arrivalTime, State.signalEntry, h.tables, h.clock]

/-- What a report makes of a record does not depend on its fields of service. -/
theorem reported_unserved {r q : RequestRecord} (h : q.unserved = r.unserved) (t : TakenReport) (s : State) :
    (q.reported t s).unserved = (r.reported t s).unserved := by
  have e := congrArg (fun x => (x.reported t s).unserved) h
  exact e

/-- A report taken twice is taken once. -/
theorem reported_reported (r : RequestRecord) (t : TakenReport) (s : State) :
    (r.reported t s).reported t s = r.reported t s := by
  have doors : (r.stopPending && !t.doorsOpen && !t.doorsOpen) = (r.stopPending && !t.doorsOpen) := by
    rw [Bool.and_assoc, Bool.and_self]
  have valued : (r.reported t s).valued t = r.reported t s := by
    simp only [RequestRecord.reported, RequestRecord.valued, doors]
  have arrival : arrivalTime s (r.reported t s) = arrivalTime s (r.valued t) := rfl
  rw [RequestRecord.reported, valued, arrival]
  rfl

theorem reexamined_unserved (r : RequestRecord) (now : Time) (horizon : Nat) :
    (r.reexamined now horizon).unserved = r.unserved := by
  unfold RequestRecord.reexamined
  split
  · exact byHorizon_unserved r now horizon
  · exact byHorizon_unserved r now horizon
  · rfl
  · rfl

/-- The values of a record that an evaluation writes for its holder: its outcome and what is committed and called for it
(R135, R136, R143). -/
def RequestRecord.account (r : RequestRecord) : Option ServiceOutcome × Bool × Nat × Nat × Option (CallAction × Nat) :=
  (r.lastOutcome, r.partialFlag, r.committed, r.refreshCount, r.lastCall)

theorem byHorizon_account (r : RequestRecord) (now : Time) (horizon : Nat) :
    (r.byHorizon now horizon).account = r.account := by
  unfold RequestRecord.byHorizon
  split <;> rfl

theorem reexamined_rest (r : RequestRecord) (now : Time) (horizon : Nat) :
    (r.reexamined now horizon).lapsed = r.lapsed ∧ (r.reexamined now horizon).account = r.account := by
  unfold RequestRecord.reexamined
  split
  · exact ⟨byHorizon_lapsed r now horizon, byHorizon_account r now horizon⟩
  · exact ⟨byHorizon_lapsed r now horizon, byHorizon_account r now horizon⟩
  · exact ⟨rfl, rfl⟩
  · exact ⟨rfl, rfl⟩

/-- A record of origin CHECK_IN re-examined: HOLDING it stays as it is, and otherwise it is placed by its horizon (R61). -/
theorem reexamined_cases {r : RequestRecord} (h : r.state ≠ .projected) (now : Time) (horizon : Nat) :
    (r.state = .holding ∧ r.reexamined now horizon = r) ∨
      (r.state ≠ .holding ∧ r.reexamined now horizon = r.byHorizon now horizon) := by
  unfold RequestRecord.reexamined
  cases hstate : r.state with
  | projected => exact absurd hstate h
  | armed => exact .inr ⟨nofun, rfl⟩
  | waiting => exact .inr ⟨nofun, rfl⟩
  | holding => exact .inl ⟨rfl, rfl⟩

theorem reexamined_standing {r : RequestRecord} (h : r.state ≠ .projected) (now : Time) (horizon : Nat) :
    (r.reexamined now horizon).standing = r.standing := by
  obtain ⟨-, e⟩ | ⟨hr, e⟩ := reexamined_cases h now horizon <;> rw [e]
  refine standing_eq_iff.mpr ⟨unserved_signal (byHorizon_unserved r now horizon), ?_⟩
  obtain e | e := byHorizon_state r now horizon <;> rw [e] <;> simp [hr, h]

theorem refreshed_eq {r : RequestRecord} (h : r.state ≠ .projected) (t : TakenReport) (s : State) :
    r.refreshed t s = (r.reported t s).reexamined s.clock (s.horizonUnits r.signal) := by
  rw [RequestRecord.refreshed, withReport_eq h]

theorem refreshed_unserved {r : RequestRecord} (h : r.state ≠ .projected) (t : TakenReport) (s : State) :
    (r.refreshed t s).unserved = (r.reported t s).unserved := by
  rw [refreshed_eq h, reexamined_unserved]

theorem refreshed_standing {r : RequestRecord} (h : r.state ≠ .projected) (t : TakenReport) (s : State) :
    (r.refreshed t s).standing = r.standing := by
  rw [refreshed_eq h]
  exact reexamined_standing (r := r.reported t s) h _ _

theorem refreshed_rest {r : RequestRecord} (h : r.state ≠ .projected) (t : TakenReport) (s : State) :
    (r.refreshed t s).lapsed = r.lapsed ∧ (r.refreshed t s).account = r.account := by
  rw [refreshed_eq h]
  exact reexamined_rest (r.reported t s) _ _

/-- A refreshed record holds still, without a horizon entry time if it had none, or stands by its horizon (R61). -/
theorem refreshed_place {r : RequestRecord} (h : r.state ≠ .projected) (t : TakenReport) (s : State) :
    (r.state = .holding ∧ (r.refreshed t s).state = .holding ∧ (r.refreshed t s).horizonEntry = r.horizonEntry) ∨
      PlacedByHorizon s (r.refreshed t s) := by
  rw [refreshed_eq h]
  obtain ⟨hr, e⟩ | ⟨-, e⟩ := reexamined_cases (r := r.reported t s) h s.clock (s.horizonUnits r.signal) <;> rw [e]
  · exact .inl ⟨hr, hr, rfl⟩
  · exact .inr (placedByHorizon_byHorizon rfl)

/-- A record that has just taken a report is not changed by the same report, but for its fields of service. -/
theorem refreshed_again {r q : RequestRecord} (hq : q.state ≠ .projected) {t : TakenReport} {s u : State}
    (hu : SameConfig s u) (h : q.unserved = (r.reported t s).unserved) : (q.refreshed t u).unserved = q.unserved := by
  rw [refreshed_unserved hq, reported_congr hu, reported_unserved h, reported_reported, h]

/-! ## A record re-estimated (R48) -/

theorem movedBehind_rest (r : RequestRecord) (q : Option RequestRecord) (s : State) :
    r.movedBehind q s =
      { r with arrival := (r.movedBehind q s).arrival, projectionExpiry := (r.movedBehind q s).projectionExpiry } := by
  unfold RequestRecord.movedBehind
  split <;> rfl

theorem reestimated_eq {r : RequestRecord} (h : r.state = .projected) (t : TakenReport) (s : State) :
    r.reestimated t s =
      { r with
        doorsOpen := t.doorsOpen
        stopPending := r.stopPending && !t.doorsOpen
        arrival := (r.movedBehind (precedingRecord r s) s).arrival
        projectionExpiry := (r.movedBehind (precedingRecord r s) s).projectionExpiry
        score := penalisedScore s r } := by
  rw [RequestRecord.reestimated, withDoors_eq, movedBehind_rest]
  simp only [recordScore, if_pos h]
  rfl

theorem movedBehind_none {r : RequestRecord} (s : State) : r.movedBehind none s = r := rfl

/-- A record that stands behind nothing in its chain keeps its arrival, and another has it from the record behind it
(R46, R47, R48). -/
theorem movedBehind_some {r q : RequestRecord} {c : Fin 128} (hc : r.cursor = some c) (s : State) :
    (r.movedBehind (some q) s).arrival = projectedArrival s.clock q.arrival s.tables.segment[c] ∧
      (r.movedBehind (some q) s).projectionExpiry =
        some (projectionExpiryTime s r.signal (projectedArrival s.clock q.arrival s.tables.segment[c])) := by
  simp [RequestRecord.movedBehind, hc]

theorem movedBehind_congr (r : RequestRecord) {q q' : Option RequestRecord}
    (h : q'.map RequestRecord.arrival = q.map RequestRecord.arrival) (s : State) : r.movedBehind q' s = r.movedBehind q s := by
  cases q <;> cases q'
  · rfl
  · cases h
  · cases h
  · rw [Option.map_some, Option.map_some, Option.some.injEq] at h
    unfold RequestRecord.movedBehind
    cases r.cursor with
    | none => rfl
    | some c => simp only [h]

theorem reestimated_congr {s u : State} (h : OnlyRecords s u) (hchains : SameChains s u) (r : RequestRecord)
    (t : TakenReport) : r.reestimated t u = r.reestimated t s := by
  rw [RequestRecord.reestimated, movedBehind_congr r (precedingRecord_congr h.keeps.tables hchains r)]
  obtain ⟨v, rfl⟩ := h
  rfl

theorem chainView_reestimated {r : RequestRecord} (h : r.state = .projected) (t : TakenReport) (s : State) :
    (r.reestimated t s).chainView = r.chainView := by
  rw [chainView_of_projected h, reestimated_eq h]
  exact chainView_of_projected h

/-! ## The update (R34, R49, R69) -/

/-- What the update of a report makes of a record. -/
def RequestRecord.updated (r : RequestRecord) (t : TakenReport) (s : State) : RequestRecord :=
  if r.bus = t.bus then
    if r.state = .projected then r.reestimated t (refreshRecords t s).1
    else if r.direction = t.heading then r.refreshed t s
    else r
  else r

theorem onlyRecords_refreshRecords (t : TakenReport) (s : State) : OnlyRecords s (refreshRecords t s).1 :=
  onlyRecords_foldl (fun u x => some (x.2.refreshed t u)) _ s

theorem onlyRecords_updateRecords (t : TakenReport) (s : State) : OnlyRecords s (updateRecords t s).1 :=
  (onlyRecords_refreshRecords t s).trans (onlyRecords_foldl (fun u x => some (x.2.reestimated t u)) _ _)

theorem refreshRecords_record (t : TakenReport) (s : State) (i : SlotId) :
    (refreshRecords t s).1.record i =
      (s.record i).map fun r =>
        if r.bus == t.bus && r.state != .projected && r.direction == t.heading then r.refreshed t s else r := by
  have constant : (refreshRecords t s).1 = (s.records.filter fun x =>
      x.2.bus == t.bus && x.2.state != .projected && x.2.direction == t.heading).foldl
        (fun u x => u.setRecord x.1 (some (x.2.refreshed t s))) s := by
    refine foldl_setRecord_frame (I := OnlyRecords s) (f := fun u x => x.2.refreshed t u) (OnlyRecords.refl s) ?_ ?_
    · rintro v x ⟨w, rfl⟩
      rfl
    · exact fun v x _ hv => hv.setRecord _ _
  rw [constant]
  exact foldl_records_record _ (fun x => x.2.refreshed t s) s i

theorem reestimateRecords_record (t : TakenReport) (s : State) (i : SlotId) :
    (reestimateRecords t s).1.record i =
      (s.record i).map fun r => if r.bus == t.bus && r.state == .projected then r.reestimated t s else r := by
  have constant : (reestimateRecords t s).1 = (s.records.filter fun x =>
      x.2.bus == t.bus && x.2.state == .projected).foldl
        (fun u x => u.setRecord x.1 (some (x.2.reestimated t s))) s := by
    refine foldl_setRecord_frame (I := fun u => OnlyRecords s u ∧ SameChains s u)
      (f := fun u x => x.2.reestimated t u) ⟨OnlyRecords.refl s, SameChains.refl s⟩ ?_ ?_
    · exact fun v x hv => reestimated_congr hv.1 hv.2 x.2 t
    · rintro v x hx ⟨honly, hchains⟩
      refine ⟨honly.setRecord _ _, fun j => ?_⟩
      obtain ⟨hx, hp⟩ := List.mem_filter.mp hx
      simp only [Bool.and_eq_true, beq_iff_eq] at hp
      rw [State.record_setRecord]
      split
      · next hj => rw [hj, (s.mem_records x).mp hx, Option.map_some, chainView_reestimated hp.2, Option.map_some]
      · exact hchains j
  rw [constant]
  exact foldl_records_record _ (fun x => x.2.reestimated t s) s i

theorem sameChains_reestimateRecords (t : TakenReport) (s : State) : SameChains s (reestimateRecords t s).1 := by
  intro i
  rw [reestimateRecords_record, Option.map_map]
  refine congrArg (fun f => (s.record i).map f) (funext fun r => ?_)
  rw [Function.comp_apply]
  split
  · next h =>
    rw [Bool.and_eq_true, beq_iff_eq, beq_iff_eq] at h
    exact chainView_reestimated h.2 t s
  · rfl

/-- The update of a report, record by record. -/
theorem updateRecords_record (t : TakenReport) (s : State) (i : SlotId) :
    (updateRecords t s).1.record i = (s.record i).map fun r => r.updated t s := by
  show (reestimateRecords t (refreshRecords t s).1).1.record i = _
  rw [reestimateRecords_record, refreshRecords_record, Option.map_map]
  refine congrArg (fun f => (s.record i).map f) (funext fun r => ?_)
  rw [Function.comp_apply, RequestRecord.updated]
  by_cases hbus : r.bus = t.bus
  · by_cases hp : r.state = .projected
    · simp [hbus, hp]
    · by_cases hd : r.direction = t.heading
      · have hp' : (r.refreshed t s).state ≠ .projected := fun e =>
          hp ((standing_eq_iff.mp (refreshed_standing hp t s)).2.2.mp e)
        simp [hbus, hp, hd, hp']
      · simp [hbus, hp, hd]
  · simp [hbus]

theorem mem_updateRecords_touched {t : TakenReport} {s : State} {i : SlotId} {r : RequestRecord} (hr : s.record i = some r)
    (hbus : r.bus = t.bus) (hp : r.state ≠ .projected) (hd : r.direction = t.heading) :
    r.signal ∈ (updateRecords t s).2 := by
  refine List.mem_append_left _ (List.mem_map.mpr ⟨(i, r), List.mem_filter.mpr ⟨(s.mem_records (i, r)).mpr hr, ?_⟩, rfl⟩)
  simp [hbus, hp, hd]

/-- The cases of an update. -/
theorem updated_cases (r : RequestRecord) (t : TakenReport) (s : State) :
    (r.bus = t.bus ∧ r.state = .projected ∧ r.updated t s = r.reestimated t (refreshRecords t s).1) ∨
      (r.bus = t.bus ∧ r.state ≠ .projected ∧ r.direction = t.heading ∧ r.updated t s = r.refreshed t s) ∨
      ((r.bus ≠ t.bus ∨ (r.state ≠ .projected ∧ r.direction ≠ t.heading)) ∧ r.updated t s = r) := by
  unfold RequestRecord.updated
  split
  · next hbus =>
    split
    · next hp => exact .inl ⟨hbus, hp, rfl⟩
    · next hp =>
      split
      · next hd => exact .inr (.inl ⟨hbus, hp, hd, rfl⟩)
      · next hd => exact .inr (.inr ⟨.inr ⟨hp, hd⟩, rfl⟩)
  · next hbus => exact .inr (.inr ⟨.inl hbus, rfl⟩)

/-- An update leaves a record's bus, its signal, LAPSED and its account, and whether it is HOLDING or PROJECTED. -/
theorem updated_rest (r : RequestRecord) (t : TakenReport) (s : State) :
    (r.updated t s).key = r.key ∧ (r.updated t s).standing = r.standing ∧ (r.updated t s).lapsed = r.lapsed ∧
      (r.updated t s).account = r.account := by
  obtain ⟨-, hp, e⟩ | ⟨-, hp, -, e⟩ | ⟨-, e⟩ := updated_cases r t s <;> rw [e]
  · rw [reestimated_eq hp]
    exact ⟨rfl, rfl, rfl, rfl⟩
  · have key := congrArg RequestRecord.key (refreshed_unserved hp t s)
    exact ⟨key, refreshed_standing hp t s, refreshed_rest hp t s⟩
  · exact ⟨rfl, rfl, rfl, rfl⟩

theorem holdersOk_updateRecords {s : State} (h : HoldersOk s) (t : TakenReport) : HoldersOk (updateRecords t s).1 := by
  refine h.congr (fun k => by rw [(onlyRecords_updateRecords t s).ctx]) fun i => ?_
  rw [updateRecords_record, Option.map_map]
  exact congrArg (fun f => (s.record i).map f) (funext fun r => (updated_rest r t s).2.1)

/-! ## The update and the evaluations after it (R34, R37) -/

/-- What a report without CANCEL does once it has closed or checked in what it should: the update, and the evaluations. -/
def updateAndEvaluate (t : TakenReport) (touched : List SignalId) (m : State) : State :=
  evaluateTouched (touched ++ (updateRecords t m).2) (updateRecords t m).1

theorem actOnReport_update {t : TakenReport} (h : t.cancel = false) (route : Fin 32) (s : State) :
    actOnReport t route s = updateAndEvaluate t (matchZone t route s).2 (matchZone t route s).1 := by
  rw [actOnReport, if_neg (h ▸ Bool.false_ne_true)]
  rfl

section
variable (t : TakenReport) (touched : List SignalId) (m : State)

theorem settled_updateAndEvaluate : Settled (updateRecords t m).1 (updateAndEvaluate t touched m) :=
  settled_evaluateTouched _ _

theorem updateAndEvaluate_reports : (updateAndEvaluate t touched m).reports = m.reports :=
  (evaluateTouched_reports _ _).trans (onlyRecords_updateRecords t m).reports

theorem updateAndEvaluate_ctx (k : SignalId) : ((updateAndEvaluate t touched m).ctx k).unserved = (m.ctx k).unserved := by
  rw [(settled_updateAndEvaluate t touched m).ctx, (onlyRecords_updateRecords t m).ctx]

/-- The records that a report leaves, but for their fields of service. -/
theorem updateAndEvaluate_unserved (i : SlotId) :
    ((updateAndEvaluate t touched m).record i).map RequestRecord.unserved =
      (m.record i).map fun r => (r.updated t m).unserved := by
  rw [(settled_updateAndEvaluate t touched m).record, updateRecords_record, Option.map_map]
  rfl

theorem updateAndEvaluate_isSome (i : SlotId) :
    ((updateAndEvaluate t touched m).record i).isSome = (m.record i).isSome := by
  have h := congrArg Option.isSome (updateAndEvaluate_unserved t touched m i)
  rwa [Option.isSome_map, Option.isSome_map] at h

theorem updateAndEvaluate_key (i : SlotId) :
    ((updateAndEvaluate t touched m).record i).map RequestRecord.key = (m.record i).map RequestRecord.key := by
  have h := congrArg (Option.map RequestRecord.key) (updateAndEvaluate_unserved t touched m i)
  rw [Option.map_map, Option.map_map] at h
  refine Eq.trans h ?_
  exact congrArg (fun f => (m.record i).map f) (funext fun r => (updated_rest r t m).1)

/-- Records of other buses keep all but their fields of service (R34). -/
theorem updateAndEvaluate_other {i : SlotId} (h : ∀ r, m.record i = some r → r.bus ≠ t.bus) :
    ((updateAndEvaluate t touched m).record i).map RequestRecord.unserved = (m.record i).map RequestRecord.unserved := by
  rw [updateAndEvaluate_unserved]
  cases hr : m.record i with
  | none => rfl
  | some r => rw [Option.map_some, RequestRecord.updated, if_neg (h r hr), Option.map_some]

variable {t touched m}

theorem updateAndEvaluate_record (hm : HoldersOk m) {i : SlotId} {r : RequestRecord} (hr : m.record i = some r) :
    ∃ y, (updateAndEvaluate t touched m).record i = some y ∧ Resettled m (r.updated t m) y := by
  have updated : (updateRecords t m).1.record i = some (r.updated t m) := by rw [updateRecords_record, hr]; rfl
  obtain ⟨y, hy, h⟩ := (settled_updateAndEvaluate t touched m).resettled (holdersOk_updateRecords hm t) i _ updated
  exact ⟨y, hy, (Resettled.refl m _).trans h (onlyRecords_updateRecords t m).sameHorizons⟩

/-- A refreshed record of the report's bus stands by its horizon once its signal has evaluated (R61). -/
theorem updateAndEvaluate_placed (hm : HoldersOk m) {i : SlotId} {r : RequestRecord} (hr : m.record i = some r)
    (hbus : r.bus = t.bus) (hp : r.state ≠ .projected) (hd : r.direction = t.heading)
    (hentry : r.state = .holding → r.horizonEntry = none) {y : RequestRecord}
    (hy : (updateAndEvaluate t touched m).record i = some y) : PlacedByHorizon m y := by
  have only := onlyRecords_updateRecords t m
  have hv := holdersOk_updateRecords hm t
  have updated : r.updated t m = r.refreshed t m := by rw [RequestRecord.updated, if_pos hbus, if_neg hp, if_pos hd]
  have record : (updateRecords t m).1.record i = some (r.refreshed t m) := by
    rw [updateRecords_record, hr, Option.map_some, updated]
  obtain ⟨hr, hstate, he⟩ | placed := refreshed_place hp t m
  · have signal := (standing_eq_iff.mp (refreshed_standing hp t m)).1
    have evaluates : (r.refreshed t m).signal ∈ touchedSignals (touched ++ (updateRecords t m).2) := by
      rw [mem_touchedSignals, signal]
      exact List.mem_append_right _ (mem_updateRecords_touched ‹_› hbus hp hd)
    obtain ⟨q, hq, placed⟩ := evaluateAll_places hv record hstate (he.trans (hentry hr)) evaluates
    rw [updateAndEvaluate, evaluateTouched_record, hq] at hy
    obtain rfl : q = y := Option.some.inj hy
    exact placed.congr only.sameHorizons.symm
  · obtain ⟨q, hq, resettled⟩ := updateAndEvaluate_record (touched := touched) hm hr
    obtain rfl : q = y := Option.some.inj (hq.symm.trans hy)
    exact resettled.placed (updated.symm ▸ placed)

/-- A record that is not its signal's holder, and does not become it, is left as the update makes it. -/
theorem updateAndEvaluate_unheld (hm : HoldersOk m) {i : SlotId} {r : RequestRecord} (hr : m.record i = some r)
    (before : (m.ctx r.signal).holder ≠ some i)
    (after : ((updateAndEvaluate t touched m).ctx r.signal).holder ≠ some i) :
    (updateAndEvaluate t touched m).record i = some (r.updated t m) := by
  have updated : (updateRecords t m).1.record i = some (r.updated t m) := by rw [updateRecords_record, hr]; rfl
  have signal : (r.updated t m).signal = r.signal := (standing_eq_iff.mp (updated_rest r t m).2.1).1
  rw [updateAndEvaluate, evaluateTouched_ctx] at after
  rw [updateAndEvaluate, evaluateTouched_record]
  refine evaluateAll_unheld (nodup_touchedSignals _) (holdersOk_updateRecords hm t) updated ?_ ?_ <;> rw [signal]
  · rw [(onlyRecords_updateRecords t m).ctx]
    exact before
  · exact after

/-! ## What a report makes of the records it leaves open (R34, R48, R61, R69 to R71) -/

/-- Between the refreshing of a report and its end no record changes in what a re-estimation reads. -/
theorem sameChains_updateAndEvaluate (hm : HoldersOk m) :
    SameChains (refreshRecords t m).1 (updateAndEvaluate t touched m) := by
  refine (sameChains_reestimateRecords t (refreshRecords t m).1).trans fun i => ?_
  have settled := settled_updateAndEvaluate t touched m
  cases hr : (updateRecords t m).1.record i with
  | none =>
    have e := settled.record i
    rw [hr, Option.map_none, Option.map_eq_none_iff] at e
    rw [e, show (reestimateRecords t (refreshRecords t m).1).1.record i = none from hr]
  | some r =>
    obtain ⟨y, hy, resettled⟩ := settled.resettled (holdersOk_updateRecords hm t) i r hr
    have key := congrArg RequestRecord.key resettled.unserved
    have arrival := congrArg (fun x => (x.direction, x.arrival)) resettled.unserved
    have view : y.chainView = r.chainView :=
      congrArg₂ Prod.mk key (if_congr resettled.projected_iff rfl (congrArg some arrival))
    rw [hy, Option.map_some, view, show (reestimateRecords t (refreshRecords t m).1).1.record i = some r from hr,
      Option.map_some]

theorem isChainedArrival_projectedArrival (now preceding : Time) (g : SegmentEntry) :
    IsChainedArrival now preceding g (projectedArrival now preceding g) := by
  rintro sum rfl
  rfl

theorem refreshedBy {s : State} {x y : RequestRecord}
    (hunserved : y.unserved = (x.reported t s).unserved) (hlapsed : y.lapsed = x.lapsed) (hplaced : PlacedByHorizon s y) :
    RefreshedBy t s x y := by
  have arrival : arrivalTime s y = (x.reported t s).arrival := by
    have e := congrArg (arrivalTime s) hunserved
    exact e
  refine ⟨?_, hlapsed, hplaced⟩
  rw [hunserved, arrival]
  rfl

theorem reestimatedBy {s : State} {x y : RequestRecord} (hm : HoldersOk m) (hunique : UniqueRecords m)
    (hconfig : SameConfig s m) (hp : x.state = .projected)
    (hunserved : y.unserved = (x.reestimated t (refreshRecords t m).1).unserved) (hlapsed : y.lapsed = x.lapsed)
    (hstate : y.state = .projected) : ReestimatedBy t s (updateAndEvaluate t touched m) x y := by
  have unique := hunique.congr (updateAndEvaluate_key t touched m)
  have refreshes := onlyRecords_refreshRecords t m
  have tables : (refreshRecords t m).1.tables = s.tables := refreshes.keeps.tables.trans hconfig.tables
  have clock : (refreshRecords t m).1.clock = s.clock := refreshes.keeps.clock.trans hconfig.clock
  have behind := precedingRecord_congr
    ((settled_updateAndEvaluate t touched m).tables.trans (onlyRecords_updateRecords t m).keeps.tables |>.trans
      refreshes.keeps.tables.symm) (sameChains_updateAndEvaluate (touched := touched) hm) x
  have arrival : y.arrival = (x.movedBehind (precedingRecord x (refreshRecords t m).1) (refreshRecords t m).1).arrival :=
    (unserved_arrival hunserved).trans (by rw [reestimated_eq hp])
  have expiry : y.projectionExpiry =
      (x.movedBehind (precedingRecord x (refreshRecords t m).1) (refreshRecords t m).1).projectionExpiry :=
    (unserved_projectionExpiry hunserved).trans (by rw [reestimated_eq hp])
  have signal : y.signal = x.signal := (unserved_signal hunserved).trans (by rw [reestimated_eq hp])
  refine ⟨?_, hlapsed, hstate, fun c q hc hq => ?_, fun hnone => ?_⟩
  · have score : penalisedScore (refreshRecords t m).1 x = penalisedScore s x := by
      simp only [penalisedScore, State.signalEntry, tables]
    rw [hunserved, reestimated_eq hp, arrival, expiry, score]
    rfl
  · rw [precedingRecord_of_precedes unique hq] at behind
    obtain ⟨moved, movedExpiry⟩ := movedBehind_some (q := q) hc (refreshRecords t m).1
    rw [movedBehind_congr x behind, clock, tables] at moved movedExpiry
    rw [moved] at arrival
    rw [movedExpiry, ← arrival] at expiry
    refine ⟨arrival ▸ isChainedArrival_projectedArrival s.clock q.arrival s.tables.segment[c], ?_⟩
    rw [expiry, graceExpiry, projectionExpiryTime, State.signalEntry, tables, signal]
    rfl
  · have none_behind : precedingRecord x (updateAndEvaluate t touched m) = none := by
      by_contra h
      obtain ⟨q, hq⟩ := Option.ne_none_iff_exists'.mp h
      exact hnone q (precedes_of_precedingRecord hq)
    rw [none_behind] at behind
    rw [← movedBehind_congr x behind, movedBehind_none] at arrival expiry
    exact ⟨arrival, expiry⟩

/-- What a report makes of a record that it leaves open (R34, R69). -/
theorem updatedBy {s : State} {i : SlotId} {x y : RequestRecord} (hm : HoldersOk m) (hunique : UniqueRecords m)
    (hconfig : SameConfig s m) (hhorizons : SameHorizons s m) (hx : m.record i = some x)
    (hentry : x.state = .holding → x.horizonEntry = none) (hy : (updateAndEvaluate t touched m).record i = some y) :
    UpdatedBy t s (updateAndEvaluate t touched m) x y := by
  obtain ⟨q, hq, resettled⟩ := updateAndEvaluate_record (t := t) (touched := touched) hm hx
  obtain rfl : q = y := Option.some.inj (hq.symm.trans hy)
  have lapsed := resettled.lapsed.trans (updated_rest x t m).2.2.1
  have unserved := resettled.unserved
  refine ⟨fun hbus hp hd => ?_, fun hbus hp hstate => ?_, fun hleft => ?_⟩
  · rw [RequestRecord.updated, if_pos hbus, if_neg hp, if_pos hd, refreshed_unserved hp, reported_congr hconfig] at unserved
    have placed := updateAndEvaluate_placed hm hx hbus hp hd hentry hy
    exact refreshedBy unserved lapsed (placed.congr hhorizons.symm)
  · rw [RequestRecord.updated, if_pos hbus, if_pos hp] at unserved
    exact reestimatedBy hm hunique hconfig hp unserved lapsed hstate
  · obtain ⟨hbus, hp, -⟩ | ⟨hbus, hp, hd, -⟩ | ⟨-, e⟩ := updated_cases x t m
    · exact (hleft.elim (fun h => h hbus) fun h => h.1 hp).elim
    · exact (hleft.elim (fun h => h hbus) fun h => h.2 hd).elim
    · rw [e] at unserved
      exact ⟨unserved, lapsed⟩

end

end Sys2Proof.Machine
end

section
/-! What the closures and the check-in of a report do to the records (R31 to R33, R35, R44, R64 to R68): each operation, what
all of them keep, and what becomes of one record. -/

namespace Sys2Proof.Machine

/-! ## One slot changed -/

theorem holdersOk_setRecord_free {s : State} (h : HoldersOk s) {i : SlotId} (hi : s.record i = none) {q : RequestRecord}
    (hq : q.state ≠ .holding) : HoldersOk (s.setRecord i (some q)) := by
  refine (holdersOk_iff _).mpr ⟨fun k a ha => ?_, fun a r hr hstate => ?_⟩
  · obtain ⟨r, hr, hrest⟩ := h.holder (k := k) ha
    refine ⟨r, ?_, hrest⟩
    rw [State.record_setRecord_ne]
    · exact hr
    · rintro rfl
      exact h.holder_free hi k ha
  · rw [State.record_setRecord] at hr
    split at hr
    · cases hr
      exact absurd hstate hq
    · exact h.holding hr hstate

/-- A record replaced at its signal, HOLDING when it is the signal's holder and not otherwise. -/
theorem holdersOk_setRecord_same {s : State} (h : HoldersOk s) {i : SlotId} {r q : RequestRecord}
    (hr : s.record i = some r) (hsignal : q.signal = r.signal)
    (hq : q.state = .holding ↔ (s.ctx r.signal).holder = some i) : HoldersOk (s.setRecord i (some q)) := by
  refine (holdersOk_iff _).mpr ⟨fun k a ha => ?_, fun a x hx hstate => ?_⟩
  · by_cases hai : a = i
    · subst hai
      have hk : r.signal = k := h.holder_signal ha hr
      subst hk
      exact ⟨q, State.record_setRecord_self _ _ _, hsignal, .inl (hq.mpr ha)⟩
    · rw [State.record_setRecord_ne _ _ hai]
      exact h.holder ha
  · rw [State.record_setRecord] at hx
    split at hx
    · next hai =>
      subst hai
      cases hx
      rw [hsignal]
      exact hq.mp hstate
    · exact h.holding hx hstate

theorem uniqueRecords_setRecord {s : State} (h : UniqueRecords s) {i : SlotId} {q : RequestRecord}
    (hq : ∀ j r, j ≠ i → s.record j = some r → r.key ≠ q.key) : UniqueRecords (s.setRecord i (some q)) := by
  refine (uniqueRecords_iff _).mpr fun a b r x hr hx hkey => ?_
  rw [State.record_setRecord] at hr hx
  split at hr <;> split at hx
  · next ha hb => rw [ha, hb]
  · next hb =>
    cases hr
    exact absurd hkey.symm (hq b x hb hx)
  · next ha _ =>
    cases hx
    exact absurd hkey (hq a r ha hr)
  · exact (uniqueRecords_iff s).mp h a b r x hr hx hkey

/-! ## What the operations of a report keep -/

/-- From s to m records have closed or been made by a report: the configuration and the plans in effect stay, the holders
are as R63 says, and the records are of different buses or signals (R55). -/
structure Matched (s m : State) : Prop extends SameConfig s m where
  plan : ∀ k, (m.ctx k).plan = (s.ctx k).plan
  holders : HoldersOk s → HoldersOk m
  unique : UniqueRecords s → UniqueRecords m

theorem Matched.refl (s : State) : Matched s s := ⟨SameConfig.refl s, fun _ => rfl, id, id⟩

theorem Matched.trans {s t u : State} (h : Matched s t) (g : Matched t u) : Matched s u where
  toSameConfig := h.toSameConfig.trans g.toSameConfig
  plan k := (g.plan k).trans (h.plan k)
  holders := g.holders ∘ h.holders
  unique := g.unique ∘ h.unique

theorem Matched.sameHorizons {s m : State} (h : Matched s m) : SameHorizons s m :=
  sameHorizons_of h.toSameConfig h.plan

theorem matched_closeRecord (i : SlotId) (reason : ClosureReason) (s : State) :
    Matched s (closeRecord i reason s) where
  toSameConfig := closeRecord_keeps i reason s
  plan := closeRecord_plan i reason s
  holders h := by
    cases hi : s.record i with
    | none => rwa [closeRecord_free i reason s hi]
    | some r =>
      have holder := closeRecord_holder hi reason
      refine (holdersOk_iff _).mpr ⟨fun k a ha => ?_, fun a q hq hstate => ?_⟩
      · rw [holder] at ha
        split at ha
        · cases ha
        · next other =>
          obtain ⟨q, hq, hrest⟩ := h.holder ha
          refine ⟨q, ?_, hrest⟩
          rw [closeRecord_other]
          · exact hq
          · rintro rfl
            exact other ⟨(h.holder_signal ha hi).symm, ha⟩
      · have hai : a ≠ i := by
          rintro rfl
          rw [closeRecord_slot] at hq
          cases hq
        rw [closeRecord_other i a reason s hai] at hq
        have held := h.holding hq hstate
        rw [holder, if_neg]
        · exact held
        · rintro ⟨-, hi'⟩
          exact hai (Option.some.inj (held.symm.trans hi'))
  unique h := by
    refine h.of_sub fun a q hq => ⟨q, ?_, rfl⟩
    have hai : a ≠ i := by
      rintro rfl
      rw [closeRecord_slot] at hq
      cases hq
    rwa [closeRecord_other i a reason s hai] at hq

theorem matched_closeAll (l : List SlotId) (reason : ClosureReason) (s : State) : Matched s (closeAll l reason s) := by
  induction l generalizing s with
  | nil => exact Matched.refl s
  | cons i l ih => exact (matched_closeRecord i reason s).trans (ih _)

theorem matched_writeReport (b : ReportBody) (s : State) : Matched s (writeReport b s) :=
  ⟨writeReport_keeps b s, fun _ => rfl, fun h => h.congr (fun _ => rfl) fun _ => rfl, fun h => h.congr fun _ => rfl⟩

/-- A record made in a free slot, of a bus that has no record at its signal. -/
theorem matched_setRecord_free {s : State} {i : SlotId} {q : RequestRecord} (hi : s.record i = none)
    (hq : q.state ≠ .holding) (hnew : s.findRecord q.bus q.signal = none) : Matched s (s.setRecord i (some q)) where
  toSameConfig := setRecord_keeps i _ s
  plan _ := rfl
  holders h := holdersOk_setRecord_free h hi hq
  unique h := uniqueRecords_setRecord h fun j r _ hr hkey => by
    obtain ⟨hbus, hsignal⟩ := Prod.mk.inj hkey
    exact State.findRecord_none.mp hnew j r hr hbus hsignal

/-! ## The free slots (R55) -/

theorem freeSlot_eq_some_iff {s : State} {i : SlotId} :
    s.freeSlot = some i ↔ s.record i = none ∧ ∀ l, l < i → (s.record l).isSome = true := by
  rw [State.freeSlot, allSlots, List.find?_eq_some_iff_getElem]
  simp only [Option.isNone_iff_eq_none, List.getElem_finRange]
  refine and_congr_right fun _ => ⟨?_, fun before => ⟨i.val, by simp, rfl, fun l hl => ?_⟩⟩
  · rintro ⟨p, hp, rfl, before⟩ l hl
    simpa [Option.isSome_iff_ne_none] using before l.val hl
  · simpa [Option.isSome_iff_ne_none] using before ⟨l, by omega⟩ hl

theorem freeSlot_eq_none_iff {s : State} : s.freeSlot = none ↔ ∀ i, (s.record i).isSome = true := by
  simp [State.freeSlot, allSlots, Option.isSome_iff_ne_none]

/-- With one more slot filled the lowest free slot is the lowest of the others. -/
theorem freeSlot_setRecord_iff {s : State} {i j : SlotId} {q : RequestRecord} :
    (s.setRecord i (some q)).freeSlot = some j ↔ LowestFree s (some i) j := by
  rw [freeSlot_eq_some_iff, LowestFree]
  simp only [State.record_setRecord, Ne, Option.some.injEq]
  constructor
  · rintro ⟨free, before⟩
    by_cases hj : j = i
    · rw [if_pos hj] at free
      cases free
    · rw [if_neg hj] at free
      refine ⟨free, Ne.symm hj, fun l hl hli => ?_⟩
      have e := before l hl
      rwa [if_neg (Ne.symm hli)] at e
  · rintro ⟨free, hj, before⟩
    rw [if_neg (Ne.symm hj)]
    refine ⟨free, fun l hl => ?_⟩
    split
    · rfl
    · next hli => exact before l hl (Ne.symm hli)

/-! ## The projection attempt (R44, R45) -/

theorem admits_iff (x : ServiceState) : x.admits = true ↔ x ≠ .suspended ∧ x ≠ .unconfigured := by
  cases x <;> simp [ServiceState.admits]

theorem projectionOpen_iff {s : State} {r : RequestRecord} {next : Fin 128} {k : SignalId} {d : Direction} :
    ProjectionOpen s r next k d ↔
      r.cursor.bind (nextSegment s.tables) = some next ∧ s.tables.segment[next].target = some (k, d) ∧
        (flagSet (s.signalEntry k).inUse && (s.signalEntry k).projects d && (s.ctx k).state.admits &&
          (s.findRecord r.bus k).isNone) = true := by
  simp only [ProjectionOpen, Bool.and_eq_true, flagSet_iff, admits_iff, Option.isNone_iff_eq_none,
    State.findRecord_none, target_eq_some_iff, Option.bind_eq_some_iff, nextSegment_eq_some_iff, and_assoc]

/-- A record whose cursor leads on projects into a free slot (R44). -/
theorem attemptProjection_open {s : State} {i j : SlotId} {r : RequestRecord} {next : Fin 128} {k : SignalId}
    {d : Direction} (hr : s.record i = some r) (hopen : ProjectionOpen s r next k d) (hj : s.freeSlot = some j)
    (doors : Bool) :
    attemptProjection i doors s = (s.setRecord j (some (projectedRecord r next k d doors s)), [k]) := by
  obtain ⟨hnext, htarget, hopen⟩ := projectionOpen_iff.mp hopen
  rw [attemptProjection, hr]
  dsimp only
  rw [hnext]
  dsimp only
  rw [htarget, hj]
  exact if_pos hopen

theorem attemptProjection_closed {s : State} {i : SlotId} {r : RequestRecord} (hr : s.record i = some r)
    (h : (∀ next k d, ¬ ProjectionOpen s r next k d) ∨ s.freeSlot = none) (doors : Bool) :
    attemptProjection i doors s = (s, []) := by
  rw [attemptProjection, hr]
  dsimp only
  split
  · rfl
  · next next hnext =>
    split
    · next k d j htarget hj =>
      refine if_neg fun hopen => ?_
      obtain hclosed | hfull := h
      · exact hclosed next k d (projectionOpen_iff.mpr ⟨hnext, htarget, hopen⟩)
      · rw [hfull] at hj
        cases hj
    · rfl

theorem attemptProjection_free {s : State} {i : SlotId} (hr : s.record i = none) (doors : Bool) :
    attemptProjection i doors s = (s, []) := by
  rw [attemptProjection, hr]

/-- What a projection attempt can do. -/
theorem attemptProjection_cases (i : SlotId) (doors : Bool) (s : State) :
    attemptProjection i doors s = (s, []) ∨
      ∃ r next k d j, s.record i = some r ∧ ProjectionOpen s r next k d ∧ s.freeSlot = some j ∧
        attemptProjection i doors s = (s.setRecord j (some (projectedRecord r next k d doors s)), [k]) := by
  cases hr : s.record i with
  | none => exact .inl (attemptProjection_free hr doors)
  | some r =>
    cases hj : s.freeSlot with
    | none => exact .inl (attemptProjection_closed hr (.inr hj) doors)
    | some j =>
      by_cases hopen : ∃ next k d, ProjectionOpen s r next k d
      · obtain ⟨next, k, d, hopen⟩ := hopen
        exact .inr ⟨r, next, k, d, j, rfl, hopen, rfl, attemptProjection_open hr hopen hj doors⟩
      · refine .inl (attemptProjection_closed hr (.inl fun next k d h => hopen ⟨next, k, d, h⟩) doors)

theorem matched_attemptProjection (i : SlotId) (doors : Bool) (s : State) :
    Matched s (attemptProjection i doors s).1 := by
  obtain e | ⟨r, next, k, d, j, -, hopen, hj, e⟩ := attemptProjection_cases i doors s <;> rw [e]
  · exact Matched.refl s
  · refine matched_setRecord_free (s.freeSlot_free hj) nofun ?_
    obtain ⟨-, -, hopen⟩ := projectionOpen_iff.mp hopen
    rw [Bool.and_eq_true, Option.isNone_iff_eq_none] at hopen
    exact hopen.2

/-- A projection attempt makes its record in a free slot. -/
theorem attemptProjection_occupied (i : SlotId) (doors : Bool) {s : State} {l : SlotId} {x : RequestRecord}
    (hl : s.record l = some x) : (attemptProjection i doors s).1.record l = some x := by
  obtain e | ⟨r, next, k, d, j, -, -, hj, e⟩ := attemptProjection_cases i doors s <;> rw [e]
  · exact hl
  · refine (s.record_setRecord_ne _ ?_).trans hl
    rintro rfl
    rw [s.freeSlot_free hj] at hl
    cases hl

/-! ## Creation and conversion (R56 to R59, R64, R65) -/

/-- The record that a check-in makes (R64). -/
def createdRecord (t : TakenReport) (k : SignalId) (z : ZoneEntry) (route : Fin 32) (s : State) : RequestRecord :=
  ((newRecord t k z route s).reported t s).byHorizon s.clock (s.horizonUnits k)

theorem createRecord_eq (i : SlotId) (t : TakenReport) (k : SignalId) (z : ZoneEntry) (route : Fin 32) (s : State) :
    createRecord i t k z route s = s.setRecord i (some (createdRecord t k z route s)) := by
  rw [createRecord, withReport_eq (by exact nofun), createdRecord]

theorem createdRecord_unserved (t : TakenReport) (k : SignalId) (z : ZoneEntry) (route : Fin 32) (s : State) :
    (createdRecord t k z route s).unserved = ((newRecord t k z route s).reported t s).unserved :=
  byHorizon_unserved _ _ _

theorem createdRecord_key (t : TakenReport) (k : SignalId) (z : ZoneEntry) (route : Fin 32) (s : State) :
    (createdRecord t k z route s).key = (t.bus, k) := by
  have e := congrArg RequestRecord.key (createdRecord_unserved t k z route s)
  exact e

theorem createdRecord_state (t : TakenReport) (k : SignalId) (z : ZoneEntry) (route : Fin 32) (s : State) :
    (createdRecord t k z route s).state = .armed ∨ (createdRecord t k z route s).state = .waiting :=
  byHorizon_state _ _ _

/-- The record that a check-in makes of a PROJECTED one, before its state is set (R65). -/
def RequestRecord.rejoined (r : RequestRecord) (t : TakenReport) (z : ZoneEntry) (s : State) : RequestRecord :=
  { r with
    state := .waiting, direction := t.heading, nominalSpeed := z.nominalSpeed.toNat, stopDwell := z.stopDwell.toNat
    stopPending := decide (0 < z.stopDwell.toNat)
    cursor := settleCursor s.tables r.routeIndex r.cursor r.signal t.heading
    projectionExpiry := none }

/-- The record that a check-in makes of the PROJECTED one in a slot: HOLDING when that was its signal's holder (R50,
R59). -/
def convertedRecord (i : SlotId) (r : RequestRecord) (t : TakenReport) (z : ZoneEntry) (s : State) : RequestRecord :=
  if (s.ctx r.signal).holder = some i then ((r.rejoined t z s).reported t s).held
  else ((r.rejoined t z s).reported t s).byHorizon s.clock (s.horizonUnits r.signal)

theorem convertRecord_eq (i : SlotId) (r : RequestRecord) (t : TakenReport) (z : ZoneEntry) (s : State) :
    convertRecord i r t z s = s.setRecord i (some (convertedRecord i r t z s)) := by
  rw [convertRecord, RequestRecord.converted, withReport_eq (by exact nofun)]
  rfl

theorem convertedRecord_unserved (i : SlotId) (r : RequestRecord) (t : TakenReport) (z : ZoneEntry) (s : State) :
    (convertedRecord i r t z s).unserved = ((r.rejoined t z s).reported t s).unserved := by
  unfold convertedRecord
  split
  · exact held_unserved _
  · exact byHorizon_unserved _ _ _

theorem convertedRecord_key (i : SlotId) (r : RequestRecord) (t : TakenReport) (z : ZoneEntry) (s : State) :
    (convertedRecord i r t z s).key = r.key := by
  have e := congrArg RequestRecord.key (convertedRecord_unserved i r t z s)
  exact e

/-- A converted record holds exactly when it was its signal's holder. -/
theorem convertedRecord_state (i : SlotId) (r : RequestRecord) (t : TakenReport) (z : ZoneEntry) (s : State) :
    (convertedRecord i r t z s).state ≠ .projected ∧
      ((convertedRecord i r t z s).state = .holding ↔ (s.ctx r.signal).holder = some i) := by
  unfold convertedRecord
  split
  · next h =>
    rw [held_of_checkIn (by exact nofun)]
    exact ⟨nofun, iff_of_true rfl h⟩
  · next h =>
    obtain e | e := byHorizon_state ((r.rejoined t z s).reported t s) s.clock (s.horizonUnits r.signal) <;> rw [e]
    · exact ⟨nofun, iff_of_false nofun h⟩
    · exact ⟨nofun, iff_of_false nofun h⟩

theorem matched_createRecord {i : SlotId} {t : TakenReport} {k : SignalId} {z : ZoneEntry} {route : Fin 32} {s : State}
    (hi : s.record i = none) (hnew : s.findRecord t.bus k = none) : Matched s (createRecord i t k z route s) := by
  obtain ⟨hbus, hsignal⟩ := Prod.mk.inj (createdRecord_key t k z route s)
  rw [createRecord_eq]
  refine matched_setRecord_free hi ?_ (by rw [hbus, hsignal]; exact hnew)
  obtain e | e := createdRecord_state t k z route s <;> rw [e] <;> nofun

theorem matched_convertRecord {i : SlotId} {r : RequestRecord} (t : TakenReport) (z : ZoneEntry) {s : State}
    (hr : s.record i = some r) : Matched s (convertRecord i r t z s) := by
  have key := convertedRecord_key i r t z s
  rw [convertRecord_eq]
  refine ⟨setRecord_keeps i _ s, fun _ => rfl, fun h => ?_, fun h => ?_⟩
  · exact holdersOk_setRecord_same h hr (Prod.mk.inj key).2 (convertedRecord_state i r t z s).2
  · refine uniqueRecords_setRecord h fun j q hj hq hkey => hj ?_
    exact (uniqueRecords_iff s).mp h j i q r hq hr (hkey.trans key)

/-! ## The cases of a check-in (R35, R64 to R68) -/

section
variable {t : TakenReport} {k : SignalId} {z : ZoneEntry} {route : Fin 32} {s : State}

/-- A check-in of a bus whose record at the signal is PROJECTED converts it (R35, R65). -/
theorem checkIn_projected {i : SlotId} {r : RequestRecord} (h : s.findRecord t.bus k = some (i, r))
    (hp : r.state = .projected) :
    checkIn t k z route s =
      ((attemptProjection i t.doorsOpen (convertRecord i r t z s)).1,
        k :: (attemptProjection i t.doorsOpen (convertRecord i r t z s)).2) := by
  rw [checkIn, h]
  exact if_pos hp

/-- A check-in of a bus that has a record of origin CHECK_IN at the signal makes no record (R35). -/
theorem checkIn_present {i : SlotId} {r : RequestRecord} (h : s.findRecord t.bus k = some (i, r))
    (hp : r.state ≠ .projected) : checkIn t k z route s = (s, []) := by
  rw [checkIn, h]
  exact if_neg hp

theorem checkIn_new {i : SlotId} (h : s.findRecord t.bus k = none) (hi : s.freeSlot = some i) :
    checkIn t k z route s =
      ((attemptProjection i t.doorsOpen (createRecord i t k z route s)).1,
        k :: (attemptProjection i t.doorsOpen (createRecord i t k z route s)).2) := by
  rw [checkIn, h]
  dsimp only
  rw [hi]
  rfl

theorem checkIn_full (h : s.findRecord t.bus k = none) (hfull : s.freeSlot = none) :
    checkIn t k z route s = checkInFull t k z route s := by
  rw [checkIn, h]
  dsimp only
  rw [hfull]

/-- The lower scored of the record kept so far and the next, which wins a tie. -/
def keepLower (low : Option (SlotId × RequestRecord)) (x : SlotId × RequestRecord) : Option (SlotId × RequestRecord) :=
  match low with
  | none => some x
  | some y => if x.2.score ≤ y.2.score then some x else some y

theorem lowestScored_eq (l : List (SlotId × RequestRecord)) : lowestScored l = l.foldl keepLower none := rfl

theorem foldl_keepLower_mem {l : List (SlotId × RequestRecord)} {low : Option (SlotId × RequestRecord)}
    {y : SlotId × RequestRecord} (h : l.foldl keepLower low = some y) : low = some y ∨ y ∈ l := by
  refine foldl_pick_mem (fun low x => ?_) h
  unfold keepLower
  split
  · exact .inl rfl
  · split
    · exact .inl rfl
    · exact .inr rfl

theorem lowestScored_mem {l : List (SlotId × RequestRecord)} {x : SlotId × RequestRecord}
    (h : lowestScored l = some x) : x ∈ l :=
  (foldl_keepLower_mem ((lowestScored_eq l).symm.trans h)).resolve_left nofun

/-- A check-in against a full table displaces a record or leaves every slot as it is (R66, R67, R68). -/
theorem checkInFull_cases (t : TakenReport) (k : SignalId) (z : ZoneEntry) (route : Fin 32) (s : State) :
    (∃ x : SlotId × RequestRecord, s.record x.1 = some x.2 ∧
        checkInFull t k z route s = displaceAndCreate x t k z route s) ∨
      checkInFull t k z route s = (s, []) ∨
      ∃ b, checkInFull t k z route s = (writeReport b s, []) := by
  have listed : ∀ {p : SlotId × RequestRecord → Bool} {x}, lowestScored (s.records.filter p) = some x →
      s.record x.1 = some x.2 := fun h => (s.mem_records _).mp (List.mem_of_mem_filter (lowestScored_mem h))
  unfold checkInFull
  split
  · next x hx => exact .inl ⟨x, listed hx, rfl⟩
  · split
    · exact .inr (.inl rfl)
    · next x hx =>
      split
      · exact .inl ⟨x, listed hx, rfl⟩
      · exact .inr (.inr ⟨_, rfl⟩)

/-- The state in which a record has made way for a newcomer (R66, R67). -/
theorem displaceAndCreate_state (x : SlotId × RequestRecord) (t : TakenReport) (k : SignalId) (z : ZoneEntry)
    (route : Fin 32) (s : State) :
    (displaceAndCreate x t k z route s).1 =
      (attemptProjection x.1 t.doorsOpen (createRecord x.1 t k z route (closeRecord x.1 .displaced s))).1 := rfl

theorem findRecord_closeRecord {bus : Half} (h : s.findRecord bus k = none) (i : SlotId) (reason : ClosureReason) :
    (closeRecord i reason s).findRecord bus k = none := by
  refine State.findRecord_none.mpr fun j r hr => ?_
  by_cases hj : j = i
  · rw [hj, closeRecord_slot] at hr
    cases hr
  · rw [closeRecord_other i j reason s hj] at hr
    exact State.findRecord_none.mp h j r hr

theorem matched_displaceAndCreate (x : SlotId × RequestRecord) (h : s.findRecord t.bus k = none) :
    Matched s (displaceAndCreate x t k z route s).1 := by
  rw [displaceAndCreate_state]
  exact ((matched_closeRecord x.1 .displaced s).trans (matched_createRecord (closeRecord_slot x.1 .displaced s)
    (findRecord_closeRecord h x.1 .displaced))).trans (matched_attemptProjection _ _ _)

theorem matched_checkIn (t : TakenReport) (k : SignalId) (z : ZoneEntry) (route : Fin 32) (s : State) :
    Matched s (checkIn t k z route s).1 := by
  cases h : s.findRecord t.bus k with
  | some x =>
    obtain ⟨i, r⟩ := x
    by_cases hp : r.state = .projected
    · rw [checkIn_projected h hp]
      exact (matched_convertRecord t z (State.findRecord_some h).1).trans (matched_attemptProjection _ _ _)
    · rw [checkIn_present h hp]
      exact Matched.refl s
  | none =>
    cases hi : s.freeSlot with
    | some i =>
      rw [checkIn_new h hi]
      exact (matched_createRecord (s.freeSlot_free hi) h).trans (matched_attemptProjection _ _ _)
    | none =>
      rw [checkIn_full h hi]
      obtain ⟨x, -, e⟩ | e | ⟨b, e⟩ := checkInFull_cases t k z route s <;> rw [e]
      · exact matched_displaceAndCreate x h
      · exact Matched.refl s
      · exact matched_writeReport b s

/-! ## The zone a report lies in (R30 to R33) -/

theorem matchZone_outside (h : zoneAt s.tables t.heading t.position = none) :
    matchZone t route s = closeTouching (passedSlots t s) .inferredOut s := by
  rw [matchZone, h]

theorem matchZone_zone (h : zoneAt s.tables t.heading t.position = some z) (hk : z.signal.toNat = k.val) :
    matchZone t route s = inZone t z k route s := by
  rw [matchZone, h]
  dsimp only
  rw [hk, indexBelow_lt k.isLt]

theorem matchZone_nowhere (h : zoneAt s.tables t.heading t.position = some z) (hz : 16 ≤ z.signal.toNat) :
    matchZone t route s = (s, []) := by
  have nowhere : indexBelow 16 z.signal.toNat = none := dif_neg (Nat.not_lt.mpr hz)
  rw [matchZone, h]
  dsimp only
  rw [nowhere]

theorem inZone_checkOut {i : SlotId} {r : RequestRecord} (hz : z.kind = 1) (h : s.findRecord t.bus k = some (i, r)) :
    inZone t z k route s = closeTouching [i] .checkedOut s := by
  rw [inZone, if_pos hz, h]

theorem inZone_checkOut_none (hz : z.kind = 1) (h : s.findRecord t.bus k = none) :
    inZone t z k route s = (s, []) := by
  rw [inZone, if_pos hz, h]

theorem inZone_checkIn (hz : z.kind ≠ 1) (h : (s.ctx k).state.admits = true) :
    inZone t z k route s = checkIn t k z route s := by
  rw [inZone, if_neg hz, if_pos h]

theorem inZone_closed (hz : z.kind ≠ 1) (h : (s.ctx k).state.admits = false) :
    inZone t z k route s = (s, []) := by
  rw [inZone, if_neg hz, h]
  exact if_neg Bool.false_ne_true

end

theorem matched_inZone (t : TakenReport) (z : ZoneEntry) (k : SignalId) (route : Fin 32) (s : State) :
    Matched s (inZone t z k route s).1 := by
  by_cases hz : z.kind = 1
  · cases h : s.findRecord t.bus k with
    | none =>
      rw [inZone_checkOut_none hz h]
      exact Matched.refl s
    | some x =>
      rw [inZone_checkOut hz h]
      exact matched_closeAll _ _ s
  · cases h : (s.ctx k).state.admits with
    | true =>
      rw [inZone_checkIn hz h]
      exact matched_checkIn t k z route s
    | false =>
      rw [inZone_closed hz h]
      exact Matched.refl s

theorem matched_matchZone (t : TakenReport) (route : Fin 32) (s : State) : Matched s (matchZone t route s).1 := by
  cases h : zoneAt s.tables t.heading t.position with
  | none =>
    rw [matchZone_outside h]
    exact matched_closeAll _ _ s
  | some z =>
    by_cases hz : z.signal.toNat < 16
    · rw [matchZone_zone (k := ⟨_, hz⟩) h rfl]
      exact matched_inZone t z _ route s
    · rw [matchZone_nowhere h (Nat.not_lt.mp hz)]
      exact Matched.refl s

/-! ## What becomes of a record -/

/-- A record stays in its slot, as it is or converted from PROJECTED by a check-in of its bus. -/
def Stays (t : TakenReport) (x : RequestRecord) (o : Option RequestRecord) : Prop :=
  ∃ w, o = some w ∧ w.key = x.key ∧ (w = x ∨ (x.bus = t.bus ∧ x.state = .projected ∧ w.state ≠ .projected))

/-- A record leaves its slot, to nothing or to a record of another bus or signal. -/
def Leaves (x : RequestRecord) (o : Option RequestRecord) : Prop := ∀ w, o = some w → w.key ≠ x.key

theorem stays_of_eq {t : TakenReport} {x : RequestRecord} {o : Option RequestRecord} (h : o = some x) : Stays t x o :=
  ⟨x, h, rfl, .inl rfl⟩

/-- A report leaves a record outside every zone only by closing it as passed, in a CHECK_OUT zone only by closing it at the
zone's signal, and in a CHECK_IN zone only by displacing it from a full table (R31, R33, R66, R67). -/
def LeavesBy (t : TakenReport) (s : State) (x : RequestRecord) : Prop :=
  (zoneAt s.tables t.heading t.position = none ∧ x.bus = t.bus ∧
      distance (s.signalEntry x.signal) x.direction t.position < 0) ∨
    ∃ z, zoneAt s.tables t.heading t.position = some z ∧
      ((z.kind = 1 ∧ x.bus = t.bus ∧ z.signal.toNat = x.signal.val) ∨
        (z.kind ≠ 1 ∧ (∀ j, s.record j ≠ none) ∧ ¬ (x.bus = t.bus ∧ z.signal.toNat = x.signal.val)))

theorem mem_passedSlots {t : TakenReport} {s : State} {i : SlotId} :
    i ∈ passedSlots t s ↔ ∃ x, s.record i = some x ∧ x.bus = t.bus ∧
      distance (s.signalEntry x.signal) x.direction t.position < 0 := by
  rw [passedSlots, mem_slots_filter]
  simp only [Bool.and_eq_true, beq_iff_eq, decide_eq_true_eq]

theorem leaves_none {x : RequestRecord} {o : Option RequestRecord} (h : o = none) : Leaves x o := fun w hw => by
  rw [h] at hw
  cases hw

theorem closeTouching_fate (t : TakenReport) (l : List SlotId) (reason : ClosureReason) {s : State} {i : SlotId}
    {x : RequestRecord} (hx : s.record i = some x) :
    Stays t x ((closeTouching l reason s).1.record i) ∨
      (Leaves x ((closeTouching l reason s).1.record i) ∧ i ∈ l) := by
  have record : (closeTouching l reason s).1.record i = if i ∈ l then none else s.record i := closeAll_record l reason s i
  by_cases hi : i ∈ l
  · rw [if_pos hi] at record
    exact .inr ⟨leaves_none record, hi⟩
  · rw [if_neg hi] at record
    exact .inl (stays_of_eq (record.trans hx))

theorem checkIn_fate {t : TakenReport} {k : SignalId} {z : ZoneEntry} {route : Fin 32} {s : State} {i : SlotId}
    {x : RequestRecord} (hx : s.record i = some x) :
    Stays t x ((checkIn t k z route s).1.record i) ∨
      (Leaves x ((checkIn t k z route s).1.record i) ∧ (∀ j, s.record j ≠ none) ∧ ¬ (x.bus = t.bus ∧ x.signal = k)) := by
  cases h : s.findRecord t.bus k with
  | some y =>
    obtain ⟨j, r⟩ := y
    obtain ⟨hr, hbus, -⟩ := State.findRecord_some h
    left
    by_cases hp : r.state = .projected
    · rw [checkIn_projected h hp, convertRecord_eq]
      by_cases hij : i = j
      · subst hij
        obtain rfl : x = r := Option.some.inj (hx.symm.trans hr)
        refine ⟨convertedRecord i x t z s, attemptProjection_occupied i _ (State.record_setRecord_self _ _ _),
          convertedRecord_key i x t z s, .inr ⟨hbus, hp, (convertedRecord_state i x t z s).1⟩⟩
      · exact stays_of_eq (attemptProjection_occupied j _ ((s.record_setRecord_ne _ hij).trans hx))
    · rw [checkIn_present h hp]
      exact stays_of_eq hx
  | none =>
    have other : ¬ (x.bus = t.bus ∧ x.signal = k) := fun e => State.findRecord_none.mp h i x hx e.1 e.2
    cases hj : s.freeSlot with
    | some j =>
      have hij : i ≠ j := by
        rintro rfl
        rw [s.freeSlot_free hj] at hx
        cases hx
      left
      rw [checkIn_new h hj, createRecord_eq]
      exact stays_of_eq (attemptProjection_occupied j _ ((s.record_setRecord_ne _ hij).trans hx))
    | none =>
      have full : ∀ j, s.record j ≠ none := fun j e => by
        have := freeSlot_eq_none_iff.mp hj j
        rw [e] at this
        cases this
      rw [checkIn_full h hj]
      obtain ⟨y, hy, e⟩ | e | ⟨b, e⟩ := checkInFull_cases t k z route s <;> rw [e]
      · rw [displaceAndCreate_state, createRecord_eq]
        by_cases hiy : i = y.1
        · right
          have record := attemptProjection_occupied y.1 t.doorsOpen (State.record_setRecord_self
            (closeRecord y.1 .displaced s) y.1 (some (createdRecord t k z route (closeRecord y.1 .displaced s))))
          refine ⟨fun w hw hkey => other ?_, full, other⟩
          rw [hiy, record] at hw
          cases hw
          rw [createdRecord_key] at hkey
          obtain ⟨hbus, hsignal⟩ := Prod.mk.inj hkey
          exact ⟨hbus.symm, hsignal.symm⟩
        · left
          refine stays_of_eq (attemptProjection_occupied y.1 _ ?_)
          rw [State.record_setRecord_ne _ _ hiy, closeRecord_other _ _ _ _ hiy]
          exact hx
      · exact .inl (stays_of_eq hx)
      · exact .inl (stays_of_eq hx)

theorem matchZone_fate (t : TakenReport) (route : Fin 32) {s : State} {i : SlotId} {x : RequestRecord}
    (hx : s.record i = some x) :
    Stays t x ((matchZone t route s).1.record i) ∨
      (Leaves x ((matchZone t route s).1.record i) ∧ LeavesBy t s x) := by
  cases h : zoneAt s.tables t.heading t.position with
  | none =>
    rw [matchZone_outside h]
    refine (closeTouching_fate t (passedSlots t s) .inferredOut hx).imp_right fun ⟨leaves, hi⟩ => ⟨leaves, .inl ?_⟩
    obtain ⟨y, hy, hbus, hpassed⟩ := mem_passedSlots.mp hi
    obtain rfl : x = y := Option.some.inj (hx.symm.trans hy)
    exact ⟨h, hbus, hpassed⟩
  | some z =>
    by_cases hz : z.signal.toNat < 16
    · rw [matchZone_zone (k := ⟨_, hz⟩) h rfl]
      by_cases hkind : z.kind = 1
      · cases hf : s.findRecord t.bus ⟨z.signal.toNat, hz⟩ with
        | none =>
          rw [inZone_checkOut_none hkind hf]
          exact .inl (stays_of_eq hx)
        | some y =>
          obtain ⟨hy, hbus, hsignal⟩ := State.findRecord_some hf
          rw [inZone_checkOut hkind hf]
          refine (closeTouching_fate t [y.1] .checkedOut hx).imp_right fun ⟨leaves, hi⟩ => ⟨leaves, .inr ⟨z, h, .inl ?_⟩⟩
          rw [List.mem_singleton] at hi
          obtain rfl : x = y.2 := Option.some.inj (hx.symm.trans (hi ▸ hy))
          exact ⟨hkind, hbus, (Fin.ext_iff.mp hsignal).symm⟩
      · cases ha : (s.ctx ⟨z.signal.toNat, hz⟩).state.admits with
        | false =>
          rw [inZone_closed hkind ha]
          exact .inl (stays_of_eq hx)
        | true =>
          rw [inZone_checkIn hkind ha]
          refine (checkIn_fate hx).imp_right fun ⟨leaves, full, other⟩ => ⟨leaves, .inr ⟨z, h, .inr ⟨hkind, full, ?_⟩⟩⟩
          exact fun e => other ⟨e.1, Fin.ext e.2.symm⟩
    · rw [matchZone_nowhere h (Nat.not_lt.mp hz)]
      exact .inl (stays_of_eq hx)

end Sys2Proof.Machine
end

section
/-! What a report closes and what it updates (R31, R33, R34, R78, R79, R80, R109). -/

namespace Sys2Proof.Machine

/-! ## The report of a closure (R80) -/

/-- A report written into a list with two free places stands at the list's end, whatever is written after it. -/
theorem storeReport_kept {l : List Report} (h : l.length < 31) (now later : Time) (b : ReportBody) (c : Bool)
    (b' : ReportBody) :
    (if c then storeReport later b' (storeReport now b l) else storeReport now b l)[l.length]? = some ⟨now, b⟩ := by
  have capacity : reportCapacity = 32 := rfl
  have first : storeReport now b l = l ++ [⟨now, b⟩] := storeReport_tail now b l (by omega)
  have second : ∃ x, storeReport later b' (l ++ [⟨now, b⟩]) = l ++ [⟨now, b⟩] ++ [x] := by
    unfold storeReport
    split
    · exact ⟨_, rfl⟩
    · rw [if_pos (by rw [List.length_append, List.length_singleton]; omega)]
      exact ⟨_, rfl⟩
  obtain ⟨x, second⟩ := second
  rw [first, second]
  cases c <;> simp

theorem closeRecord_report {i : SlotId} {r : RequestRecord} {s : State} (h : s.record i = some r)
    (reason : ClosureReason) (hl : s.reports.length < 31) :
    (closeRecord i reason s).reports[s.reports.length]? = some ⟨s.clock, r.closedReport i reason⟩ := by
  rw [closeRecord_eq h, recompute_eq, State.setReports_reports, struckOut_reports]
  exact storeReport_kept hl _ _ _ _ _

/-! ## The lockouts of several closures (R109) -/

theorem lockoutCycles_eq (s : State) (k : SignalId) :
    (if (s.planInEffect k).inUse ≠ 0 then s.planInEffect k else s.tables.planEntry k .a).lockoutCycles.toNat =
      (s.fallbackPlan k).lockoutCycles.toNat := by
  rw [State.fallbackPlan]
  exact congrArg (fun e : PlanEntry => e.lockoutCycles.toNat) (if_congr (flagSet_iff _).symm rfl rfl)

/-- Closures of passages begin the lockouts of R109. -/
theorem lockoutsBegin_of_closeAll {s u : State} {l : List (SlotId × RequestRecord)} {reason : ClosureReason}
    {closed : SlotId → RequestRecord → Prop} (hl : Listed s l) (hpassage : reason.isPassage = true)
    (hclosed : ∀ i x, s.record i = some x → ((i, x) ∈ l ↔ closed i x))
    (hu : ∀ k, (u.ctx k).lockout = ((closeAll (l.map Prod.fst) reason s).ctx k).lockout) : LockoutsBegin s u closed := by
  rintro k L rfl
  rw [lockoutCycles_eq, hu]
  obtain ⟨begins, keeps⟩ := closeAll_lockout hl reason k
  constructor
  · intro i x hholder hx hsignal hi hserved hcycles
    exact begins hpassage ⟨(i, x), (hclosed i x hx).mpr hi, hsignal, hholder, hserved, hcycles⟩
  · intro hnone
    refine keeps fun _ y hy ⟨hsignal, hholder, hserved, hcycles⟩ => ?_
    have record := hl.1 y hy
    obtain e | e := hnone y.1 y.2 hholder record hsignal ((hclosed y.1 y.2 record).mp hy)
    · rw [e] at hserved
      cases hserved
    · exact absurd e hcycles.ne'

/-! ## A report that closes -/

theorem exec_busReport_update {p : PortId} {r : BusReport} {t : TakenReport} {route : Fin 32} {s : State}
    (hands : HandsOn s p) (hmode : s.mode = .active) (ht : taken r = some t)
    (hroute : resolveRoute s.tables t.route = some route) (hcancel : t.cancel = false) :
    exec (.busReport p r) s =
        .next (finish (updateAndEvaluate t (matchZone t route s).2 (matchZone t route s).1)) ∧
      SameConfig s (finish (updateAndEvaluate t (matchZone t route s).2 (matchZone t route s).1)) ∧
      ∀ q : PortId, SameReceiver (s.port q)
        ((finish (updateAndEvaluate t (matchZone t route s).2 (matchZone t route s).1)).port q) := by
  rw [← actOnReport_update hcancel]
  exact exec_busReport_taken hands hmode ht hroute

section
variable (t : TakenReport) (touched : List SignalId) (l : List SlotId) (reason : ClosureReason) (s : State)

theorem updateAndEvaluate_closeAll_eq_none (i : SlotId) :
    (updateAndEvaluate t touched (closeAll l reason s)).record i = none ↔ i ∈ l ∨ s.record i = none := by
  have h := updateAndEvaluate_isSome t touched (closeAll l reason s) i
  rw [closeAll_record] at h
  rw [← Option.isNone_iff_eq_none, ← Option.isNone_iff_eq_none, ← Option.not_isSome, h]
  split <;> simp [*]

theorem updateAndEvaluate_lockout (m : State) (k : SignalId) :
    ((updateAndEvaluate t touched m).ctx k).lockout = (m.ctx k).lockout := by
  have e := congrArg SignalContext.lockout (updateAndEvaluate_ctx t touched m k)
  exact e

end

/-- A report in a CHECK_OUT zone closes the record of its bus at the zone's signal (R31). -/
theorem checkOut_closes {p : PortId} {r : BusReport} {t : TakenReport} {route : Fin 32} {z : ZoneEntry} {k : SignalId}
    {i : SlotId} {x : RequestRecord} {s : State} (hands : HandsOn s p) (unique : UniqueRecords s)
    (hmode : s.mode = .active) (ht : taken r = some t) (hroute : resolveRoute s.tables t.route = some route)
    (hcancel : t.cancel = false) (hzone : zoneAt s.tables t.heading t.position = some z) (hkind : z.kind = 1)
    (hk : z.signal.toNat = k.val) (hx : s.record i = some x) (hbus : x.bus = t.bus) (hsignal : x.signal = k) :
    ∃ u : State, exec (.busReport p r) s = .next u ∧ SameConfig s u ∧ u.record i = none ∧
      (∀ j, j ≠ i → (u.record j).isSome = (s.record j).isSome) ∧
      (s.reports.length < 31 →
        u.reports[s.reports.length]? = some (⟨s.clock, .requestClosed i x.bus x.routeNumber k x.direction x.state
          .checkedOut x.score x.servicePart⟩ : Report)) ∧
      (DerivedOk s → u.reports = closureReports s .checkedOut [(i, x)]) ∧
      LockoutsBegin s u (fun j _ => j = i) ∧
      ∀ j y, s.record j = some y → y.bus ≠ t.bus →
        (u.record j).map RequestRecord.unserved = some y.unserved := by
  obtain ⟨hexec, hconfig, -⟩ := exec_busReport_update hands hmode ht hroute hcancel
  have found : s.findRecord t.bus k = some (i, x) := hbus ▸ hsignal ▸ findRecord_unique unique hx
  rw [matchZone_zone hzone hk, inZone_checkOut hkind found] at hexec hconfig
  have listed : Listed s [(i, x)] := ⟨by simpa using hx, List.nodup_singleton i⟩
  refine ⟨_, hexec, hconfig, ?_, fun j hj => ?_, fun hlength => ?_, fun derived => ?_, ?_, fun j y hy hother => ?_⟩
  · rw [finish_record]
    exact (updateAndEvaluate_closeAll_eq_none _ _ _ _ _ _).mpr (.inl (List.mem_singleton_self i))
  · rw [finish_record, updateAndEvaluate_isSome]
    exact congrArg Option.isSome (closeRecord_other i j .checkedOut s hj)
  · rw [finish_reports, updateAndEvaluate_reports]
    subst hsignal
    exact closeRecord_report hx .checkedOut hlength
  · rw [finish_reports, updateAndEvaluate_reports]
    exact closeAll_reports listed .checkedOut derived.states
  · refine lockoutsBegin_of_closeAll (reason := .checkedOut) listed rfl (fun j y hy => ?_) fun k => ?_
    · rw [List.mem_singleton, Prod.mk.injEq]
      refine and_iff_left_of_imp fun hj => ?_
      subst hj
      exact Option.some.inj (hy.symm.trans hx)
    · rw [finish_ctx, updateAndEvaluate_lockout]
      rfl
  · have record : (closeTouching [i] .checkedOut s).1.record j = some y := by
      refine (closeRecord_other i j .checkedOut s ?_).trans hy
      rintro rfl
      obtain rfl := Option.some.inj (hy.symm.trans hx)
      exact hother hbus
    rw [finish_record, updateAndEvaluate_other, record, Option.map_some]
    intro q hq
    obtain rfl := Option.some.inj (record.symm.trans hq)
    exact hother

/-- A report in no zone closes the records of its bus that it has passed (R33). -/
theorem outside_closes {p : PortId} {r : BusReport} {t : TakenReport} {route : Fin 32} {s : State} (hands : HandsOn s p)
    (hmode : s.mode = .active) (ht : taken r = some t) (hroute : resolveRoute s.tables t.route = some route)
    (hcancel : t.cancel = false) (hzone : zoneAt s.tables t.heading t.position = none) :
    ∃ u : State, exec (.busReport p r) s = .next u ∧ SameConfig s u ∧
      (∀ i x, s.record i = some x → x.bus = t.bus →
        (u.record i = none ↔ distance (s.signalEntry x.signal) x.direction t.position < 0)) ∧
      (DerivedOk s → u.reports = closureReports s .inferredOut (s.records.filter fun x =>
        x.2.bus == t.bus && decide (distance (s.signalEntry x.2.signal) x.2.direction t.position < 0))) ∧
      LockoutsBegin s u (fun _ x =>
        x.bus = t.bus ∧ distance (s.signalEntry x.signal) x.direction t.position < 0) ∧
      ∀ i, (∀ x, s.record i = some x → x.bus ≠ t.bus) →
        (u.record i).map RequestRecord.unserved = (s.record i).map RequestRecord.unserved := by
  obtain ⟨hexec, hconfig, -⟩ := exec_busReport_update hands hmode ht hroute hcancel
  rw [matchZone_outside hzone] at hexec hconfig
  have listed := listed_filter s fun x =>
    x.2.bus == t.bus && decide (distance (s.signalEntry x.2.signal) x.2.direction t.position < 0)
  refine ⟨_, hexec, hconfig, fun i x hx hbus => ?_, fun derived => ?_, ?_, fun i hother => ?_⟩
  · rw [finish_record]
    refine (updateAndEvaluate_closeAll_eq_none _ _ _ _ _ _).trans ?_
    rw [mem_passedSlots, hx]
    simp [hbus]
  · rw [finish_reports, updateAndEvaluate_reports]
    exact closeAll_reports listed .inferredOut derived.states
  · refine lockoutsBegin_of_closeAll (reason := .inferredOut) listed rfl (fun i x hx => ?_) fun k => ?_
    · rw [List.mem_filter, State.mem_records]
      simp [hx]
    · rw [finish_ctx, updateAndEvaluate_lockout]
      rfl
  · have record : (closeTouching (passedSlots t s) .inferredOut s).1.record i = s.record i := by
      refine (closeAll_record (passedSlots t s) .inferredOut s i).trans (if_neg fun hi => ?_)
      obtain ⟨x, hx, hbus, -⟩ := mem_passedSlots.mp hi
      exact hother x hx hbus
    rw [finish_record, updateAndEvaluate_other, record]
    intro q hq
    exact hother q (record.symm.trans hq)

/-! ## A report that updates (R34) -/

/-- Outside the cases of R31, R33, R66 and R67 a record stays in its slot. -/
theorem not_leavesBy {t : TakenReport} {s : State} {x : RequestRecord}
    (h : (zoneAt s.tables t.heading t.position = none ∧
        (x.bus = t.bus → 0 ≤ distance (s.signalEntry x.signal) x.direction t.position)) ∨
      (∃ z, zoneAt s.tables t.heading t.position = some z ∧
        (z.kind = 1 → x.bus = t.bus → z.signal.toNat ≠ x.signal.val) ∧
        (z.kind ≠ 1 → (∃ j, s.record j = none) ∨ (x.bus = t.bus ∧ z.signal.toNat = x.signal.val)))) :
    ¬ LeavesBy t s x := by
  rintro (⟨hzone, hbus, hpassed⟩ | ⟨z, hzone, hleft⟩)
  · obtain ⟨-, ahead⟩ | ⟨z, hz, -⟩ := h
    · exact absurd (ahead hbus) (not_le.mpr hpassed)
    · rw [hzone] at hz
      cases hz
  · obtain ⟨hnone, -⟩ | ⟨z', hz', out, kept⟩ := h
    · rw [hzone] at hnone
      cases hnone
    · obtain rfl := Option.some.inj (hzone.symm.trans hz')
      obtain ⟨hkind, hbus, hsignal⟩ | ⟨hkind, full, other⟩ := hleft
      · exact out hkind hbus hsignal
      · obtain ⟨j, hj⟩ | own := kept hkind
        · exact full j hj
        · exact other own

theorem updatedBy_finish {t : TakenReport} {s u : State} {x y : RequestRecord} (h : UpdatedBy t s u x y) :
    UpdatedBy t s (finish u) x y := h

/-- A record that a report converts and then updates is not updated as the one it was: it is no longer PROJECTED. -/
theorem updatedBy_of_converted {t : TakenReport} {s u : State} {x y : RequestRecord} (hbus : x.bus = t.bus)
    (hx : x.state = .projected) (hy : y.state ≠ .projected) : UpdatedBy t s u x y :=
  ⟨fun _ h => absurd hx h, fun _ _ h => absurd h hy, fun h => absurd hx (h.resolve_left (absurd hbus)).1⟩

section
variable {t : TakenReport} {route : Fin 32} {touched : List SignalId} {s : State} {i : SlotId} {x : RequestRecord}

/-- What becomes of a record in a report without CANCEL, when its slot still holds a record of its bus at its signal. -/
theorem report_updates (holders : HoldersOk s) (unique : UniqueRecords s) (timers : RecordTimersOk s)
    (hx : s.record i = some x) {y : RequestRecord}
    (hy : (updateAndEvaluate t touched (matchZone t route s).1).record i = some y) (hkey : y.key = x.key) :
    UpdatedBy t s (updateAndEvaluate t touched (matchZone t route s).1) x y := by
  have matched := matched_matchZone t route s
  have keys := updateAndEvaluate_key t touched (matchZone t route s).1 i
  rw [hy, Option.map_some] at keys
  obtain ⟨w, hw, hwy⟩ := Option.map_eq_some_iff.mp keys.symm
  obtain ⟨w', hw', -, e⟩ | ⟨leaves, -⟩ := matchZone_fate t route hx
  · obtain rfl : w = w' := Option.some.inj (hw.symm.trans hw')
    obtain rfl | ⟨hbus, hp, converted⟩ := e
    · have timer := (timers (i, w) ((s.mem_records (i, w)).mpr hx)).1
      refine updatedBy (matched.holders holders) (matched.unique unique) matched.toSameConfig matched.sameHorizons hw
        (fun hheld => ?_) hy
      rw [← Option.not_isSome_iff_eq_none, timer]
      dsimp only
      rw [hheld]
      nofun
    · obtain ⟨q, hq, resettled⟩ := updateAndEvaluate_record (t := t) (touched := touched) (matched.holders holders) hw
      obtain rfl : q = y := Option.some.inj (hq.symm.trans hy)
      refine updatedBy_of_converted hbus hp fun e => converted ?_
      have updated := resettled.projected_iff.mp e
      exact (standing_eq_iff.mp (updated_rest w t _).2.1).2.2.mp updated
  · exact absurd (hwy.trans hkey) (leaves w hw)

theorem report_leaves_open (hx : s.record i = some x) (h : ¬ LeavesBy t s x) :
    ∃ y, (updateAndEvaluate t touched (matchZone t route s).1).record i = some y ∧ y.key = x.key := by
  obtain ⟨w, hw, hwx, -⟩ := (matchZone_fate t route hx).resolve_right fun leaves => h leaves.2
  have keys := updateAndEvaluate_key t touched (matchZone t route s).1 i
  rw [hw, Option.map_some] at keys
  obtain ⟨y, hy, hyw⟩ := Option.map_eq_some_iff.mp keys
  exact ⟨y, hy, hyw.trans hwx⟩

end

/-- Settles O30: the closures of a report, then its update record by record. -/
theorem reportsCloseAndUpdateRecords : Obligations.ReportsCloseAndUpdateRecords := by
  refine ⟨fun p r t route z k i x s hands unique hmode ht hroute hcancel hzone hkind hk hx hbus hsignal =>
    checkOut_closes hands unique hmode ht hroute hcancel hzone hkind hk hx hbus hsignal,
    fun p r t route s hands hmode ht hroute hcancel hzone => outside_closes hands hmode ht hroute hcancel hzone, ?_⟩
  intro p r t route s hands holders unique timers hmode ht hroute hcancel
  obtain ⟨hexec, hconfig, -⟩ := exec_busReport_update hands hmode ht hroute hcancel
  refine ⟨_, hexec, hconfig, fun i x hx => ⟨fun y hy hbus hsignal => ?_, fun hopen => ?_⟩⟩
  · rw [finish_record] at hy
    exact updatedBy_finish (report_updates holders unique timers hx hy (Prod.ext hbus hsignal))
  · rw [finish_record]
    obtain ⟨y, hy, hkey⟩ := report_leaves_open (route := route) hx (not_leavesBy hopen)
    exact ⟨y, hy, congrArg Prod.fst hkey, congrArg Prod.snd hkey⟩

end Sys2Proof.Machine
end

section
/-! A record that a report makes or converts in a slot, with the projection it attempts, through the update and the
evaluations of the same report (R35, R44 to R48, R64, R65). -/

namespace Sys2Proof.Machine

/-! ## The state of a record that joins -/

/-- A record of a report's bus goes into a slot: it has the report's values, and its bus has no other record at its
signal. -/
structure Joins (t : TakenReport) (s : State) (i : SlotId) (w : RequestRecord) : Prop where
  bus : w.bus = t.bus
  heading : w.direction = t.heading
  state : w.state ≠ .projected
  reported : ∃ r : RequestRecord, w.unserved = (r.reported t s).unserved
  entry : w.state = .holding → w.horizonEntry = none
  cursor : ∀ c, w.cursor = some c → s.tables.segment[c].signal.toNat = w.signal.val
  own : ∀ r, s.record i = some r → r.signal = w.signal
  others : ∀ l r, l ≠ i → s.record l = some r → r.bus = w.bus → r.signal ≠ w.signal
  holders : HoldersOk (s.setRecord i (some w))

/-- The state that a record's joining leaves once it has attempted its projection. -/
def joined (t : TakenReport) (i : SlotId) (w : RequestRecord) (s : State) : State :=
  (attemptProjection i t.doorsOpen (s.setRecord i (some w))).1

section
variable {t : TakenReport} {s : State} {i : SlotId} {w : RequestRecord} {touched : List SignalId}

theorem joined_record (t : TakenReport) (s : State) (i : SlotId) (w : RequestRecord) :
    (joined t i w s).record i = some w :=
  attemptProjection_occupied i t.doorsOpen (s.record_setRecord_self i (some w))

theorem onlyRecords_joined (t : TakenReport) (s : State) (i : SlotId) (w : RequestRecord) :
    OnlyRecords s (joined t i w s) := by
  have set := (OnlyRecords.refl s).setRecord i (some w)
  obtain e | ⟨r, next, m, d, j, -, -, -, e⟩ := attemptProjection_cases i t.doorsOpen (s.setRecord i (some w)) <;>
    rw [joined, e]
  · exact set
  · exact set.setRecord _ _

theorem Joins.holdersOk (h : Joins t s i w) : HoldersOk (joined t i w s) :=
  (matched_attemptProjection i t.doorsOpen (s.setRecord i (some w))).holders h.holders

/-- What the report makes of the record: it takes the same report once more, which changes it in its fields of service
alone, and then stands by its horizon (R34, R61). -/
theorem Joins.settles (h : Joins t s i w) :
    ∃ x, (updateAndEvaluate t touched (joined t i w s)).record i = some x ∧ x.unserved = w.unserved ∧
      x.lapsed = w.lapsed ∧ PlacedByHorizon s x ∧
      ((s.ctx w.signal).holder ≠ some i →
        ((updateAndEvaluate t touched (joined t i w s)).ctx w.signal).holder ≠ some i → x.account = w.account) := by
  have only := onlyRecords_joined t s i w
  have record := joined_record t s i w
  have updated : w.updated t (joined t i w s) = w.refreshed t (joined t i w s) := by
    rw [RequestRecord.updated, if_pos h.bus, if_neg h.state, if_pos h.heading]
  obtain ⟨r, hr⟩ := h.reported
  obtain ⟨x, hx, resettled⟩ := updateAndEvaluate_record (t := t) (touched := touched) h.holdersOk record
  have unserved : x.unserved = w.unserved := by
    rw [resettled.unserved, updated, refreshed_again h.state only.keeps hr]
  have placed := updateAndEvaluate_placed h.holdersOk record h.bus h.state h.heading h.entry hx
  refine ⟨x, hx, unserved, resettled.lapsed.trans (updated_rest w t _).2.2.1, placed.congr only.sameHorizons.symm, ?_⟩
  intro before after
  rw [← only.ctx] at before
  have unheld := updateAndEvaluate_unheld h.holdersOk record before after
  obtain rfl := Option.some.inj (hx.symm.trans unheld)
  exact (updated_rest w t _).2.2.2

/-! ## Its projection (R44 to R46) -/

theorem updated_projected {r : RequestRecord} (hbus : r.bus = t.bus) (hp : r.state = .projected) :
    r.updated t s = r.reestimated t (refreshRecords t s).1 := by
  rw [RequestRecord.updated, if_pos hbus, if_pos hp]

theorem unserved_route {x y : RequestRecord} (h : y.unserved = x.unserved) :
    y.cursor = x.cursor ∧ y.routeIndex = x.routeIndex := by
  have e := congrArg (fun r : RequestRecord => (r.cursor, r.routeIndex)) h
  exact Prod.mk.inj e

/-- With the record in its slot a projection opens to it as it did before, but not to its own signal. -/
theorem Joins.projectionOpen_iff (h : Joins t s i w) {x : RequestRecord} (hx : x.unserved = w.unserved)
    {next : Fin 128} {m : SignalId} {d : Direction} :
    ProjectionOpen (s.setRecord i (some w)) w next m d ↔ ProjectionOpen s x next m d ∧ m ≠ w.signal := by
  have records : (∀ l y, (s.setRecord i (some w)).record l = some y → y.bus = w.bus → y.signal ≠ m) ↔
      (∀ l y, s.record l = some y → y.bus = w.bus → y.signal ≠ m) ∧ m ≠ w.signal := by
    constructor
    · intro free
      have own : m ≠ w.signal := (free i w (s.record_setRecord_self i (some w)) rfl).symm
      refine ⟨fun l y hy hbus => ?_, own⟩
      by_cases hl : l = i
      · subst hl
        rw [h.own y hy]
        exact own.symm
      · exact free l y ((s.record_setRecord_ne _ hl).trans hy) hbus
    · rintro ⟨free, own⟩ l y hy hbus
      by_cases hl : l = i
      · rw [hl, State.record_setRecord_self] at hy
        cases hy
        exact own.symm
      · exact free l y ((s.record_setRecord_ne _ hl).symm.trans hy) hbus
  obtain ⟨cursor, -⟩ := unserved_route hx
  have opens : ProjectionOpen (s.setRecord i (some w)) w next m d ↔
      (∃ c : Fin 128, w.cursor = some c ∧ s.tables.segment[c].ends = 0 ∧
        s.tables.segment[c].next.toNat = next.val) ∧
      s.tables.segment[next].signal.toNat = m.val ∧ directionOf s.tables.segment[next].direction = some d ∧
      (s.signalEntry m).inUse ≠ 0 ∧ (s.signalEntry m).projects d = true ∧
      (s.ctx m).state ≠ .suspended ∧ (s.ctx m).state ≠ .unconfigured ∧
      ∀ l y, (s.setRecord i (some w)).record l = some y → y.bus = w.bus → y.signal ≠ m := Iff.rfl
  rw [opens, records, ProjectionOpen, cursor, unserved_bus hx]
  tauto

theorem lowestFree_occupied {x : RequestRecord} (h : s.record i = some x) (j : SlotId) :
    LowestFree s (some i) j ↔ LowestFree s none j := by
  have present : (s.record i).isSome = true := by rw [h]; rfl
  constructor
  · rintro ⟨free, -, before⟩
    refine ⟨free, nofun, fun l hl _ => ?_⟩
    by_cases hli : l = i
    · exact hli ▸ present
    · exact before l hl fun e => hli (Option.some.inj e).symm
  · rintro ⟨free, -, before⟩
    refine ⟨free, fun e => ?_, fun l hl _ => before l hl nofun⟩
    rw [Option.some.inj e, free] at present
    cases present

theorem projectionExpiry_movedBehind {q : RequestRecord} {st : State} {m : SignalId} (hm : q.signal = m)
    (hq : q.projectionExpiry = some (projectionExpiryTime st m q.arrival)) (o : Option RequestRecord) :
    (q.movedBehind o st).projectionExpiry = some (projectionExpiryTime st m (q.movedBehind o st).arrival) := by
  subst hm
  unfold RequestRecord.movedBehind
  split
  · rfl
  · exact hq

/-- A projected record that the report re-estimates at once, and evaluates, is still projected from the record that made
it. -/
theorem projectedFrom_of_reestimated {x q : RequestRecord} {next : Fin 128} {m : SignalId} {d : Direction}
    {s1 st v : State} (hx : x.unserved = w.unserved) (hs1 : SameConfig s s1) (hst : SameConfig s st)
    (resettled : Resettled v ((projectedRecord w next m d t.doorsOpen s1).reestimated t st) q) :
    ProjectedFrom s x next m d t.doorsOpen q := by
  have same : ProjectedFrom s x = ProjectedFrom s w := by
    have e := congrArg (ProjectedFrom s) hx
    exact e
  have hp : (projectedRecord w next m d t.doorsOpen s1).state = .projected := rfl
  rw [reestimated_eq hp] at resettled
  have expiry := projectionExpiry_movedBehind (q := projectedRecord w next m d t.doorsOpen s1) (st := st) rfl
    (by simp only [projectionExpiryTime, State.signalEntry, hst.tables, ← hs1.tables]; rfl)
    (precedingRecord (projectedRecord w next m d t.doorsOpen s1) st)
  obtain ⟨hstate, hentry⟩ := resettled.place.resolve_right fun h => h.1 rfl
  have unserved := resettled.unserved
  have scored : penalisedScore st q = penalisedScore st (projectedRecord w next m d t.doorsOpen s1) := by
    have e := congrArg (penalisedScore st) unserved
    exact e
  simp only [RequestRecord.unserved, RequestRecord.mk.injEq] at unserved
  obtain ⟨bus, routeIndex, routeNumber, signal, direction, cursor, position, speed, lateness, occupancy, nominal, dwell,
    arrival, score, age, -, projection, -, pending, doors, -, served, -⟩ := unserved
  rw [same]
  refine ⟨bus, routeIndex, routeNumber, signal, direction, hstate, cursor, position, speed, lateness, occupancy, nominal,
    dwell, pending, resettled.lapsed, served, doors, hentry, ?_, ?_, ?_⟩
  · rw [projection, expiry, graceExpiry, arrival, signal, projectionExpiryTime, State.signalEntry, hst.tables]
    rfl
  · have penalised : penalisedScore st q = penalisedScore s q := by
      simp only [penalisedScore, State.signalEntry, hst.tables]
    exact score.trans (scored.symm.trans penalised)
  · rw [age, ← hs1.clock, ← hs1.tables]
    rfl

/-- The state that a joining record leaves when its projection opens and a slot is free. -/
theorem Joins.joined_open (h : Joins t s i w) {x : RequestRecord} (hx : x.unserved = w.unserved) {next : Fin 128}
    {m : SignalId} {d : Direction} {j : SlotId} (hopen : ProjectionOpen s x next m d) (hm : m ≠ w.signal)
    (hj : LowestFree s (some i) j) :
    joined t i w s = (s.setRecord i (some w)).setRecord j
      (some (projectedRecord w next m d t.doorsOpen (s.setRecord i (some w)))) := by
  have attempt := attemptProjection_open (s.record_setRecord_self i (some w))
    ((h.projectionOpen_iff hx).mpr ⟨hopen, hm⟩) (freeSlot_setRecord_iff.mpr hj) t.doorsOpen
  rw [joined, attempt]

/-- No other record than the joining one is then of its bus at its signal. -/
theorem Joins.record_unique (h : Joins t s i w) {j l : SlotId} {q r : RequestRecord} (hq : q.signal ≠ w.signal)
    (hr : ((s.setRecord i (some w)).setRecord j (some q)).record l = some r) (hkey : r.key = w.key) : r = w := by
  obtain ⟨hbus, hsignal⟩ := Prod.mk.inj hkey
  rw [State.record_setRecord] at hr
  split at hr
  · cases hr
    exact absurd hsignal hq
  · rw [State.record_setRecord] at hr
    split at hr
    · exact (Option.some.inj hr).symm
    · next hl => exact absurd hsignal (h.others l r hl hr hbus)

/-- The joining record keeps its arrival while the report refreshes it. -/
theorem Joins.arrival_refreshed (h : Joins t s i w) {j l : SlotId} {q y : RequestRecord} (hq : q.signal ≠ w.signal)
    (hjoined : joined t i w s = (s.setRecord i (some w)).setRecord j (some q))
    (hy : (refreshRecords t (joined t i w s)).1.record l = some y) (hkey : y.key = w.key) : y.arrival = w.arrival := by
  rw [refreshRecords_record, Option.map_eq_some_iff] at hy
  obtain ⟨r, hr, hry⟩ := hy
  have unique : r.key = w.key → r = w := h.record_unique hq (hjoined ▸ hr)
  split at hry
  · next hcond =>
    simp only [Bool.and_eq_true, bne_iff_ne] at hcond
    obtain ⟨⟨-, hp⟩, -⟩ := hcond
    have key : (r.refreshed t (joined t i w s)).key = r.key := by
      have e := congrArg RequestRecord.key (refreshed_unserved hp t (joined t i w s))
      exact e
    obtain rfl := unique (key.symm.trans ((congrArg RequestRecord.key hry).trans hkey))
    obtain ⟨r0, hr0⟩ := h.reported
    rw [← hry]
    exact unserved_arrival (refreshed_again h.state (onlyRecords_joined t s i r).keeps hr0)
  · rw [← hry] at hkey ⊢
    rw [unique hkey]

/-- The arrival of the projected record comes from the joining record's, whether the report re-estimates it or not, when
the joining record's segment is the one before its own (R46, R48). -/
theorem Joins.projected_arrival (h : Joins t s i w) {next : Fin 128} {j : SlotId} {q : RequestRecord}
    (hp : q.state = .projected) (hroute : q.routeIndex = w.routeIndex) (hbus : q.bus = w.bus)
    (hcursor : q.cursor = some next) (hq : q.signal ≠ w.signal)
    (harrival : q.arrival = projectedArrival s.clock w.arrival s.tables.segment[next])
    (hjoined : joined t i w s = (s.setRecord i (some w)).setRecord j (some q))
    (hbehind : precedingSegment s.tables w.routeIndex next = w.cursor) :
    (q.reestimated t (refreshRecords t (joined t i w s)).1).arrival =
      projectedArrival s.clock w.arrival s.tables.segment[next] := by
  have keeps := ((onlyRecords_joined t s i w).trans (onlyRecords_refreshRecords t _)).keeps
  rw [reestimated_eq hp]
  cases hy : precedingRecord q (refreshRecords t (joined t i w s)).1 with
  | none => exact harrival
  | some y =>
    obtain ⟨c, g, l, hc, hg, hl, hybus, -, hsegment, -⟩ := precedes_of_precedingRecord hy
    obtain rfl : next = c := Option.some.inj (hcursor.symm.trans hc)
    rw [keeps.tables] at hg hsegment
    have cursor : w.cursor = some g := hbehind.symm.trans (hroute ▸ hg)
    have signal : y.signal = w.signal := Fin.ext (hsegment.symm.trans (h.cursor g cursor))
    have arrival := h.arrival_refreshed hq hjoined hl (Prod.ext (hybus.trans hbus) signal)
    refine (movedBehind_some hcursor _).1.trans ?_
    rw [arrival, keeps.clock, keeps.tables]

/-- Where the joining record's projection opens and a slot is free, the report leaves a record projected from it, and no
other slot has been filled. -/
theorem Joins.projects (h : Joins t s i w) {x : RequestRecord} (hx : x.unserved = w.unserved) {next : Fin 128}
    {m : SignalId} {d : Direction} {j : SlotId} (hopen : ProjectionOpen s x next m d) (hm : m ≠ w.signal)
    (hj : LowestFree s (some i) j) :
    ∃ q, (updateAndEvaluate t touched (joined t i w s)).record j = some q ∧ ProjectedFrom s x next m d t.doorsOpen q ∧
      (precedingSegment s.tables x.routeIndex next = x.cursor →
        IsChainedArrival s.clock x.arrival s.tables.segment[next] q.arrival) ∧
      ∀ l, l ≠ i → l ≠ j →
        ((updateAndEvaluate t touched (joined t i w s)).record l).isSome = (s.record l).isSome := by
  have hjoined := h.joined_open hx hopen hm hj
  have record : (joined t i w s).record j =
      some (projectedRecord w next m d t.doorsOpen (s.setRecord i (some w))) := by
    rw [hjoined, State.record_setRecord_self]
  obtain ⟨q, hq, resettled⟩ := updateAndEvaluate_record (t := t) (touched := touched) h.holdersOk record
  rw [updated_projected (by exact h.bus) rfl] at resettled
  have keeps := ((onlyRecords_joined t s i w).trans (onlyRecords_refreshRecords t _)).keeps
  refine ⟨q, hq, projectedFrom_of_reestimated hx (setRecord_keeps i (some w) s) keeps resettled, fun hbehind => ?_,
    fun l hl hlj => ?_⟩
  · obtain ⟨cursor, route⟩ := unserved_route hx
    rw [cursor, route] at hbehind
    have arrival := h.projected_arrival (q := projectedRecord w next m d t.doorsOpen (s.setRecord i (some w)))
      rfl rfl rfl rfl hm rfl hjoined hbehind
    rw [unserved_arrival resettled.unserved, arrival, unserved_arrival hx]
    exact isChainedArrival_projectedArrival _ _ _
  · rw [updateAndEvaluate_isSome, hjoined, State.record_setRecord_ne _ _ hlj, State.record_setRecord_ne _ _ hl]

/-- Where no projection opens, or no other slot is free, no other slot has been filled. -/
theorem Joins.no_projection (h : Joins t s i w) {x : RequestRecord} (hx : x.unserved = w.unserved)
    (hnone : (∀ next m d, ProjectionOpen s x next m d → m = w.signal) ∨ ∀ j, ¬ LowestFree s (some i) j) {l : SlotId}
    (hl : l ≠ i) : ((updateAndEvaluate t touched (joined t i w s)).record l).isSome = (s.record l).isSome := by
  have closed : (∀ next m d, ¬ ProjectionOpen (s.setRecord i (some w)) w next m d) ∨
      (s.setRecord i (some w)).freeSlot = none := by
    refine hnone.imp (fun closed next m d hopen => ?_) fun full => ?_
    · obtain ⟨hopen, hm⟩ := (h.projectionOpen_iff hx).mp hopen
      exact hm (closed next m d hopen)
    · exact Option.eq_none_iff_forall_ne_some.mpr fun j hj => full j (freeSlot_setRecord_iff.mp hj)
  have attempt := attemptProjection_closed (s.record_setRecord_self i (some w)) closed t.doorsOpen
  rw [updateAndEvaluate_isSome, joined, attempt, State.record_setRecord_ne _ _ hl]

end

end Sys2Proof.Machine
end

section
/-! A check-in that makes a record (R32, R56 to R59, R64). -/

namespace Sys2Proof.Machine

section
variable {t : TakenReport} {s : State} {i : SlotId}

/-- The fields of a record that has taken a report, but for its fields of service. -/
theorem reported_fields {r x : RequestRecord} (h : x.unserved = (r.reported t s).unserved) :
    (x.bus = r.bus ∧ x.routeIndex = r.routeIndex ∧ x.routeNumber = r.routeNumber ∧ x.signal = r.signal ∧
      x.direction = r.direction ∧ x.cursor = r.cursor) ∧
    (x.position = t.position ∧ x.speed = t.speed ∧ x.latenessSec = t.latenessSec ∧ x.occupancy = t.occupancy ∧
      x.nominalSpeed = r.nominalSpeed ∧ x.stopDwell = r.stopDwell ∧ x.doorsOpen = t.doorsOpen) ∧
    x.stopPending = (r.stopPending && !t.doorsOpen) ∧ x.served = r.served ∧ x.projectionExpiry = r.projectionExpiry ∧
    x.arrival = arrivalTime s x ∧
    x.score = baseScore s.tables.global s.tables.route[r.routeIndex] t.latenessSec t.occupancy ∧
    x.ageExpiry = later s.clock (10 * s.tables.global.holdTime.toNat) := by
  have own : arrivalTime s x = (r.reported t s).arrival := by
    have e := congrArg (arrivalTime s) h
    exact e
  simp only [RequestRecord.unserved, RequestRecord.mk.injEq] at h
  obtain ⟨bus, routeIndex, routeNumber, signal, direction, cursor, position, speed, lateness, occupancy, nominal, dwell,
    arrival, score, age, -, projection, -, pending, doors, -, served, -⟩ := h
  exact ⟨⟨bus, routeIndex, routeNumber, signal, direction, cursor⟩,
    ⟨position, speed, lateness, occupancy, nominal, dwell, doors⟩, pending, served, projection, arrival.trans own.symm,
    score, age⟩

theorem stopPending_iff {dwell : Nat} {doors : Bool} :
    (decide (0 < dwell) && !doors) = true ↔ 0 < dwell ∧ doors = false := by
  simp

theorem names_signal {g : SegmentEntry} {k : SignalId} {d : Direction} (h : g.names k d = true) :
    g.signal.toNat = k.val := by
  rw [SegmentEntry.names, Bool.and_eq_true, beq_iff_eq] at h
  exact h.1

theorem placeCursor_signal {tables : TableStore} {route : Fin 32} {k : SignalId} {d : Direction} {c : Fin 128}
    (h : placeCursor tables route k d = some c) : tables.segment[c].signal.toNat = k.val :=
  names_signal (List.find?_some (p := fun i : Fin 128 => tables.segment[i].names k d) h)

/-- A record that a report makes in a free slot, of a bus without a record at the signal, joins there. -/
theorem joins_createdRecord (z : ZoneEntry) (route : Fin 32) {k : SignalId} (hs : HoldersOk s)
    (hi : s.record i = none) (hnew : s.findRecord t.bus k = none) : Joins t s i (createdRecord t k z route s) := by
  obtain ⟨⟨bus, -, -, signal, direction, cursor⟩, -⟩ := reported_fields (createdRecord_unserved t k z route s)
  have unheld : (createdRecord t k z route s).state ≠ .projected ∧ (createdRecord t k z route s).state ≠ .holding := by
    obtain e | e := createdRecord_state t k z route s <;> rw [e] <;> decide
  refine ⟨bus, direction, unheld.1, ⟨_, createdRecord_unserved t k z route s⟩, fun h => absurd h unheld.2, fun c hc => ?_,
    fun r hr => ?_, fun l r _ hr hbus => ?_, holdersOk_setRecord_free hs hi unheld.2⟩
  · rw [cursor] at hc
    rw [signal]
    exact placeCursor_signal hc
  · rw [hi] at hr
    cases hr
  · rw [signal]
    exact State.findRecord_none.mp hnew l r hr (hbus.trans bus)

theorem joined_other {w y : RequestRecord} {j : SlotId} (hj : j ≠ i) (hy : s.record j = some y) :
    (joined t i w s).record j = some y :=
  attemptProjection_occupied i t.doorsOpen ((s.record_setRecord_ne _ hj).trans hy)

/-- What else a created record has before the evaluation (R59, R64). -/
theorem createdRecord_fresh (k : SignalId) (z : ZoneEntry) (route : Fin 32) (s : State) :
    PlacedByHorizon s (createdRecord t k z route s) ∧ (createdRecord t k z route s).lapsed = false ∧
      (createdRecord t k z route s).account = (none, false, 0, 0, none) :=
  ⟨placedByHorizon_byHorizon rfl, byHorizon_lapsed _ _ _, byHorizon_account _ _ _⟩

theorem account_eq_iff {x : RequestRecord} {a : Option ServiceOutcome} {b : Bool} {c d : Nat}
    {e : Option (CallAction × Nat)} :
    x.account = (a, b, c, d, e) ↔
      x.lastOutcome = a ∧ x.partialFlag = b ∧ x.committed = c ∧ x.refreshCount = d ∧ x.lastCall = e := by
  simp only [RequestRecord.account, Prod.mk.injEq]

end

/-- A report in a CHECK_IN zone of a signal open to check-in, with no update or evaluation yet. -/
theorem matchZone_checkIn {t : TakenReport} {z : ZoneEntry} {k : SignalId} {s : State}
    (hzone : zoneAt s.tables t.heading t.position = some z) (hkind : z.kind = 0) (hk : z.signal.toNat = k.val)
    (hconfigured : (s.ctx k).state ≠ .unconfigured) (hrunning : (s.ctx k).state ≠ .suspended) (route : Fin 32) :
    matchZone t route s = checkIn t k z route s := by
  rw [matchZone_zone hzone hk, inZone_checkIn (by rw [hkind]; decide) ((admits_iff _).mpr ⟨hrunning, hconfigured⟩)]

/-- The event of a report without CANCEL, with the records, the contexts and the reports that it leaves. -/
theorem exec_busReport_leaves {p : PortId} {r : BusReport} {t : TakenReport} {route : Fin 32} {s m : State}
    {touched : List SignalId} (hands : HandsOn s p) (hmode : s.mode = .active) (ht : taken r = some t)
    (hroute : resolveRoute s.tables t.route = some route) (hcancel : t.cancel = false)
    (hmatch : matchZone t route s = (m, touched)) :
    ∃ u : State, exec (.busReport p r) s = .next u ∧ SameConfig s u ∧
      (∀ q : PortId, SameReceiver (s.port q) (u.port q)) ∧ u = finish (updateAndEvaluate t touched m) ∧
      (∀ l, u.record l = (updateAndEvaluate t touched m).record l) ∧
      (∀ k, u.ctx k = (updateAndEvaluate t touched m).ctx k) ∧ u.reports = m.reports := by
  obtain ⟨hexec, hconfig, hreceiver⟩ := exec_busReport_update hands hmode ht hroute hcancel
  rw [hmatch] at hexec hconfig hreceiver
  exact ⟨_, hexec, hconfig, hreceiver, rfl, finish_record _, finish_ctx _,
    (finish_reports _).trans (updateAndEvaluate_reports t touched m)⟩

/-- Settles O27: the created record joins in the lowest free slot, and the same report then updates and evaluates. -/
theorem checkInCreatesRecord : Obligations.CheckInCreatesRecord := by
  intro p r t route z k i s hands holders hmode ht hroute hcancel hzone hkind hk hconfigured hrunning hnew hfree
  have created := createRecord_eq i t k z route s
  have hmatch := (matchZone_checkIn hzone hkind hk hconfigured hrunning route).trans (checkIn_new hnew hfree)
  rw [created] at hmatch
  obtain ⟨u, hexec, hconfig, hreceiver, -, records, ctxs, -⟩ :=
    exec_busReport_leaves (m := joined t i _ s) hands hmode ht hroute hcancel hmatch
  have empty := s.freeSlot_free hfree
  have joins := joins_createdRecord z route holders empty hnew
  have made := createdRecord_unserved t k z route s
  have waiting := createdRecord_state t k z route s
  obtain ⟨placed, notLapsed, account⟩ := createdRecord_fresh (t := t) k z route s
  obtain ⟨-, signal⟩ := Prod.mk.inj (createdRecord_key t k z route s)
  generalize createdRecord t k z route s = w at *
  generalize k :: (attemptProjection i t.doorsOpen (s.setRecord i (some w))).2 = touched at *
  obtain ⟨x, hx, unserved, lapsed, xplaced, unheld⟩ := joins.settles (touched := touched)
  obtain ⟨⟨bus, routeIndex, routeNumber, xsignal, direction, cursor⟩,
    ⟨position, speed, lateness, occupancy, nominal, dwell, doors⟩, pending, served, projection, arrival, score, age⟩ :=
    reported_fields (unserved.trans made)
  have own : x.signal = k := xsignal
  refine ⟨u, x, hexec, hconfig, hreceiver, (records i).trans hx, bus, routeIndex, routeNumber, own, direction, cursor,
    position, speed, lateness, occupancy, nominal, dwell, doors, ?_, lapsed.trans notLapsed, served, projection, ?_, score,
    age, ?_, ?_, ⟨w, created, unserved.symm, ?_, placed, notLapsed, account_eq_iff.mp account⟩, fun held => ?_,
    fun j y hy hother => ?_, fun next m d j hopen hm hj => ?_, fun hnone l hl => ?_⟩
  · rw [pending]
    exact stopPending_iff
  · rw [arrival, arrivalTime, own]
  · rw [← own]
    exact xplaced.1
  · rw [← own]
    exact xplaced.2
  · obtain e | e := waiting <;> rw [e] <;> decide
  · rw [ctxs, ← signal] at held
    exact account_eq_iff.mp ((unheld (holders.holder_free empty _) held).trans account)
  · have hj : j ≠ i := by
      rintro rfl
      rw [empty] at hy
      cases hy
    have record : (joined t i w s).record j = some y := joined_other hj hy
    rw [records, updateAndEvaluate_other, record, Option.map_some]
    intro q hq
    obtain rfl := Option.some.inj (record.symm.trans hq)
    exact hother
  · obtain ⟨q, hq, projected, chained, others⟩ := joins.projects (touched := touched) unserved hopen (signal ▸ hm) hj
    rw [routeIndex] at chained
    exact ⟨q, (records j).trans hq, projected, chained, fun l hl hlj => by rw [records]; exact others l hl hlj⟩
  · rw [records]
    exact joins.no_projection unserved (signal ▸ hnone) hl

end Sys2Proof.Machine
end

section
/-! A check-in of a bus that has a record at the signal, and a check-in against a full table (R35, R43, R50, R65 to
R69). -/

namespace Sys2Proof.Machine

/-! ## The record of lowest score (R66, R67) -/

theorem foldl_keepLower_stays {l : List (SlotId × RequestRecord)} {x : SlotId × RequestRecord}
    (h : ∀ y ∈ l, x.2.score < y.2.score) : l.foldl keepLower (some x) = some x := by
  induction l with
  | nil => rfl
  | cons y l ih =>
    have higher : keepLower (some x) y = some x := if_neg (Nat.not_le.mpr (h y List.mem_cons_self))
    rw [List.foldl_cons, higher]
    exact ih fun z hz => h z (List.mem_cons_of_mem y hz)

/-- Among records in ascending order of slot the one of lowest score is chosen, a tie going to the highest slot. -/
theorem lowestScored_eq_some {l : List (SlotId × RequestRecord)} {x : SlotId × RequestRecord}
    (hl : l.Pairwise fun a b => a.1 < b.1) (hx : x ∈ l)
    (hlowest : ∀ y ∈ l, x.2.score < y.2.score ∨ (x.2.score = y.2.score ∧ y.1 ≤ x.1)) : lowestScored l = some x := by
  obtain ⟨a, b, rfl⟩ := List.append_of_mem hx
  have chosen : keepLower (a.foldl keepLower none) x = some x := by
    cases hlow : a.foldl keepLower none with
    | none => rfl
    | some y =>
      have hy := (foldl_keepLower_mem hlow).resolve_left nofun
      refine if_pos ?_
      obtain h | h := hlowest y (List.mem_append_left _ hy)
      · exact h.le
      · exact h.1.le
  rw [lowestScored_eq, List.foldl_append, List.foldl_cons, chosen]
  refine foldl_keepLower_stays fun y hy => ?_
  have after : x.1 < y.1 := (List.pairwise_cons.mp (List.pairwise_append.mp hl).2.1).1 y hy
  exact (hlowest y (List.mem_append_right _ (List.mem_cons_of_mem x hy))).resolve_right fun h => absurd h.2 (not_le.mpr after)

/-- The records stand in ascending order of slot. -/
theorem State.pairwise_records (s : State) : s.records.Pairwise fun a b => a.1 < b.1 := by
  have slots : (s.records.map Prod.fst).Pairwise (· < ·) := by
    rw [s.records_slots]
    exact (List.pairwise_lt_finRange 40).filter _
  exact List.pairwise_map.mp slots

/-- The record of lowest score among those that meet a condition. -/
theorem lowestScored_records {s : State} {p : SlotId × RequestRecord → Bool} {i : SlotId} {x : RequestRecord}
    (hx : s.record i = some x) (hp : p (i, x) = true)
    (hlowest : ∀ j y, s.record j = some y → p (j, y) = true → x.score < y.score ∨ (x.score = y.score ∧ j ≤ i)) :
    lowestScored (s.records.filter p) = some (i, x) := by
  refine lowestScored_eq_some (s.pairwise_records.filter p) (List.mem_filter.mpr ⟨(s.mem_records _).mpr hx, hp⟩) ?_
  intro y hy
  obtain ⟨hmem, hpy⟩ := List.mem_filter.mp hy
  exact hlowest y.1 y.2 ((s.mem_records y).mp hmem) hpy

/-! ## A check-in against a full table (R66, R67, R68) -/

section
variable {t : TakenReport} {k : SignalId} {z : ZoneEntry} {route : Fin 32} {s : State} {i : SlotId} {x : RequestRecord}

theorem lowestScored_projected (hx : s.record i = some x) (hp : x.state = .projected)
    (hlowest : ∀ j y, s.record j = some y → y.state = .projected → x.score < y.score ∨ (x.score = y.score ∧ j ≤ i)) :
    lowestScored s.projectedRecords = some (i, x) :=
  lowestScored_records hx (beq_iff_eq.mpr hp) fun j y hy hpy => hlowest j y hy (beq_iff_eq.mp hpy)

theorem lowestScored_projected_none (h : ∀ j y, s.record j = some y → y.state ≠ .projected) :
    lowestScored s.projectedRecords = none := by
  have none_projected : s.projectedRecords = [] := List.filter_eq_nil_iff.mpr fun y hy hp =>
    h y.1 y.2 ((s.mem_records y).mp hy) (beq_iff_eq.mp hp)
  rw [none_projected]
  rfl

theorem lowestScored_nonHolders (hx : s.record i = some x) (hunheld : (s.ctx x.signal).holder ≠ some i)
    (hlowest : ∀ j y, s.record j = some y → (s.ctx y.signal).holder ≠ some j →
      x.score < y.score ∨ (x.score = y.score ∧ j ≤ i)) : lowestScored s.nonHolders = some (i, x) :=
  lowestScored_records hx (bne_iff_ne.mpr hunheld) fun j y hy hpy => hlowest j y hy (bne_iff_ne.mp hpy)

/-- The record displaced by a check-in against a full table: the PROJECTED one of lowest score, and with none PROJECTED the
non-holder of lowest score below the newcomer's. -/
theorem checkInFull_displaces (hx : s.record i = some x)
    (h : (x.state = .projected ∧ ∀ j y, s.record j = some y → y.state = .projected →
        x.score < y.score ∨ (x.score = y.score ∧ j ≤ i)) ∨
      ((∀ j y, s.record j = some y → y.state ≠ .projected) ∧ (s.ctx x.signal).holder ≠ some i ∧
        x.score < newcomerScore t route s ∧ ∀ j y, s.record j = some y → (s.ctx y.signal).holder ≠ some j →
          x.score < y.score ∨ (x.score = y.score ∧ j ≤ i))) :
    checkInFull t k z route s = displaceAndCreate (i, x) t k z route s := by
  unfold checkInFull
  obtain ⟨hp, hlowest⟩ | ⟨hnone, hunheld, hbelow, hlowest⟩ := h
  · rw [lowestScored_projected hx hp hlowest]
  · rw [lowestScored_projected_none hnone, lowestScored_nonHolders hx hunheld hlowest]
    exact if_pos hbelow

/-- Otherwise the newcomer is refused, with its report. -/
theorem checkInFull_refuses (hx : s.record i = some x) (hnone : ∀ j y, s.record j = some y → y.state ≠ .projected)
    (hunheld : (s.ctx x.signal).holder ≠ some i) (habove : newcomerScore t route s ≤ x.score)
    (hlowest : ∀ j y, s.record j = some y → (s.ctx y.signal).holder ≠ some j →
      x.score < y.score ∨ (x.score = y.score ∧ j ≤ i)) :
    checkInFull t k z route s =
      (writeReport (.tableFull t.bus t.route k t.heading (newcomerScore t route s) x.score) s, []) := by
  unfold checkInFull
  rw [lowestScored_projected_none hnone, lowestScored_nonHolders hx hunheld hlowest]
  exact if_neg (Nat.not_lt.mpr habove)

theorem checkIn_against_full (hfull : ∀ j, (s.record j).isSome = true)
    (hnew : ∀ j y, s.record j = some y → y.bus = t.bus → y.signal ≠ k) :
    s.findRecord t.bus k = none ∧ checkIn t k z route s = checkInFull t k z route s := by
  have absent := State.findRecord_none.mpr hnew
  exact ⟨absent, checkIn_full absent (freeSlot_eq_none_iff.mpr hfull)⟩

/-! ## A converted record (R65) -/

theorem settleCursor_signal {tables : TableStore} {cursor : Option (Fin 128)} {d : Direction} {c : Fin 128}
    (h : settleCursor tables route cursor k d = some c) : tables.segment[c].signal.toNat = k.val := by
  unfold settleCursor at h
  split at h
  · split at h
    · next g hnames =>
      obtain rfl := Option.some.inj h
      exact names_signal hnames
    · exact placeCursor_signal h
  · exact placeCursor_signal h

/-- What the state of a converted record leaves (R59, R65). -/
theorem convertedRecord_rest (i : SlotId) (x : RequestRecord) (t : TakenReport) (z : ZoneEntry) (s : State) :
    (convertedRecord i x t z s).lapsed = x.lapsed ∧ (convertedRecord i x t z s).account = x.account := by
  unfold convertedRecord
  split
  · rw [held_of_checkIn (by exact nofun)]
    exact ⟨rfl, rfl⟩
  · exact ⟨byHorizon_lapsed _ _ _, byHorizon_account _ _ _⟩

/-- A converted record that was its signal's holder holds without a horizon entry time, and another stands by its horizon
(R50, R59). -/
theorem convertedRecord_place (i : SlotId) (x : RequestRecord) (t : TakenReport) (z : ZoneEntry) (s : State) :
    ((s.ctx x.signal).holder = some i →
      (convertedRecord i x t z s).state = .holding ∧ (convertedRecord i x t z s).horizonEntry = none) ∧
    ((s.ctx x.signal).holder ≠ some i →
      (convertedRecord i x t z s).state ≠ .holding ∧ PlacedByHorizon s (convertedRecord i x t z s)) := by
  have holds := (convertedRecord_state i x t z s).2
  refine ⟨fun h => ⟨holds.mpr h, ?_⟩, fun h => ⟨fun e => h (holds.mp e), ?_⟩⟩
  · rw [convertedRecord, if_pos h, held_of_checkIn (by exact nofun)]
  · rw [convertedRecord, if_neg h]
    exact placedByHorizon_byHorizon rfl

theorem joins_convertedRecord (z : ZoneEntry) (hs : HoldersOk s) (hu : UniqueRecords s) (hx : s.record i = some x)
    (hbus : x.bus = t.bus) : Joins t s i (convertedRecord i x t z s) := by
  obtain ⟨⟨bus, -, -, signal, direction, cursor⟩, -⟩ := reported_fields (convertedRecord_unserved i x t z s)
  have key := convertedRecord_key i x t z s
  obtain ⟨hstate, hholding⟩ := convertedRecord_state i x t z s
  refine ⟨bus.trans hbus, direction, hstate, ⟨_, convertedRecord_unserved i x t z s⟩, fun h => ?_, fun c hc => ?_,
    fun r hr => ?_, fun l r hl hr hrbus hrsignal => hl ?_, holdersOk_setRecord_same hs hx signal hholding⟩
  · exact ((convertedRecord_place i x t z s).1 (hholding.mp h)).2
  · rw [cursor] at hc
    rw [signal]
    exact settleCursor_signal hc
  · obtain rfl := Option.some.inj (hr.symm.trans hx)
    exact signal.symm
  · exact (uniqueRecords_iff s).mp hu l i r x hr hx ((Prod.ext hrbus hrsignal).trans key)

end

/-- No projection opens to the signal of a record of the bus (R44). -/
theorem projectionOpen_signal {s : State} {x y : RequestRecord} {next : Fin 128} {m : SignalId} {d : Direction}
    {i : SlotId} (hopen : ProjectionOpen s y next m d) (hx : s.record i = some x) (hbus : x.bus = y.bus) :
    x.signal ≠ m := by
  obtain ⟨-, -, -, -, -, -, -, free⟩ := hopen
  exact free i x hx hbus

/-! ## The four cases -/

section
variable {t : TakenReport} {k : SignalId} {z : ZoneEntry} {route : Fin 32} {s u m : State} {i : SlotId}
  {x : RequestRecord} {touched : List SignalId}

theorem finished_key (hu : u = finish (updateAndEvaluate t touched m)) {j : SlotId} {y : RequestRecord}
    (hy : (m.record j).map RequestRecord.key = some y.key) :
    ∃ w, u.record j = some w ∧ w.bus = y.bus ∧ w.signal = y.signal := by
  have key := (updateAndEvaluate_key t touched m j).trans hy
  rw [Option.map_eq_some_iff] at key
  obtain ⟨w, hw, hkey⟩ := key
  refine ⟨w, ?_, Prod.mk.inj hkey⟩
  rw [hu, finish_record]
  exact hw

theorem finished_isSome (hu : u = finish (updateAndEvaluate t touched m)) (j : SlotId) :
    (u.record j).isSome = (m.record j).isSome := by
  rw [hu, finish_record, updateAndEvaluate_isSome]

/-- A check-in of a bus that has a record of origin CHECK_IN at the signal updates it (R35, R69). -/
theorem checkIn_updates (holders : HoldersOk s) (unique : UniqueRecords s) (timers : RecordTimersOk s)
    (hx : s.record i = some x)
    (hu : u = finish (updateAndEvaluate t (matchZone t route s).2 (matchZone t route s).1))
    (hkept : (matchZone t route s).1 = s) :
    ∃ y : RequestRecord, u.record i = some y ∧ y.bus = x.bus ∧ y.signal = x.signal ∧ UpdatedBy t s u x y := by
  have kept : ((matchZone t route s).1.record i).map RequestRecord.key = some x.key := by rw [hkept, hx]; rfl
  obtain ⟨y, hy, hbus, hsignal⟩ := finished_key hu kept
  subst hu
  have left := (finish_record _ i).symm.trans hy
  exact ⟨y, hy, hbus, hsignal, updatedBy_finish (report_updates holders unique timers hx left (Prod.ext hbus hsignal))⟩

/-- A check-in that displaces a record of a full table makes its own record in that slot, and leaves the others (R66,
R67). -/
theorem checkIn_displaces (holders : HoldersOk s) (hx : s.record i = some x) (hnew : s.findRecord t.bus k = none)
    (hu : u = finish (updateAndEvaluate t touched (displaceAndCreate (i, x) t k z route s).1)) :
    (∃ y : RequestRecord, u.record i = some y ∧ y.bus = t.bus ∧ y.signal = k ∧ y.direction = t.heading ∧
      y.state ≠ .projected ∧ y.score = newcomerScore t route s) ∧
    (s.reports.length < 31 →
      u.reports[s.reports.length]? = some (⟨s.clock, .requestClosed i x.bus x.routeNumber x.signal
        x.direction x.state .displaced x.score x.servicePart⟩ : Report)) ∧
    ∀ j y, j ≠ i → s.record j = some y → ∃ w, u.record j = some w ∧ w.bus = y.bus ∧ w.signal = y.signal := by
  have closes := matched_closeRecord i .displaced s
  have made := createdRecord_unserved t k z route (closeRecord i .displaced s)
  have joins := joins_createdRecord z route (closes.holders holders) (closeRecord_slot i .displaced s)
    (findRecord_closeRecord hnew i .displaced)
  rw [displaceAndCreate_state, createRecord_eq] at hu
  change u = finish (updateAndEvaluate t touched (joined t i _ _)) at hu
  generalize createdRecord t k z route (closeRecord i .displaced s) = w at *
  refine ⟨?_, fun hlength => ?_, fun j y hj hy => ?_⟩
  · obtain ⟨y, hy, unserved, -, placed, -⟩ := joins.settles (touched := touched)
    obtain ⟨⟨bus, -, -, signal, direction, -⟩, -, -, -, -, -, score, -⟩ := reported_fields (unserved.trans made)
    refine ⟨y, ?_, bus, signal, direction, fun hp => ?_, score.trans ?_⟩
    · rw [hu, finish_record]
      exact hy
    · obtain far | near := Nat.lt_or_ge ((closeRecord i .displaced s).horizonUnits y.signal)
        (remaining (closeRecord i .displaced s).clock y.arrival)
      · have armed := (placed.1 far).1
        rw [hp] at armed
        cases armed
      · have waiting := (placed.2 near).1
        rw [hp] at waiting
        obtain e | e := waiting <;> cases e
    · rw [closes.tables]
      rfl
  · rw [hu, finish_reports, updateAndEvaluate_reports, (onlyRecords_joined t _ i w).reports]
    exact closeRecord_report hx .displaced hlength
  · refine finished_key hu ?_
    rw [joined_other hj ((closeRecord_other i j .displaced s hj).trans hy)]
    rfl

/-- A check-in refused at a full table leaves TABLE_FULL and every record (R68). -/
theorem checkIn_refused (b : ReportBody) (hu : u = finish (updateAndEvaluate t touched (writeReport b s))) :
    (s.reports.length < 31 → u.reports[s.reports.length]? = some ⟨s.clock, b⟩) ∧
    ∀ j y, s.record j = some y → ∃ w, u.record j = some w ∧ w.bus = y.bus ∧ w.signal = y.signal := by
  refine ⟨fun hlength => ?_, fun j y hy => finished_key hu ?_⟩
  · rw [hu, finish_reports, updateAndEvaluate_reports, writeReport_reports]
    exact storeReport_kept hlength s.clock s.clock b false b
  · rw [record_writeReport, hy]
    rfl

end

/-- Settles O28: the check-in converts, updates, displaces or is refused, and the same report then updates and
evaluates. -/
theorem checkInConvertsOrDisplaces : Obligations.CheckInConvertsOrDisplaces := by
  intro p r t route z k i x s newcomer hands holders unique hmode ht hroute hcancel hzone hkind hk hconfigured hrunning hx
    hnewcomer
  have hmatch := matchZone_checkIn hzone hkind hk hconfigured hrunning route
  obtain ⟨u, hexec, hconfig, -, hu, -⟩ := exec_busReport_leaves (m := (matchZone t route s).1)
    (touched := (matchZone t route s).2) hands hmode ht hroute hcancel rfl
  refine ⟨u, hexec, hconfig, fun hbus hsignal hp => ?_, fun hbus hsignal hp => ?_, fun hfull hnew hlowest => ?_,
    fun hfull hnew hnone hunheld habove hlowest => ?_⟩
  · subst hsignal
    have found : s.findRecord t.bus x.signal = some (i, x) := hbus ▸ findRecord_unique unique hx
    have converted := convertRecord_eq i x t z s
    rw [hmatch, checkIn_projected found hp, converted] at hu
    have joins := joins_convertedRecord z holders unique hx hbus
    have made := convertedRecord_unserved i x t z s
    obtain ⟨notLapsed, account⟩ := convertedRecord_rest i x t z s
    obtain ⟨held, notHeld⟩ := convertedRecord_place i x t z s
    obtain ⟨-, signal⟩ := Prod.mk.inj (convertedRecord_key i x t z s)
    generalize convertedRecord i x t z s = w at *
    generalize x.signal :: (attemptProjection i t.doorsOpen (s.setRecord i (some w))).2 = touched at hu
    change u = finish (updateAndEvaluate t touched (joined t i w s)) at hu
    have records := fun l => (congrArg (fun v => State.record v l) hu).trans (finish_record _ l)
    obtain ⟨y, hy, unserved, lapsed, placed, unheld⟩ := joins.settles (touched := touched)
    obtain ⟨⟨bus, routeIndex, routeNumber, ysignal, direction, cursor⟩,
      ⟨position, speed, lateness, occupancy, nominal, dwell, doors⟩, pending, served, projection, arrival, score, age⟩ :=
      reported_fields (unserved.trans made)
    have own : y.signal = x.signal := ysignal
    refine ⟨y, (records i).trans hy, bus, routeIndex, routeNumber, own, direction, cursor, position, speed, lateness,
      occupancy, nominal, dwell, doors, ?_, lapsed.trans notLapsed, served, placed, projection, ?_, score, age,
      fun before after => ?_, ⟨w, converted, unserved.symm, notLapsed, ?_⟩, fun next m d j hopen hj => ?_,
      fun hnone l => ?_⟩
    · rw [pending]
      exact stopPending_iff
    · rw [arrival, arrivalTime, own]
    · rw [hu, finish_ctx, ← signal] at after
      rw [← signal] at before
      exact account_eq_iff.mp ((unheld before after).trans account)
    · obtain ⟨outcome, part, committed, refreshes, call⟩ := account_eq_iff.mp account
      exact ⟨outcome, part, committed, refreshes, call, held, notHeld⟩
    · have hm : m ≠ w.signal := signal ▸ (projectionOpen_signal hopen hx bus.symm).symm
      obtain ⟨q, hq, projected, chained, others⟩ := joins.projects (touched := touched) unserved hopen hm
        ((lowestFree_occupied hx j).mpr hj)
      rw [routeIndex] at chained
      refine ⟨q, (records j).trans hq, projected, chained, fun l hlj => ?_⟩
      rw [records]
      by_cases hl : l = i
      · rw [hl, hy, hx]
        rfl
      · exact others l hl hlj
    · rw [records]
      by_cases hl : l = i
      · rw [hl, hy, hx]
        rfl
      · refine joins.no_projection unserved (hnone.imp (fun closed next m d hopen => absurd hopen (closed next m d)) ?_) hl
        exact fun full j hj => full j ((lowestFree_occupied hx j).mp hj)
  · have kept : checkIn t k z route s = (s, []) :=
      checkIn_present (hbus ▸ hsignal ▸ findRecord_unique unique hx) hp
    have same : (matchZone t route s).1 = s := by rw [hmatch, kept]
    refine ⟨fun timers => ?_, fun j => ?_⟩
    · obtain ⟨y, hy, hybus, hysignal, updated⟩ := checkIn_updates holders unique timers hx hu same
      exact ⟨y, hy, hybus, hysignal.trans hsignal, updated⟩
    · rw [finished_isSome hu, same]
  · obtain ⟨absent, full⟩ := checkIn_against_full (z := z) (route := route) hfull hnew
    subst hnewcomer
    rw [hmatch, full, checkInFull_displaces hx hlowest] at hu
    exact checkIn_displaces holders hx absent hu
  · obtain ⟨-, full⟩ := checkIn_against_full (z := z) (route := route) hfull hnew
    subst hnewcomer
    rw [hmatch, full, checkInFull_refuses hx hnone hunheld habove hlowest] at hu
    exact checkIn_refused _ hu

end Sys2Proof.Machine
end

section
/-! The course of a record: what of it only a bus report changes. Every other effect of the part, service, status frames,
timers, loads and control, keeps each record's course or frees its slot (R55, R57, R78). -/

namespace Sys2Proof.Machine

/-! ## The course of a record -/

/-- A record without its fields of service and its place against the horizon, PROJECTED or not as it was. -/
def RequestRecord.course (r : RequestRecord) : RequestRecord :=
  { r.unserved with state := if r.state = .projected then .projected else .waiting, served := false }

/-- A record has a horizon entry time exactly while it is ARMED (R60). -/
def RequestRecord.ArmedOk (r : RequestRecord) : Prop := r.horizonEntry.isSome = true ↔ r.state = .armed

/-- A record's timers stand with its state (R57). -/
def RequestRecord.TimersOk (r : RequestRecord) : Prop :=
  r.ArmedOk ∧ (r.projectionExpiry.isSome = true ↔ r.state = .projected)

/-- One record is the other but for its service and its place against the horizon. -/
structure SameCourse (r q : RequestRecord) : Prop where
  course : q.course = r.course
  armedOk : r.ArmedOk → q.ArmedOk

theorem SameCourse.refl (r : RequestRecord) : SameCourse r r := ⟨rfl, id⟩

theorem SameCourse.trans {r q x : RequestRecord} (h : SameCourse r q) (g : SameCourse q x) : SameCourse r x :=
  ⟨g.course.trans h.course, g.armedOk ∘ h.armedOk⟩

section
variable {r q : RequestRecord} (h : SameCourse r q)
include h

theorem SameCourse.key : q.key = r.key := by
  have e := congrArg RequestRecord.key h.course
  exact e

theorem SameCourse.routeIndex : q.routeIndex = r.routeIndex := by
  have e := congrArg RequestRecord.routeIndex h.course
  exact e

theorem SameCourse.score : q.score = r.score := by
  have e := congrArg RequestRecord.score h.course
  exact e

theorem SameCourse.arrival : q.arrival = r.arrival := by
  have e := congrArg RequestRecord.arrival h.course
  exact e

theorem SameCourse.ageExpiry : q.ageExpiry = r.ageExpiry := by
  have e := congrArg RequestRecord.ageExpiry h.course
  exact e

theorem SameCourse.projectionExpiry : q.projectionExpiry = r.projectionExpiry := by
  have e := congrArg RequestRecord.projectionExpiry h.course
  exact e

theorem SameCourse.projected_iff : q.state = .projected ↔ r.state = .projected := by
  have e := congrArg RequestRecord.state h.course
  simp only [RequestRecord.course] at e
  by_cases hq : q.state = .projected <;> by_cases hr : r.state = .projected <;> simp [hq, hr] at e ⊢

theorem SameCourse.timersOk (hr : r.TimersOk) : q.TimersOk := by
  obtain ⟨armed, projected⟩ := hr
  refine ⟨h.armedOk armed, ?_⟩
  rw [h.projectionExpiry, h.projected_iff]
  exact projected

end

theorem course_eq {r q : RequestRecord} (hunserved : q.unserved = r.unserved)
    (hstate : q.state = .projected ↔ r.state = .projected) : q.course = r.course := by
  rw [RequestRecord.course, hunserved, RequestRecord.course, if_congr hstate rfl rfl]

/-- A change of the account of a record alone. -/
theorem sameCourse_account {r q : RequestRecord} (hunserved : q.unserved = r.unserved) (hstate : q.state = r.state)
    (hentry : q.horizonEntry = r.horizonEntry) : SameCourse r q :=
  ⟨course_eq hunserved (by rw [hstate]), fun h => by rw [RequestRecord.ArmedOk, hstate, hentry]; exact h⟩

theorem byHorizon_armedOk (r : RequestRecord) (now : Time) (horizon : Nat) : (r.byHorizon now horizon).ArmedOk := by
  unfold RequestRecord.byHorizon RequestRecord.ArmedOk
  split <;> simp

theorem sameCourse_byHorizon {r : RequestRecord} (h : r.state ≠ .projected) (now : Time) (horizon : Nat) :
    SameCourse r (r.byHorizon now horizon) := by
  refine ⟨course_eq (byHorizon_unserved r now horizon) (iff_of_false ?_ h), fun _ => byHorizon_armedOk r now horizon⟩
  obtain e | e := byHorizon_state r now horizon <;> rw [e] <;> nofun

theorem sameCourse_released (r : RequestRecord) (now : Time) (horizon : Nat) :
    SameCourse r (r.released now horizon) := by
  by_cases h : r.state = .projected
  · rw [released_of_projected h]
    exact SameCourse.refl r
  · rw [released_of_checkIn h]
    exact sameCourse_byHorizon h now horizon

theorem sameCourse_held (r : RequestRecord) : SameCourse r r.held := by
  by_cases h : r.state = .projected
  · rw [held_of_projected h]
    exact SameCourse.refl r
  · refine ⟨course_eq (held_unserved r) ?_, fun _ => ?_⟩ <;> rw [held_of_checkIn h]
    · exact iff_of_false nofun h
    · exact iff_of_false nofun nofun

theorem sameCourse_reexamined (r : RequestRecord) (now : Time) (horizon : Nat) :
    SameCourse r (r.reexamined now horizon) := by
  by_cases h : r.state = .projected
  · rw [RequestRecord.reexamined, h]
    exact SameCourse.refl r
  · obtain ⟨-, e⟩ | ⟨-, e⟩ := reexamined_cases h now horizon <;> rw [e]
    · exact SameCourse.refl r
    · exact sameCourse_byHorizon h now horizon

/-! ## Effects that keep the course of every record -/

/-- From s to t every record that is left has kept its slot and its course. -/
def KeepsCourses (s t : State) : Prop := ∀ i q, t.record i = some q → ∃ r, s.record i = some r ∧ SameCourse r q

theorem keepsCourses_of_record {s t : State} (h : ∀ i, t.record i = s.record i) : KeepsCourses s t :=
  fun i q hq => ⟨q, (h i).symm.trans hq, SameCourse.refl q⟩

theorem keepsCourses_of_empty {s t : State} (h : ∀ i, t.record i = none) : KeepsCourses s t :=
  fun i q hq => by rw [h] at hq; cases hq

theorem keepsCourses_of_slots {s t : State} (h : t.slots = s.slots) : KeepsCourses s t :=
  keepsCourses_of_record fun _ => by simp only [State.record, h]

theorem KeepsCourses.refl (s : State) : KeepsCourses s s := keepsCourses_of_record fun _ => rfl

theorem KeepsCourses.trans {s t u : State} (h : KeepsCourses s t) (g : KeepsCourses t u) : KeepsCourses s u := by
  intro i x hx
  obtain ⟨q, hq, hqx⟩ := g i x hx
  obtain ⟨r, hr, hrq⟩ := h i q hq
  exact ⟨r, hr, hrq.trans hqx⟩

/-- What holds of each step of a fold holds of the fold. -/
theorem keepsCourses_foldl {α : Type} (f : State → α → State) (h : ∀ u x, KeepsCourses u (f u x)) (l : List α)
    (s : State) : KeepsCourses s (l.foldl f s) := by
  induction l generalizing s with
  | nil => exact KeepsCourses.refl s
  | cons x l ih => exact (h s x).trans (ih _)

theorem keepsCourses_of_map {s t : State} {i : SlotId} {f : RequestRecord → RequestRecord}
    (hf : ∀ r, SameCourse r (f r)) (h : ∀ j, t.record j = if j = i then (s.record j).map f else s.record j) :
    KeepsCourses s t := by
  intro j q hq
  rw [h] at hq
  split at hq
  · obtain ⟨r, hr, rfl⟩ := Option.map_eq_some_iff.mp hq
    exact ⟨r, hr, hf r⟩
  · exact ⟨q, hq, SameCourse.refl q⟩

theorem keepsCourses_modRecord (i : SlotId) {f : RequestRecord → RequestRecord} (hf : ∀ r, SameCourse r (f r))
    (s : State) : KeepsCourses s (s.modRecord i f) :=
  keepsCourses_of_map hf fun j => State.record_modRecord s i j f

theorem KeepsCourses.uniqueRecords {s t : State} (h : KeepsCourses s t) (hs : UniqueRecords s) : UniqueRecords t :=
  hs.of_sub fun i q hq => (h i q hq).imp fun _ hr => ⟨hr.1, hr.2.key.symm⟩

/-! ## Evaluations and calls (chapters 7 and 8) -/

theorem keepsCourses_generateCancel (k : SignalId) (s : State) : KeepsCourses s (generateCancel k s) :=
  keepsCourses_of_record (generateCancel_record k s)

theorem keepsCourses_takeHolding (k : SignalId) (i : SlotId) (s : State) : KeepsCourses s (takeHolding k i s) :=
  keepsCourses_of_map sameCourse_held (takeHolding_record k i s)

theorem keepsCourses_giveUp (k : SignalId) (s : State) : KeepsCourses s (giveUp k s) := by
  cases hk : (s.ctx k).holder with
  | some i => exact keepsCourses_of_map (fun r => sameCourse_released r _ _) (giveUp_record hk)
  | none =>
    have cancels : giveUp k s = generateCancel k s := by
      have holder := (generateCancel_holder k s).trans hk
      simp only [giveUp, holder]
    rw [cancels]
    exact keepsCourses_generateCancel k s

theorem keepsCourses_settleHolder (k : SignalId) (s : State) : KeepsCourses s (settleHolder k s) := by
  obtain ⟨-, e⟩ | ⟨i, r, -, ⟨-, e⟩ | ⟨-, e⟩ | ⟨j, q, -, -, e⟩⟩ := settleHolder_cases k s <;> rw [e]
  · cases candidate k s with
    | none => exact KeepsCourses.refl s
    | some x => exact keepsCourses_takeHolding k x.1 s
  · exact KeepsCourses.refl s
  · exact keepsCourses_giveUp k s
  · exact (keepsCourses_giveUp k s).trans (keepsCourses_takeHolding k j _)

theorem keepsCourses_serveHolder (k : SignalId) (s : State) : KeepsCourses s (serveHolder k s) := by
  intro i q hq
  have occupied := (serves_serveHolder k s).record_isSome i
  rw [hq] at occupied
  obtain ⟨r, hr⟩ := Option.isSome_iff_exists.mp occupied.symm
  obtain ⟨x, hx, unserved, -, state, entry, -⟩ := (accounts_serveHolder k s).record i r hr
  obtain rfl : x = q := Option.some.inj (hx.symm.trans hq)
  exact ⟨r, hr, sameCourse_account unserved state entry⟩

theorem keepsCourses_evaluate (k : SignalId) (s : State) : KeepsCourses s (evaluate k s) :=
  (keepsCourses_settleHolder k s).trans (keepsCourses_serveHolder k _)

theorem keepsCourses_evaluateAll (l : List SignalId) (s : State) : KeepsCourses s (evaluateAll l s) :=
  keepsCourses_foldl _ (fun u k => keepsCourses_evaluate k u) l s

theorem keepsCourses_evaluateTouched (l : List SignalId) (s : State) : KeepsCourses s (evaluateTouched l s) :=
  (keepsCourses_evaluateAll _ s).trans (keepsCourses_of_record (evaluateTouched_record l s))

theorem keepsCourses_lapse (k : SignalId) (s : State) : KeepsCourses s (lapse k s) := by
  have lapsed (i : SlotId) (u : State) : KeepsCourses u (u.modRecord i fun r => { r with lapsed := true }) :=
    keepsCourses_modRecord i (fun _ => by exact sameCourse_account rfl rfl rfl) u
  unfold lapse
  dsimp only
  refine (KeepsCourses.trans ?_ (keepsCourses_giveUp k _)).trans (keepsCourses_evaluate k _)
  split
  · exact keepsCourses_generateCancel k s
  · exact (keepsCourses_generateCancel k s).trans (lapsed _ _)

theorem keepsCourses_refreshCopy (k : SignalId) (s : State) : KeepsCourses s (refreshCopy k s) := by
  have copied (i : SlotId) (u : State) :
      KeepsCourses u (u.modRecord i fun r => { r with refreshCount := r.refreshCount + 1 }) :=
    keepsCourses_modRecord i (fun _ => by exact sameCourse_account rfl rfl rfl) u
  have placed (c : CallContent) (u : State) : KeepsCourses u (placeCall k c u) :=
    keepsCourses_of_record (placeCall_record k c u)
  unfold refreshCopy
  split
  · exact KeepsCourses.refl s
  · split
    · exact placed _ _
    · exact (copied _ _).trans (placed _ _)

theorem keepsCourses_refreshOrLapse (k : SignalId) (s : State) : KeepsCourses s (refreshOrLapse k s) := by
  unfold refreshOrLapse
  dsimp only
  split
  · split
    · exact (keepsCourses_evaluate k s).trans (keepsCourses_refreshCopy k _)
    · exact (keepsCourses_evaluate k s).trans (keepsCourses_lapse k _)
  · exact keepsCourses_evaluate k s

/-! ## Status frames and a context's timers (chapter 6) -/

theorem keepsCourses_changeRecordsAt (k : SignalId) {f : RequestRecord → RequestRecord}
    (hf : ∀ r, SameCourse r (f r)) (s : State) : KeepsCourses s (changeRecordsAt k f s) := by
  refine keepsCourses_foldl _ (fun u i => keepsCourses_modRecord i (fun r => ?_) u) allSlots s
  split
  · exact hf r
  · exact SameCourse.refl r

theorem keepsCourses_clearCommitted (k : SignalId) (ch : StatusChange) (s : State) :
    KeepsCourses s (clearCommitted k ch s) := by
  have cleared : KeepsCourses s (changeRecordsAt k (fun r => { r with committed := 0 }) s) :=
    keepsCourses_changeRecordsAt k (fun _ => by exact sameCourse_account rfl rfl rfl) s
  cases ch with
  | neither => exact KeepsCourses.refl s
  | planSelect => exact cleared
  | cycleBoundary => exact cleared

theorem keepsCourses_reexamineRecords (k : SignalId) (b : Bool) (s : State) :
    KeepsCourses s (reexamineRecords k b s) := by
  unfold reexamineRecords
  split
  · exact keepsCourses_changeRecordsAt k (fun r => sameCourse_reexamined r _ _) s
  · exact KeepsCourses.refl s

theorem keepsCourses_creditService (k : SignalId) (s : State) : KeepsCourses s (creditService k s) := by
  unfold creditService
  split
  · exact KeepsCourses.refl s
  · split
    · exact keepsCourses_modRecord _ (fun _ => by exact ⟨rfl, id⟩) s
    · exact KeepsCourses.refl s

theorem keepsCourses_takeStatus (k : SignalId) (p : PlanId) (f : SignalStatus) (s : State) :
    KeepsCourses s (takeStatus k p f s) := by
  have heard (c : SignalContext) : KeepsCourses s (s.setCtx k c) := keepsCourses_of_record fun _ => rfl
  have recomputed (u : State) : KeepsCourses u (recompute k u) := keepsCourses_of_record (recompute_record k u)
  have before := ((((heard ((s.ctx k).withStatus (statusChange (s.ctx k) p f.position) f p s.clock (statusTimeout s))).trans
    (keepsCourses_clearCommitted k (statusChange (s.ctx k) p f.position) _)).trans
    (keepsCourses_reexamineRecords k (decide (p ≠ (s.ctx k).plan)) _)).trans (keepsCourses_creditService k _)).trans
    (recomputed _)
  unfold takeStatus lapseAboveLimit
  dsimp only
  split
  · exact (before.trans (keepsCourses_evaluate k _)).trans (keepsCourses_lapse k _)
  · exact before.trans (keepsCourses_evaluate k _)

theorem keepsCourses_handStatus (p : PortId) (src : Byte) (f : SignalStatus) (s : State) :
    KeepsCourses s (handStatus p src f s) := by
  refine keepsCourses_foldl _ (fun u k => ?_) _ s
  unfold offerStatus
  split
  · exact KeepsCourses.refl u
  · exact keepsCourses_takeStatus k _ f u

theorem keepsCourses_recomputeAll (l : List SignalId) (s : State) : KeepsCourses s (recomputeAll l s) :=
  keepsCourses_of_record (recomputeAll_record l s)

theorem keepsCourses_takeFreshnessExpiry (k : SignalId) (s : State) : KeepsCourses s (takeFreshnessExpiry k s) := by
  unfold takeFreshnessExpiry
  split
  · refine KeepsCourses.trans (keepsCourses_of_record fun i => ?_) (keepsCourses_evaluate k _)
    exact recompute_record k _ i
  · exact KeepsCourses.refl s

theorem keepsCourses_takeRefreshExpiry (k : SignalId) (s : State) : KeepsCourses s (takeRefreshExpiry k s) := by
  unfold takeRefreshExpiry
  split
  · exact keepsCourses_refreshOrLapse k s
  · exact KeepsCourses.refl s

/-! ## Closures and the timers of a record (chapter 4) -/

theorem keepsCourses_closeAll (l : List SlotId) (reason : ClosureReason) (s : State) :
    KeepsCourses s (closeAll l reason s) := by
  intro i q hq
  rw [closeAll_record] at hq
  split at hq
  · cases hq
  · exact ⟨q, hq, SameCourse.refl q⟩

theorem keepsCourses_closeRecord (i : SlotId) (reason : ClosureReason) (s : State) :
    KeepsCourses s (closeRecord i reason s) :=
  keepsCourses_closeAll [i] reason s

theorem keepsCourses_takeHorizonEntry (i : SlotId) (s : State) : KeepsCourses s (takeHorizonEntry i s) := by
  unfold takeHorizonEntry
  split
  · exact KeepsCourses.refl s
  · next r hr =>
    split
    · next due =>
      have woken : SameCourse r { r with state := .waiting, horizonEntry := none } :=
        ⟨course_eq rfl (iff_of_false nofun (by rw [due.1]; nofun)), fun _ => iff_of_false nofun nofun⟩
      refine KeepsCourses.trans (fun j q hq => ?_) (keepsCourses_evaluate _ _)
      rw [State.record_setRecord] at hq
      split at hq
      · next hj =>
        cases hq
        exact ⟨r, hj ▸ hr, woken⟩
      · exact ⟨q, hq, SameCourse.refl q⟩
    · exact KeepsCourses.refl s

theorem keepsCourses_takeAgeExpiry (i : SlotId) (s : State) : KeepsCourses s (takeAgeExpiry i s) := by
  unfold takeAgeExpiry
  split
  · exact KeepsCourses.refl s
  · split
    · exact (keepsCourses_closeRecord i _ s).trans (keepsCourses_evaluate _ _)
    · exact KeepsCourses.refl s

theorem keepsCourses_takeProjectionExpiry (i : SlotId) (s : State) : KeepsCourses s (takeProjectionExpiry i s) := by
  unfold takeProjectionExpiry
  split
  · exact KeepsCourses.refl s
  · split
    · exact (keepsCourses_closeRecord i _ s).trans (keepsCourses_evaluate _ _)
    · exact KeepsCourses.refl s

end Sys2Proof.Machine
end

section
/-! What an effect can do to the records: it keeps the course of every record, or it is a bus report's. While a record is
left, the four corridor-wide tables stay VALID and the ROUTE table stays as it was (R53, R115, R159, R162, R163, R169). -/

namespace Sys2Proof.Machine

/-! ## The corridor-wide tables (R53, R162) -/

/-- The four corridor-wide tables are VALID. -/
def CorridorValid (s : State) : Prop := ∀ id : TableId, id.corridorWide = true → s.validity.get id = .valid

theorem corridorValid_iff (s : State) :
    CorridorValid s ↔ s.validity.global = .valid ∧ s.validity.zone = .valid ∧ s.validity.route = .valid ∧
      s.validity.segment = .valid :=
  ⟨fun h => ⟨h .global rfl, h .zone rfl, h .route rfl, h .segment rfl⟩, fun ⟨hg, hz, hr, hs⟩ id h => by
    cases id
    case signal | plan => cases h
    all_goals assumption⟩

/-- The validity of a table that is not corridor-wide, or a table that becomes VALID, leaves the four as they are. -/
theorem CorridorValid.set {s t : State} (h : CorridorValid s) {id : TableId} {w : Validity}
    (hw : id.corridorWide = true → w = .valid) (ht : t.validity = s.validity.set id w) : CorridorValid t := by
  intro other hother
  rw [ht]
  by_cases e : other = id
  · subst e
    rw [Validities.get_set_self]
    exact hw hother
  · rw [Validities.get_set_ne _ _ e]
    exact h other hother

/-- While the four tables are VALID an open load is of the SIGNAL or the PLAN table (R159). -/
theorem LoadOk.not_corridorWide {s : State} (h : LoadOk s) (hvalid : CorridorValid s) {l : LoadContext}
    (hl : s.load = some l) : l.table.corridorWide = false := by
  obtain ⟨unloaded, -⟩ := h.1 l hl
  cases hwide : l.table.corridorWide with
  | false => rfl
  | true => exact absurd (hvalid l.table hwide) unloaded

theorem LoadOk.congr {s t : State} (h : LoadOk s) (hload : t.load = s.load) (hvalidity : t.validity = s.validity) :
    LoadOk t := by
  unfold LoadOk
  rw [hload, hvalidity]
  exact h

theorem corridorWide_covers {l : LoadContext} (h : l.table.corridorWide = true) (k : SignalId) : l.covers k = true := by
  unfold LoadContext.covers
  split <;> simp_all [TableId.corridorWide]

/-! ## Effects under which records stand -/

/-- From s to t every record left keeps its course, and while one is left the four corridor-wide tables stay VALID and the
ROUTE table as it was. -/
structure Stands (s t : State) : Prop where
  courses : KeepsCourses s t
  tables : LoadOk s → CorridorValid s → (∃ i, t.record i ≠ none) →
    CorridorValid t ∧ t.tables.route = s.tables.route

theorem stands_of_kept {s t : State} (hcourses : KeepsCourses s t) (hvalidity : t.validity = s.validity)
    (htables : t.tables = s.tables) : Stands s t :=
  ⟨hcourses, fun _ h _ => ⟨fun id hid => by rw [hvalidity]; exact h id hid, by rw [htables]⟩⟩

theorem Stands.refl (s : State) : Stands s s := stands_of_kept (KeepsCourses.refl s) rfl rfl

theorem stands_of_empty {s t : State} (h : ∀ i, t.record i = none) : Stands s t :=
  ⟨keepsCourses_of_empty h, fun _ _ ⟨i, hi⟩ => absurd (h i) hi⟩

/-- A change of the validity of one table, which leaves the four VALID. -/
theorem stands_of_set {s t : State} {id : TableId} {w : Validity} (hcourses : KeepsCourses s t)
    (hw : LoadOk s → CorridorValid s → id.corridorWide = true → w = .valid) (ht : t.validity = s.validity.set id w)
    (htables : t.tables = s.tables) : Stands s t :=
  ⟨hcourses, fun hload h _ => ⟨h.set (hw hload h) ht, by rw [htables]⟩⟩

/-- Nothing has changed from s to t that records stand on. -/
structure SameFooting (s t : State) : Prop where
  record : ∀ i, t.record i = s.record i
  tables : t.tables = s.tables
  validity : t.validity = s.validity
  load : t.load = s.load
  mode : t.mode = s.mode
  clock : t.clock = s.clock

theorem SameFooting.refl (s : State) : SameFooting s s := ⟨fun _ => rfl, rfl, rfl, rfl, rfl, rfl⟩

theorem SameFooting.trans {s t u : State} (h : SameFooting s t) (g : SameFooting t u) : SameFooting s u where
  record i := (g.record i).trans (h.record i)
  tables := g.tables.trans h.tables
  validity := g.validity.trans h.validity
  load := g.load.trans h.load
  mode := g.mode.trans h.mode
  clock := g.clock.trans h.clock

theorem SameFooting.stands {s t : State} (h : SameFooting s t) : Stands s t :=
  stands_of_kept (keepsCourses_of_record h.record) h.validity h.tables

theorem SameFooting.trans_stands {s t u : State} (h : SameFooting s t) (g : Stands t u) : Stands s u where
  courses := (keepsCourses_of_record h.record).trans g.courses
  tables hload hvalid hleft := by
    obtain ⟨valid, route⟩ := g.tables (hload.congr h.load h.validity)
      (fun id hid => by rw [h.validity]; exact hvalid id hid) hleft
    exact ⟨valid, by rw [route, h.tables]⟩

theorem Stands.trans_footing {s t u : State} (h : Stands s t) (g : SameFooting t u) : Stands s u where
  courses := h.courses.trans (keepsCourses_of_record g.record)
  tables hload hvalid hleft := by
    simp only [g.record] at hleft
    obtain ⟨valid, route⟩ := h.tables hload hvalid hleft
    exact ⟨fun id hid => by rw [g.validity]; exact valid id hid, by rw [g.tables, route]⟩

theorem sameFooting_setPort (p : PortId) (q : Port) (s : State) : SameFooting s (s.setPort p q) := by
  constructor <;> simp

theorem sameFooting_writeReport (b : ReportBody) (s : State) : SameFooting s (writeReport b s) := by
  constructor <;> simp

/-! ## Table loading (chapter 9) -/

theorem keepsCourses_recomputeAndEvaluate (s : State) : KeepsCourses s (recomputeAndEvaluate s) :=
  (keepsCourses_recomputeAll _ s).trans (keepsCourses_evaluateAll _ _)

theorem keepsCourses_recomputeOne (k : SignalId) (s : State) : KeepsCourses s (recomputeOne k s) := by
  have recomputed : KeepsCourses s (recompute k s) := keepsCourses_of_record (recompute_record k s)
  unfold recomputeOne
  dsimp only
  split
  · exact recomputed
  · exact recomputed.trans (keepsCourses_evaluate k _)

/-- The records of a state in which covered signals have been told of their suspension, before they evaluate. -/
theorem keepsCourses_suspended (s : State) :
    KeepsCourses (closeAll (coveredSlots (recomputeAll s.scope s)) .suspended (recomputeAll s.scope s))
      (suspendScope s) := by
  have cleared : KeepsCourses _ (s.scope.foldl (fun t k => t.setCtx k (t.ctx k).suspendedValues)
      (closeAll (coveredSlots (recomputeAll s.scope s)) .suspended (recomputeAll s.scope s))) :=
    keepsCourses_foldl _ (fun _ _ => by exact keepsCourses_of_slots rfl) _ _
  exact cleared.trans (keepsCourses_evaluateAll _ _)

theorem keepsCourses_suspendScope (s : State) : KeepsCourses s (suspendScope s) :=
  ((keepsCourses_recomputeAll s.scope s).trans (keepsCourses_closeAll _ _ _)).trans (keepsCourses_suspended s)

/-- A load that covers every signal leaves no record (R163). -/
theorem suspendScope_empties {s : State} (h : ∀ k, s.covered k = true) (i : SlotId) :
    (suspendScope s).record i = none := by
  rw [Option.eq_none_iff_forall_ne_some]
  intro q hq
  obtain ⟨r, hr, -⟩ := keepsCourses_suspended s i q hq
  rw [closeAll_record, recomputeAll_record] at hr
  split at hr
  · cases hr
  · next left =>
    refine left (mem_slots_filter.mpr ⟨r, (recomputeAll_record _ s i).trans hr, ?_⟩)
    have covered := h r.signal
    rwa [State.covered, ← (works_recomputeAll s.scope s).load] at covered

theorem stands_openLoad (id : TableId) (start expected : Nat) (p : PortId) (s : State) :
    Stands s (openLoad id start expected p s) := by
  cases hwide : id.corridorWide with
  | true => exact stands_of_empty (suspendScope_empties fun k => corridorWide_covers hwide k)
  | false =>
    refine stands_of_set (id := id) (w := openedValidity (s.validity.get id)) ?_ (fun _ _ h => ?_) ?_
      (sameStore_openLoad id start expected p s).tables
    · exact KeepsCourses.trans (keepsCourses_of_slots rfl) (keepsCourses_suspendScope _)
    · rw [hwide] at h
      cases h
    · exact (works_suspendScope _).validity

theorem keepsCourses_endLoad (v : Parity) (id : TableId) (w : Validity) (s : State) :
    KeepsCourses s (recomputeAndEvaluate (endLoad v id w s)) :=
  (keepsCourses_of_record (endLoad_record v id w s)).trans (keepsCourses_recomputeAndEvaluate _)

theorem stands_closeLoad (id : TableId) (s : State) : Stands s (closeLoad id s) := by
  rw [closeLoad_eq]
  have ended := loadEnded_endLoad
    (if id = .global then (parityOf s.tables.global.parity).getD s.parity else s.parity) id .valid s
  exact stands_of_set (keepsCourses_endLoad _ id .valid s) (fun _ _ _ => rfl) ended.validity ended.tables

/-- While a record is left an abandoned load is not of a corridor-wide table (R159, R163, R170). -/
theorem stands_abandonLoad {s : State} {l : LoadContext} (hl : s.load = some l) :
    Stands s (recomputeAndEvaluate (abandonLoad l.table s)) := by
  rw [abandonLoad_eq]
  have ended := loadEnded_endLoad (if l.table = .global then .noParity else s.parity) l.table .invalid s
  refine stands_of_set (keepsCourses_endLoad _ l.table .invalid s) (fun hload hvalid h => ?_) ended.validity ended.tables
  rw [hload.not_corridorWide hvalid hl] at h
  cases h

theorem keepsCourses_storeEntry (id : TableId) (i : Nat) (l : List Byte) (s : State) :
    KeepsCourses s (storeEntry id i l s) := by
  have stored : KeepsCourses s { s with tables := s.tables.storeEntry id i l } := keepsCourses_of_slots rfl
  have moved (k : SignalId) (before : Option PortId) (u : State) : KeepsCourses u (dropMovedCall k before u) := by
    unfold dropMovedCall
    split
    · exact KeepsCourses.refl u
    · split
      · exact KeepsCourses.refl u
      · exact keepsCourses_of_slots (State.setPort_slots _ _ _)
  cases id
  case signal =>
    unfold storeEntry
    dsimp only
    split
    · exact stored
    · exact (stored.trans (moved _ _ _)).trans (keepsCourses_recomputeOne _ _)
  case plan =>
    unfold storeEntry
    dsimp only
    split
    · exact stored
    · exact stored.trans (keepsCourses_recomputeOne _ _)
  all_goals exact stored

theorem keepsCourses_assemble (fuel : Nat) (l : LoadContext) (s : State) : KeepsCourses s (assemble fuel l s) := by
  have opened (l : LoadContext) : KeepsCourses s { s with load := some l } := keepsCourses_of_slots rfl
  induction fuel generalizing l s with
  | zero => exact opened l
  | succ fuel ih =>
    unfold assemble
    split
    · exact opened l
    · exact ((opened l).trans (keepsCourses_storeEntry _ _ _ _)).trans
        (ih l.advanced _ fun _ => keepsCourses_of_slots rfl)

/-- A stored entry of another table leaves the ROUTE table (R165). -/
theorem TableStore.route_storeEntry {id : TableId} (h : id ≠ .route) (t : TableStore) (i : Nat) (l : List Byte) :
    (t.storeEntry id i l).route = t.route := by
  cases id
  case route => exact absurd rfl h
  case global => by_cases hi : i = 0 <;> simp [TableStore.storeEntry, hi]
  all_goals rfl

theorem assemble_footing (fuel : Nat) (l : LoadContext) (s : State) :
    (assemble fuel l s).validity = s.validity ∧
      (l.table ≠ .route → (assemble fuel l s).tables.route = s.tables.route) := by
  induction fuel generalizing l s with
  | zero => exact ⟨rfl, fun _ => rfl⟩
  | succ fuel ih =>
    unfold assemble
    split
    · exact ⟨rfl, fun _ => rfl⟩
    · obtain ⟨validity, route⟩ := ih l.advanced
        (storeEntry l.table l.writeIndex (l.buffer.take l.table.entrySize) { s with load := some l })
      have stored := storeEntry_keeps l.table l.writeIndex (l.buffer.take l.table.entrySize) { s with load := some l }
      refine ⟨validity.trans stored.validity, fun h => (route h).trans ?_⟩
      rw [stored.tables]
      exact TableStore.route_storeEntry h _ _ _

theorem loadFrom_load {p : PortId} {s : State} {l : LoadContext} (h : loadFrom p s = some l) : s.load = some l := by
  unfold loadFrom at h
  split at h
  · cases h
  · next l' hl =>
    split at h
    · rw [hl, h]
    · cases h

theorem stands_appendBytes {p : PortId} {l : LoadContext} {s : State} (hl : loadFrom p s = some l)
    (payload : List Byte) : Stands s (appendBytes l payload s) where
  courses := keepsCourses_assemble _ _ s
  tables hload hvalid _ := by
    obtain ⟨validity, route⟩ := assemble_footing (l.buffer.length + payload.length)
      { l with buffer := l.buffer ++ payload } s
    refine ⟨fun id hid => (congrArg (fun v : Validities => v.get id) validity).trans (hvalid id hid), route fun e => ?_⟩
    have narrow := hload.not_corridorWide hvalid (loadFrom_load hl)
    rw [show l.table = .route from e] at narrow
    cases narrow

/-! ## Management requests (chapters 9 and 10) -/

theorem stands_needLength (kind : Byte) (n : Nat) (payload : List Byte) {act : State → State × Answer} {s : State}
    (h : Stands s (act s).1) : Stands s (needLength kind n payload act s).1 :=
  needLength_cases (P := fun x => Stands s x.1) kind n payload act s (Stands.refl s) h

theorem stands_actReadReports (payload : List Byte) (s : State) : Stands s (actReadReports payload s).1 := by
  refine stands_needLength _ _ _ ?_
  dsimp only
  split
  · exact Stands.refl s
  · exact SameFooting.stands (by constructor <;> intros <;> rfl)

theorem stands_actDisable (code : Byte) (b : Bool) (signal : Byte) (s : State) :
    Stands s (actDisable code b signal s).1 := by
  unfold actDisable
  split
  · exact Stands.refl s
  · next k _ =>
    dsimp only
    split
    · exact Stands.refl s
    · have works := (works_recompute k (s.setDisabled k b)).trans (works_evaluate k _)
      refine stands_of_kept ?_ works.validity works.tables
      have flagged : KeepsCourses s (recompute k (s.setDisabled k b)) := keepsCourses_of_record (recompute_record k _)
      exact flagged.trans (keepsCourses_evaluate k _)

/-- The setting of OBSERVE and the evaluations after it (R115). -/
theorem stands_observed (b : Bool) (s : State) : Stands s (evaluateAll allSignals { s with observe := b }) := by
  have works := works_evaluateAll allSignals { s with observe := b }
  have flagged : KeepsCourses s { s with observe := b } := keepsCourses_of_slots rfl
  exact stands_of_kept (flagged.trans (keepsCourses_evaluateAll _ _)) works.validity works.tables

theorem sameFooting_cancelAll (s : State) : SameFooting s (cancelAll s) := by
  have works := works_cancelAll s
  refine ⟨fun i => ?_, works.tables, works.validity, works.load, works.mode, works.clock⟩
  unfold cancelAll
  generalize allSignals = l
  induction l generalizing s with
  | nil => rfl
  | cons k l ih => exact (ih _ (works_cancelAll _)).trans (generateCancel_record k s i)

theorem stands_actControl (payload : List Byte) (s : State) : Stands s (actControl payload s).1 := by
  refine stands_needLength _ _ _ ?_
  dsimp only
  split
  · exact stands_actDisable _ _ _ s
  · split
    · exact stands_actDisable _ _ _ s
    · split
      · unfold actObserveOn
        dsimp only
        split
        · exact Stands.refl s
        · exact (sameFooting_cancelAll s).trans_stands (stands_observed true _)
      · split
        · unfold actObserveOff
          dsimp only
          split
          · exact stands_observed false s
          · exact Stands.refl s
        · split
          · refine stands_of_empty fun i => ?_
            show (corridorReset s).record i = none
            rw [corridorReset_eq, withoutWaiting_record, recomputeAllSilently_record, emptied_record]
          · exact Stands.refl s

theorem stands_actTableOpen (p : PortId) (payload : List Byte) (s : State) : Stands s (actTableOpen p payload s).1 := by
  refine stands_needLength _ _ _ ?_
  dsimp only
  split
  · exact Stands.refl s
  · split
    · exact Stands.refl s
    · split
      · exact Stands.refl s
      · exact stands_openLoad _ _ _ p s

theorem stands_actTableWrite (p : PortId) (payload : List Byte) (s : State) :
    Stands s (actTableWrite p payload s).1 := by
  unfold actTableWrite
  split
  · exact Stands.refl s
  · split
    · exact Stands.refl s
    · next l hl =>
      split
      · exact Stands.refl s
      · exact stands_appendBytes hl payload

theorem stands_actTableSeek (p : PortId) (payload : List Byte) (s : State) : Stands s (actTableSeek p payload s).1 := by
  refine stands_needLength _ _ _ ?_
  split
  · exact Stands.refl s
  · dsimp only
    split
    · exact Stands.refl s
    · exact stands_of_kept (keepsCourses_of_slots rfl) rfl rfl

theorem stands_actTableClose (p : PortId) (payload : List Byte) (s : State) :
    Stands s (actTableClose p payload s).1 := by
  refine stands_needLength _ _ _ ?_
  split
  · exact Stands.refl s
  · split
    · exact Stands.refl s
    · split
      · exact Stands.refl s
      · split
        · exact Stands.refl s
        · dsimp only
          exact stands_closeLoad _ s

theorem stands_actTableAbandon (payload : List Byte) (s : State) : Stands s (actTableAbandon payload s).1 := by
  refine stands_needLength _ _ _ ?_
  split
  · exact Stands.refl s
  · next hl =>
    dsimp only
    exact stands_abandonLoad hl

theorem stands_actRequest (p : PortId) (kind : Byte) (payload : List Byte) (s : State) :
    Stands s (actRequest p kind payload s).1 := by
  have unchanged {t : State} (e : t = s) : Stands s t := by
    rw [e]
    exact Stands.refl s
  exact actRequest_cases (P := fun _ x => Stands s x.1) p kind payload s (unchanged (actQueryStatus_state payload s))
    (unchanged (actQuerySignal_state payload s)) (unchanged (actQueryRequests_state payload s))
    (stands_actReadReports payload s) (stands_actControl payload s) (stands_actTableOpen p payload s)
    (stands_actTableWrite p payload s) (stands_actTableSeek p payload s) (stands_actTableClose p payload s)
    (stands_actTableAbandon payload s) (unchanged (actTableRead_state payload s)) fun _ => unchanged rfl

theorem stands_answerRequest (p : PortId) (src kind : Byte) (payload : List Byte) (s : State) :
    Stands s (answerRequest p src (actRequest p kind payload) s) := by
  unfold answerRequest
  split
  · exact Stands.refl s
  · exact (stands_actRequest p kind payload s).trans_footing (sameFooting_setPort p _ _)

theorem stands_handStatus (p : PortId) (src : Byte) (f : SignalStatus) (s : State) :
    Stands s (handStatus p src f s) :=
  stands_of_kept (keepsCourses_handStatus p src f s) (handStatus_keeps p src f s).validity
    (handStatus_keeps p src f s).tables

/-! ## What an effect can do to the records -/

/-- From s to t the records stand, or t is what a bus report leaves of a state with the records of s. -/
def StandsOrReports (s t : State) : Prop :=
  Stands s t ∨ ∃ (r : BusReport) (u : State), SameFooting s u ∧ t = takeBusReport r u

theorem SameFooting.trans_standsOrReports {s t u : State} (h : SameFooting s t) (g : StandsOrReports t u) :
    StandsOrReports s u :=
  g.imp h.trans_stands fun ⟨r, v, hv, e⟩ => ⟨r, v, h.trans hv, e⟩

theorem standsOrReports_handedOver (p : PortId) {f : State → State} {s : State} (h : StandsOrReports s (f s)) :
    StandsOrReports s (handedOver p f s) := by
  unfold handedOver
  split
  · split
    · exact .inl (Stands.refl s)
    · exact h
  · exact .inl (Stands.refl s)

theorem standsOrReports_handToBlock (p : PortId) (f : Frame) (s : State) : StandsOrReports s (handToBlock p f s) := by
  unfold handToBlock
  split
  · split
    · exact .inr ⟨_, s, SameFooting.refl s, rfl⟩
    · exact .inl (Stands.refl s)
  · split
    · split
      · exact .inl (stands_handStatus p _ _ s)
      · exact .inl (Stands.refl s)
    · exact .inl (stands_answerRequest p _ _ _ s)

theorem standsOrReports_dispatchFrame (p : PortId) (f : Frame) (s : State) :
    StandsOrReports s (dispatchFrame p f s) := by
  have repeated : SameFooting s (repeatFrame p f.raw s) := sameFooting_setPort _ _ s
  unfold dispatchFrame
  split
  · exact .inl repeated.stands
  · split
    · exact .inl repeated.stands
    · exact repeated.trans_standsOrReports (standsOrReports_handToBlock p f _)
    · exact standsOrReports_handToBlock p f s

theorem sameFooting_takeCleanSync (p : PortId) (seen : List (Rate × LineChar)) (s : State) :
    SameFooting s (takeCleanSync p seen s) := by
  unfold takeCleanSync
  split
  · split
    · exact SameFooting.refl s
    · exact (sameFooting_setPort p _ s).trans (sameFooting_writeReport _ _)
  · exact SameFooting.refl s

theorem sameFooting_returnToLearning (p : PortId) (s : State) : SameFooting s (returnToLearning p s) := by
  unfold returnToLearning
  split
  · exact (sameFooting_setPort p _ s).trans (sameFooting_writeReport _ _)
  · exact SameFooting.refl s

theorem standsOrReports_takeEndingGap (p : PortId) (idleBefore : Bool) (chars : List LineChar) (s : State) :
    StandsOrReports s (takeEndingGap p idleBefore chars s) := by
  unfold takeEndingGap
  dsimp only
  split
  · exact .inl (Stands.refl s)
  · split
    · exact .inl (sameFooting_setPort p _ s).stands
    · split
      · exact .inl (sameFooting_setPort p _ s).stands
      · unfold judgeFrame
        dsimp only
        split
        · exact (sameFooting_setPort p _ s).trans_standsOrReports (standsOrReports_dispatchFrame p _ _)
        · exact .inl ((sameFooting_setPort p _ s).trans (sameFooting_returnToLearning p _)).stands

/-- What an effect can do to the records: they stand, or a bus report works on them. -/
theorem standsOrReports_effect (c : Instr) (s : State) : StandsOrReports s (effect c s) := by
  have kept {t : State} (works : Works s t) (courses : KeepsCourses s t) : StandsOrReports s t :=
    .inl (stands_of_kept courses works.validity works.tables)
  cases hr : requestOf c with
  | some r =>
    rw [effect_request hr]
    exact standsOrReports_handedOver _ (.inl (stands_answerRequest _ _ _ _ s))
  | none =>
    rw [effect_own hr]
    cases c
    case cleanSyncLearned p seen => exact .inl (sameFooting_takeCleanSync p seen s).stands
    case frameEndingGap p b l => exact standsOrReports_takeEndingGap p b l s
    case returnToLearning p => exact .inl (sameFooting_returnToLearning p s).stands
    case busReport p r => exact standsOrReports_handedOver p (.inr ⟨r, s, SameFooting.refl s, rfl⟩)
    case signalStatus p src f => exact standsOrReports_handedOver p (.inl (stands_handStatus p src f s))
    case freshnessExpiry k => exact kept (works_takeFreshnessExpiry k s) (keepsCourses_takeFreshnessExpiry k s)
    case horizonEntry i => exact kept (works_takeHorizonEntry i s) (keepsCourses_takeHorizonEntry i s)
    case ageExpiry i => exact kept (works_takeAgeExpiry i s) (keepsCourses_takeAgeExpiry i s)
    case projectionExpiry i => exact kept (works_takeProjectionExpiry i s) (keepsCourses_takeProjectionExpiry i s)
    case refreshExpiry k => exact kept (works_takeRefreshExpiry k s) (keepsCourses_takeRefreshExpiry k s)
    case transmitGapEnd p => exact .inl (sameFooting_setPort p _ s).stands
    all_goals exact .inl (Stands.refl s)

end Sys2Proof.Machine
end

section
/-! What a bus report does to the records, as one rule: a property of a record that the makings and the changes of a report
keep (R48, R64, R65, R45, R70), and that a record's course decides, holds of every record the report leaves. -/

namespace Sys2Proof.Machine

/-! ## A report that is taken -/

/-- A report changes nothing, or it is acted on in mode ACTIVE for a route that is resolved (R25 to R28). -/
theorem takeBusReport_cases (r : BusReport) (s : State) :
    takeBusReport r s = s ∨ ∃ t route, s.mode = .active ∧ resolveRoute s.tables t.route = some route ∧
      takeBusReport r s = actOnReport t route s := by
  by_cases hmode : s.mode = .active
  · cases ht : taken r with
    | none => exact .inl (takeBusReport_untaken ht s)
    | some t =>
      cases hroute : resolveRoute s.tables t.route with
      | none => exact .inl (takeBusReport_unresolved (by rw [← (taken_names ht).2]; exact hroute))
      | some route => exact .inr ⟨t, route, hmode, hroute, takeBusReport_taken hmode ht hroute⟩
  · exact .inl (takeBusReport_inactive hmode r)

/-! ## A property of every record -/

/-- A property holds of every record. -/
def EveryRecord (P : RequestRecord → Prop) (s : State) : Prop := ∀ i r, s.record i = some r → P r

theorem everyRecord_iff_records (P : RequestRecord → Prop) (s : State) : (∀ x ∈ s.records, P x.2) ↔ EveryRecord P s :=
  ⟨fun h i r hr => h (i, r) ((s.mem_records (i, r)).mpr hr), fun h x hx => h x.1 x.2 ((s.mem_records x).mp hx)⟩

theorem everyRecord_of_empty {P : RequestRecord → Prop} {s : State} (h : ∀ i, s.record i = none) : EveryRecord P s :=
  fun i r hr => by rw [h] at hr; cases hr

theorem EveryRecord.setRecord {P : RequestRecord → Prop} {s : State} (h : EveryRecord P s) (i : SlotId)
    {q : RequestRecord} (hq : P q) : EveryRecord P (s.setRecord i (some q)) := by
  intro j r hr
  rw [State.record_setRecord] at hr
  split at hr
  · cases hr
    exact hq
  · exact h j r hr

/-- What a record's course decides holds on where courses are kept. -/
theorem KeepsCourses.every {P : RequestRecord → Prop} {s t : State} (h : KeepsCourses s t)
    (course : ∀ {r q}, SameCourse r q → P r → P q) (hs : EveryRecord P s) : EveryRecord P t := by
  intro i q hq
  obtain ⟨r, hr, same⟩ := h i q hq
  exact course same (hs i r hr)

/-- A property of records that everything a report makes of a record keeps: what decides it is the record's course, and the
records made, converted, projected, refreshed and re-estimated have it. -/
structure ReportKeeps (P : RequestRecord → Prop) (t : TakenReport) (route : Fin 32) (s : State) : Prop where
  course : ∀ {r q : RequestRecord}, SameCourse r q → P r → P q
  made : ∀ {u : State} (k : SignalId) (z : ZoneEntry), SameConfig s u → P ((newRecord t k z route u).reported t u)
  rejoined : ∀ {u : State} {r : RequestRecord} (z : ZoneEntry), SameConfig s u → P r → r.state = .projected →
    P ((r.rejoined t z u).reported t u)
  projected : ∀ {u : State} {r : RequestRecord} (next : Fin 128) (k : SignalId) (d : Direction) (doors : Bool),
    SameConfig s u → P r → P (projectedRecord r next k d doors u)
  refreshed : ∀ {u : State} {r : RequestRecord}, SameConfig s u → P r → r.state ≠ .projected → P (r.reported t u)
  reestimated : ∀ {u : State} {r : RequestRecord}, SameConfig s u → EveryRecord P u → P r → r.state = .projected →
    P (r.reestimated t u)

/-! ## What a report leaves -/

section
variable {P : RequestRecord → Prop} {t : TakenReport} {route : Fin 32} {s u : State}

theorem ReportKeeps.attemptProjection (h : ReportKeeps P t route s) (hu : SameConfig s u) (every : EveryRecord P u)
    (i : SlotId) (doors : Bool) : EveryRecord P (attemptProjection i doors u).1 := by
  obtain e | ⟨r, next, k, d, j, hr, -, -, e⟩ := attemptProjection_cases i doors u <;> rw [e]
  · exact every
  · exact every.setRecord j (h.projected next k d doors hu (every i r hr))

theorem ReportKeeps.createRecord (h : ReportKeeps P t route s) (hu : SameConfig s u) (every : EveryRecord P u)
    (i : SlotId) (k : SignalId) (z : ZoneEntry) : EveryRecord P (createRecord i t k z route u) := by
  rw [createRecord_eq]
  exact every.setRecord i (h.course (sameCourse_byHorizon (by exact nofun) _ _) (h.made k z hu))

theorem ReportKeeps.convertRecord (h : ReportKeeps P t route s) (hu : SameConfig s u) (every : EveryRecord P u)
    {i : SlotId} {r : RequestRecord} (hr : u.record i = some r) (hp : r.state = .projected) (z : ZoneEntry) :
    EveryRecord P (convertRecord i r t z u) := by
  have rejoined := h.rejoined z hu (every i r hr) hp
  rw [convertRecord_eq]
  refine every.setRecord i ?_
  unfold convertedRecord
  split
  · exact h.course (sameCourse_held _) rejoined
  · exact h.course (sameCourse_byHorizon (by exact nofun) _ _) rejoined

theorem ReportKeeps.checkIn (h : ReportKeeps P t route s) (every : EveryRecord P s) (k : SignalId) (z : ZoneEntry) :
    EveryRecord P (checkIn t k z route s).1 := by
  have creates {v : State} (hv : SameConfig s v) (every : EveryRecord P v) (i : SlotId) :
      EveryRecord P (Machine.attemptProjection i t.doorsOpen (Machine.createRecord i t k z route v)).1 := by
    refine h.attemptProjection (hv.trans ?_) (h.createRecord hv every i k z) i _
    rw [createRecord_eq]
    exact setRecord_keeps i _ v
  cases hfound : s.findRecord t.bus k with
  | some x =>
    obtain ⟨i, r⟩ := x
    by_cases hp : r.state = .projected
    · have hr := (State.findRecord_some hfound).1
      rw [checkIn_projected hfound hp]
      exact h.attemptProjection (matched_convertRecord t z hr).toSameConfig
        (h.convertRecord (SameConfig.refl s) every hr hp z) i _
    · rw [checkIn_present hfound hp]
      exact every
  | none =>
    cases hi : s.freeSlot with
    | some i =>
      rw [checkIn_new hfound hi]
      exact creates (SameConfig.refl s) every i
    | none =>
      rw [checkIn_full hfound hi]
      obtain ⟨x, -, e⟩ | e | ⟨b, e⟩ := checkInFull_cases t k z route s <;> rw [e]
      · rw [displaceAndCreate_state]
        exact creates (closeRecord_keeps _ _ s) ((keepsCourses_closeRecord _ _ s).every h.course every) x.1
      · exact every
      · exact fun i r hr => every i r (by rwa [record_writeReport] at hr)

theorem ReportKeeps.matchZone (h : ReportKeeps P t route s) (every : EveryRecord P s) :
    EveryRecord P (matchZone t route s).1 := by
  have closed (l : List SlotId) (reason : ClosureReason) : EveryRecord P (closeTouching l reason s).1 :=
    (keepsCourses_closeAll l reason s).every h.course every
  cases hz : zoneAt s.tables t.heading t.position with
  | none =>
    rw [matchZone_outside hz]
    exact closed _ _
  | some z =>
    by_cases hk : z.signal.toNat < 16
    · rw [matchZone_zone (k := ⟨_, hk⟩) hz rfl]
      by_cases hkind : z.kind = 1
      · cases hfound : s.findRecord t.bus ⟨_, hk⟩ with
        | none =>
          rw [inZone_checkOut_none hkind hfound]
          exact every
        | some x =>
          rw [inZone_checkOut hkind hfound]
          exact closed _ _
      · cases hadmits : (s.ctx ⟨_, hk⟩).state.admits with
        | true =>
          rw [inZone_checkIn hkind hadmits]
          exact h.checkIn every _ z
        | false =>
          rw [inZone_closed hkind hadmits]
          exact every
    · rw [matchZone_nowhere hz (Nat.not_lt.mp hk)]
      exact every

theorem ReportKeeps.updateRecords (h : ReportKeeps P t route s) (hu : SameConfig s u) (every : EveryRecord P u) :
    EveryRecord P (updateRecords t u).1 := by
  have refreshed {r : RequestRecord} (hr : P r) (hp : r.state ≠ .projected) : P (r.refreshed t u) := by
    rw [refreshed_eq hp]
    exact h.course (sameCourse_reexamined _ _ _) (h.refreshed hu hr hp)
  have halfway : EveryRecord P (refreshRecords t u).1 := by
    intro i q hq
    rw [refreshRecords_record] at hq
    obtain ⟨r, hr, rfl⟩ := Option.map_eq_some_iff.mp hq
    split
    · next hcond =>
      simp only [Bool.and_eq_true, bne_iff_ne] at hcond
      exact refreshed (every i r hr) hcond.1.2
    · exact every i r hr
  intro i q hq
  rw [updateRecords_record] at hq
  obtain ⟨r, hr, rfl⟩ := Option.map_eq_some_iff.mp hq
  obtain ⟨-, hp, e⟩ | ⟨-, hp, -, e⟩ | ⟨-, e⟩ := updated_cases r t u <;> rw [e]
  · exact h.reestimated (hu.trans (onlyRecords_refreshRecords t u).keeps) halfway (every i r hr) hp
  · exact refreshed (every i r hr) hp
  · exact every i r hr

/-- What everything a report makes of a record keeps holds of every record it leaves. -/
theorem ReportKeeps.actOnReport (h : ReportKeeps P t route s) (every : EveryRecord P s) :
    EveryRecord P (actOnReport t route s) := by
  cases hcancel : t.cancel with
  | true =>
    rw [actOnReport_cancel hcancel]
    exact ((keepsCourses_closeAll _ _ s).trans (keepsCourses_evaluateTouched _ _)).every h.course every
  | false =>
    rw [actOnReport_update hcancel]
    exact (keepsCourses_evaluateTouched _ _).every h.course
      (h.updateRecords (matched_matchZone t route s).toSameConfig (h.matchZone every))

end

end Sys2Proof.Machine
end

section
/-! Records of different buses or signals, and timers that stand with the state of their record (R55, R57). -/

namespace Sys2Proof.Machine

theorem recordTimersOk_iff (s : State) : RecordTimersOk s ↔ EveryRecord RequestRecord.TimersOk s :=
  everyRecord_iff_records RequestRecord.TimersOk s

theorem afterReset_record (s : State) (held : Bool) (own : Option (BitVec 6)) (i : SlotId) :
    (afterReset s held own).record i = none := by
  simp [State.record, afterReset, resetValues]

theorem uniqueRecords_of_empty {s : State} (h : ∀ i, s.record i = none) : UniqueRecords s :=
  (uniqueRecords_iff s).mpr fun i _ r _ hr => by rw [h] at hr; cases hr

theorem uniqueRecords_actOnReport (t : TakenReport) (route : Fin 32) {s : State} (h : UniqueRecords s) :
    UniqueRecords (actOnReport t route s) := by
  cases hcancel : t.cancel with
  | true =>
    rw [actOnReport_cancel hcancel]
    exact ((keepsCourses_closeAll _ _ s).trans (keepsCourses_evaluateTouched _ _)).uniqueRecords h
  | false =>
    rw [actOnReport_update hcancel]
    exact ((matched_matchZone t route s).unique h).congr (updateAndEvaluate_key _ _ _)

/-- What a report makes of a record has the timers of its state (R57): only a record made or converted gets another
state, and only a projected one has an expiry of its projection. -/
theorem reportKeeps_timersOk (t : TakenReport) (route : Fin 32) (s : State) :
    ReportKeeps RequestRecord.TimersOk t route s where
  course := SameCourse.timersOk
  made _ _ _ := ⟨iff_of_false nofun nofun, iff_of_false nofun nofun⟩
  rejoined _ _ hr hp := by
    obtain ⟨armed, -⟩ := hr
    refine ⟨iff_of_false (fun entry => ?_) nofun, iff_of_false nofun nofun⟩
    rw [armed.mp entry] at hp
    cases hp
  projected _ _ _ _ _ _ := ⟨iff_of_false nofun nofun, iff_of_true rfl rfl⟩
  refreshed _ hr _ := hr
  reestimated {u r} _ _ hr hp := by
    obtain ⟨armed, expires⟩ := hr
    rw [reestimated_eq hp]
    refine ⟨armed, iff_of_true ?_ hp⟩
    unfold RequestRecord.movedBehind
    split
    · rfl
    · exact expires.mpr hp

/-- The records are of different buses or signals, with the timers of their states (R55, R57). -/
def RecordsSound (s : State) : Prop := UniqueRecords s ∧ EveryRecord RequestRecord.TimersOk s

theorem KeepsCourses.recordsSound {s t : State} (h : KeepsCourses s t) (hs : RecordsSound s) : RecordsSound t :=
  ⟨h.uniqueRecords hs.1, h.every SameCourse.timersOk hs.2⟩

theorem recordsSound_effect {s : State} (hs : RecordsSound s) (c : Instr) : RecordsSound (effect c s) := by
  obtain stands | ⟨r, u, footing, e⟩ := standsOrReports_effect c s
  · exact stands.courses.recordsSound hs
  · obtain ⟨unique, timers⟩ := (keepsCourses_of_record footing.record).recordsSound hs
    rw [e]
    obtain e | ⟨t, route, -, -, e⟩ := takeBusReport_cases r u <;> rw [e]
    · exact ⟨unique, timers⟩
    · exact ⟨uniqueRecords_actOnReport t route unique, (reportKeeps_timersOk t route u).actOnReport timers⟩

/-- Settles O49: only a bus report makes or converts a record, and it makes one only where its bus has none. -/
theorem recordsStayUnique : Obligations.RecordsStayUnique := by
  intro s t unique timers h
  rw [recordTimersOk_iff] at timers ⊢
  refine step_keeps (P := RecordsSound) (fun _ _ => id) (fun _ _ => id) (fun _ _ => id) (fun c s t hs h => ?_)
    ⟨unique, timers⟩ h
  refine exec_keeps (P := RecordsSound) (fun s held own => ?_) (fun c s _ _ hs => ?_) hs h
  · have empty := afterReset_record s held own
    exact ⟨uniqueRecords_of_empty empty, everyRecord_of_empty empty⟩
  · exact (keepsCourses_of_record (finish_record (effect c s))).recordsSound (recordsSound_effect hs c)

end Sys2Proof.Machine
end

section
/-! Records stand on VALID corridor-wide tables and an in-use route, with scores in range (R41, R53, R91 to R94, R169). -/

namespace Sys2Proof.Machine

/-! ## What the checks of R169 bound -/

theorem corridorValid_of_active {s : State} (derived : DerivedOk s) (load : LoadOk s) (h : s.mode = .active) :
    CorridorValid s := by
  obtain ⟨-, mode, -⟩ := derived
  obtain ⟨-, reloading⟩ := load
  rw [h, corridorMode] at mode
  split at mode
  · cases mode
  · next valid =>
    split at mode
    · cases mode
    · next closed =>
      intro id hid
      cases hv : s.validity.get id with
      | valid => rfl
      | invalid => cases id <;> simp_all [Validities.get, TableId.corridorWide]
      | reloading =>
        obtain ⟨l, hl, rfl⟩ := Option.map_eq_some_iff.mp (reloading id hv)
        cases ht : l.table <;> simp_all [State.corridorLoad, TableId.corridorWide]

theorem latenessPoints_le (e : RouteEntry) (l : Option Int) : latenessPoints e l ≤ 127 := by
  unfold latenessPoints
  split <;> omega

theorem GlobalMeets.points_le {e : GlobalEntry} (h : GlobalMeets e) (level : Fin 4) : e.points level ≤ 63 := by
  obtain ⟨-, -, -, -, h0, h1, h2, h3, -⟩ := h
  match level with
  | 0 => exact h0
  | 1 => exact h1
  | 2 => exact h2
  | 3 => exact h3

/-- A score is at most the greatest base score, lateness points and occupancy points together (R91). -/
theorem baseScore_le {g : GlobalEntry} {e : RouteEntry} (hg : GlobalMeets g) (he : RouteMeets e) (lateness : Option Int)
    (level : Fin 4) : baseScore g e lateness level ≤ 253 := by
  obtain ⟨-, base, -⟩ := he
  have late := latenessPoints_le e lateness
  have occupancy := hg.points_le level
  unfold baseScore
  split <;> omega

theorem ValidTablesPass.global {s : State} (h : ValidTablesPass s) (hvalid : s.validity.global = .valid) :
    GlobalMeets s.tables.global :=
  h.met (n := 0) (row := ⟨[.global], .global, checkGlobal s.tables⟩) rfl (by simpa [Validities.get] using hvalid) 0 rfl

theorem ValidTablesPass.route {s : State} (h : ValidTablesPass s) (hvalid : s.validity.route = .valid) {i : Fin 32}
    (hi : flagSet s.tables.route[i].inUse = true) : RouteMeets s.tables.route[i] := by
  have row := h.met (n := 8) (row := ⟨[.route], .route, checkRoutes s.tables⟩) rfl
    (by simpa [Validities.get] using hvalid) i.val
  exact (row i rfl ((flagSet_iff _).mp hi)).1

theorem resolveRoute_inUse {t : TableStore} {number : Half} {i : Fin 32} (h : resolveRoute t number = some i) :
    flagSet t.route[i].inUse = true := by
  obtain h | ⟨-, h⟩ := Option.or_eq_some_iff.mp h
  all_goals
    have both := List.find?_some h
    rw [Bool.and_eq_true] at both
    exact both.1

/-! ## Records backed by their tables -/

/-- A record's ROUTE entry is in use and its score in range (R53, R91). -/
def RequestRecord.Backed (t : TableStore) (r : RequestRecord) : Prop :=
  flagSet t.route[r.routeIndex].inUse = true ∧ r.score ≤ 253

/-- While a record exists the corridor-wide tables are VALID, and every record is backed by its ROUTE entry. -/
def RecordsBacked (s : State) : Prop :=
  ((∃ i, s.record i ≠ none) → CorridorValid s) ∧ EveryRecord (RequestRecord.Backed s.tables) s

theorem recordsBacked_iff (s : State) : RecordsBacked s ↔ RecordTablesOk s ∧ ScoresOk s := by
  constructor
  · rintro ⟨valid, backed⟩
    refine ⟨fun x hx => ?_, fun x hx => (backed x.1 x.2 ((s.mem_records x).mp hx)).2⟩
    have hr := (s.mem_records x).mp hx
    obtain ⟨hglobal, hzone, hroute, hsegment⟩ := (corridorValid_iff s).mp (valid ⟨x.1, by rw [hr]; nofun⟩)
    exact ⟨hglobal, hzone, hroute, hsegment, (backed x.1 x.2 hr).1⟩
  · rintro ⟨standing, scored⟩
    refine ⟨fun ⟨i, hi⟩ => ?_, fun i r hr => ?_⟩
    · obtain ⟨r, hr⟩ := Option.ne_none_iff_exists'.mp hi
      obtain ⟨hglobal, hzone, hroute, hsegment, -⟩ := standing (i, r) ((s.mem_records (i, r)).mpr hr)
      exact (corridorValid_iff s).mpr ⟨hglobal, hzone, hroute, hsegment⟩
    · have hx := (s.mem_records (i, r)).mpr hr
      obtain ⟨-, -, -, -, inUse⟩ := standing (i, r) hx
      exact ⟨inUse, scored (i, r) hx⟩

theorem recordsBacked_of_empty {s : State} (h : ∀ i, s.record i = none) : RecordsBacked s :=
  ⟨fun ⟨i, hi⟩ => absurd (h i) hi, everyRecord_of_empty h⟩

theorem SameCourse.backed {t : TableStore} {r q : RequestRecord} (h : SameCourse r q) (hr : r.Backed t) :
    q.Backed t := by
  simp only [RequestRecord.Backed, h.routeIndex, h.score]
  exact hr

/-- Records that stand stay backed. -/
theorem Stands.recordsBacked {s t : State} (h : Stands s t) (load : LoadOk s) (hs : RecordsBacked s) :
    RecordsBacked t := by
  obtain ⟨valid, backed⟩ := hs
  have tables (left : ∃ i, t.record i ≠ none) : CorridorValid t ∧ t.tables.route = s.tables.route := by
    refine h.tables load (valid ?_) left
    obtain ⟨i, hi⟩ := left
    obtain ⟨q, hq⟩ := Option.ne_none_iff_exists'.mp hi
    obtain ⟨r, hr, -⟩ := h.courses i q hq
    exact ⟨i, by rw [hr]; nofun⟩
  refine ⟨fun left => (tables left).1, fun i q hq => ?_⟩
  rw [RequestRecord.Backed, (tables ⟨i, by rw [hq]; nofun⟩).2]
  exact h.courses.every SameCourse.backed backed i q hq

/-- What a report makes of a record is backed: its route is the resolved one or that of a record before it, and its score
a base score, less a penalty when it is PROJECTED. -/
theorem reportKeeps_backed (t : TakenReport) {route : Fin 32} {s : State}
    (inUse : flagSet s.tables.route[route].inUse = true)
    (scored : ∀ (i : Fin 32) (lateness : Option Int) (level : Fin 4), flagSet s.tables.route[i].inUse = true →
      baseScore s.tables.global s.tables.route[i] lateness level ≤ 253) :
    ReportKeeps (RequestRecord.Backed s.tables) t route s where
  course := SameCourse.backed
  made _ _ hu := ⟨inUse, by rw [← hu.tables] at scored inUse; exact scored route _ _ inUse⟩
  rejoined {u r} _ hu hr _ := ⟨hr.1, by
    have e := scored r.routeIndex t.latenessSec t.occupancy hr.1
    rw [← hu.tables] at e
    exact e⟩
  projected {u r} _ _ _ _ hu hr := ⟨hr.1, by
    have e := scored r.routeIndex r.latenessSec r.occupancy hr.1
    rw [← hu.tables] at e
    exact (Nat.sub_le _ _).trans e⟩
  refreshed {u r} hu hr _ := ⟨hr.1, by
    have e := scored r.routeIndex t.latenessSec t.occupancy hr.1
    rw [← hu.tables] at e
    exact e⟩
  reestimated {u r} hu _ hr hp := by
    have e := scored r.routeIndex r.latenessSec r.occupancy hr.1
    rw [← hu.tables] at e
    rw [reestimated_eq hp]
    exact ⟨hr.1, (Nat.sub_le _ _).trans e⟩

theorem recordsBacked_effect {s : State} (derived : DerivedOk s) (load : LoadOk s) (pass : ValidTablesPass s)
    (hs : RecordsBacked s) (c : Instr) : RecordsBacked (effect c s) := by
  obtain stands | ⟨r, u, footing, e⟩ := standsOrReports_effect c s
  · exact stands.recordsBacked load hs
  · have before := footing.stands.recordsBacked load hs
    rw [e]
    obtain e | ⟨t, route, hmode, hroute, e⟩ := takeBusReport_cases r u
    · rw [e]
      exact before
    · have valid := corridorValid_of_active derived load (footing.mode ▸ hmode)
      obtain ⟨hglobal, -, hroutes, -⟩ := (corridorValid_iff s).mp valid
      have scored (i : Fin 32) (lateness : Option Int) (level : Fin 4) (hi : flagSet u.tables.route[i].inUse = true) :
          baseScore u.tables.global u.tables.route[i] lateness level ≤ 253 := by
        rw [footing.tables] at hi ⊢
        exact baseScore_le (pass.global hglobal) (pass.route hroutes hi) lateness level
      have config := takeBusReport_keeps r u
      refine ⟨fun _ id hid => ?_, ?_⟩
      · rw [config.validity, footing.validity]
        exact valid id hid
      · rw [config.tables, e]
        exact (reportKeeps_backed t (resolveRoute_inUse hroute) scored).actOnReport before.2

theorem recordsBacked_exec {c : Instr} {s t : State} (h : exec c s = .next t) (derived : DerivedOk s) (load : LoadOk s)
    (pass : ValidTablesPass s) (hs : RecordsBacked s) : RecordsBacked t := by
  obtain ⟨own, -, rfl⟩ | ⟨-, rfl⟩ | ⟨own, -, rfl⟩ | ⟨-, -, rfl⟩ | ⟨-, -, rfl⟩ := exec_cases h
  · exact recordsBacked_of_empty (afterReset_record s _ _)
  · exact recordsBacked_of_empty (afterReset_record s _ _)
  · unfold releaseReset
    split
    · exact recordsBacked_of_empty (afterReset_record s _ _)
    · exact hs
  · exact hs
  · exact recordsBacked_effect derived load pass hs c

/-- Settles O57: a report makes records only in mode ACTIVE, where the tables are VALID, and a load that takes one of them
out of VALID closes every record. -/
theorem scoresStayBounded : Obligations.ScoresStayBounded := by
  intro s t derived load pass hroute hscore h
  rw [← recordsBacked_iff]
  have hs := (recordsBacked_iff s).mpr ⟨hroute, hscore⟩
  obtain ⟨c, rest, -, e⟩ | ⟨-, -, e⟩ | ⟨-, -, -, e⟩ | ⟨c, -, -, -, e⟩ := step_cases s <;> rw [e] at h
  · exact recordsBacked_exec h derived load pass hs
  · cases h
    exact hs
  · cases h
    exact hs
  · exact recordsBacked_exec h derived load pass hs

end Sys2Proof.Machine
end

section
/-! Corridor times apart by less than half the clock's span (R74, R88): their differences add up and turn around as
integers do. -/

namespace Sys2Proof.Machine

/-- Two differences add up to a third while their sum is in the signed range. -/
theorem timeDiff_add {a b c : Time} (hlow : -2147483648 ≤ timeDiff a b + timeDiff b c)
    (hhigh : timeDiff a b + timeDiff b c < 2147483648) : timeDiff a c = timeDiff a b + timeDiff b c := by
  have split : a - c = (a - b) + (b - c) := by
    rw [BitVec.sub_eq_add_neg b, ← BitVec.add_assoc, BitVec.sub_add_cancel, BitVec.sub_eq_add_neg]
  unfold timeDiff at *
  rw [split, BitVec.toInt_add]
  exact Int.bmod_eq_of_le (by omega) (by omega)

theorem timeDiff_comm {a b : Time} (h : -2147483648 < timeDiff a b) : timeDiff b a = -timeDiff a b := by
  have below : timeDiff a b < 2147483648 := BitVec.toInt_lt
  unfold timeDiff at *
  have turned : b - a = -(a - b) := by rw [BitVec.neg_sub, BitVec.add_comm, ← BitVec.sub_eq_add_neg]
  rw [turned, BitVec.toInt_neg]
  exact Int.bmod_eq_of_le (by omega) (by omega)

theorem timeDiff_later {n : Nat} (h : n < 2147483648) (a : Time) : timeDiff (later a n) a = n := by
  rw [timeDiff, later, BitVec.add_comm, BitVec.add_sub_cancel, BitVec.toInt_ofNat']
  exact Int.bmod_eq_of_le (by omega) (by omega)

end Sys2Proof.Machine
end

section
/-! The times of a record lie within an hour of the corridor clock while it is open, so that none of them meets the wrap of
the clock (R46, R47, R74, R75, R87, R88). -/

namespace Sys2Proof.Machine

/-- A time at most 255 s before a corridor time and at most one hour after it. -/
def WithinHour (now a : Time) : Prop := -2550 ≤ timeDiff a now ∧ timeDiff a now ≤ 36000

/-- A record's timers stand with its state and its times lie within an hour of the clock (R57, R88). -/
structure RequestRecord.InTime (now : Time) (r : RequestRecord) : Prop where
  timers : r.TimersOk
  arrival : WithinHour now r.arrival
  age : r.state ≠ .projected → 0 ≤ timeDiff r.ageExpiry now ∧ timeDiff r.ageExpiry now ≤ 2550 ∧
    timeDiff r.ageExpiry r.arrival ≤ 2550
  expiry : ∀ x ∈ r.projectionExpiry, 0 ≤ timeDiff x r.arrival ∧ timeDiff x r.arrival ≤ 2550

theorem inTime_iff (s : State) : EveryRecord (RequestRecord.InTime s.clock) s ↔ RecordTimersOk s ∧ ArrivalsOk s := by
  rw [← everyRecord_iff_records]
  constructor
  · intro h
    exact ⟨fun x hx => (h x hx).timers,
      fun x hx => ⟨(h x hx).arrival.1, (h x hx).arrival.2, (h x hx).age, (h x hx).expiry⟩⟩
  · rintro ⟨timers, arrivals⟩ x hx
    obtain ⟨low, high, age, expiry⟩ := arrivals x hx
    exact ⟨timers x hx, ⟨low, high⟩, age, expiry⟩

theorem SameCourse.inTime {now : Time} {r q : RequestRecord} (h : SameCourse r q) (hr : r.InTime now) :
    q.InTime now where
  timers := h.timersOk hr.timers
  arrival := by rw [h.arrival]; exact hr.arrival
  age hq := by
    rw [h.ageExpiry, h.arrival]
    exact hr.age fun hp => hq (h.projected_iff.mpr hp)
  expiry x hx := by
    rw [h.projectionExpiry] at hx
    rw [h.arrival]
    exact hr.expiry x hx

/-! ## The times that a report sets -/

theorem tenfold_byte_le (b : Byte) : 10 * b.toNat ≤ 2550 := by
  have : b.toNat < 256 := b.isLt
  omega

theorem travelSum_le (g : GlobalEntry) (e : SignalEntry) (r : RequestRecord) : travelSum g e r ≤ 36000 := by
  unfold travelSum
  dsimp only
  split
  · exact Nat.zero_le _
  · exact Nat.min_le_left _ _

/-- An arrival beyond one within the hour is within the hour (R46). -/
theorem withinHour_projectedArrival {now preceding : Time} (h : WithinHour now preceding) (g : SegmentEntry) :
    WithinHour now (projectedArrival now preceding g) := by
  obtain ⟨low, high⟩ := h
  have travel : g.travel.toNat < 65536 := g.travel.isLt
  have dwell : g.dwell.toNat < 65536 := g.dwell.isLt
  have beyond := timeDiff_later (n := g.travel.toNat + g.dwell.toNat) (by omega) preceding
  have sum := timeDiff_add (a := later preceding (g.travel.toNat + g.dwell.toNat)) (b := preceding) (c := now)
    (by omega) (by omega)
  have cap : timeDiff (later now 36000) now = 36000 := timeDiff_later (by omega) now
  unfold projectedArrival arrivalCap
  dsimp only
  split
  · exact ⟨by omega, by omega⟩
  · exact ⟨by omega, by omega⟩

theorem projectionExpiryTime_within (s : State) (k : SignalId) (a : Time) :
    0 ≤ timeDiff (projectionExpiryTime s k a) a ∧ timeDiff (projectionExpiryTime s k a) a ≤ 2550 := by
  have grace := tenfold_byte_le (s.signalEntry k).projectionGrace
  rw [projectionExpiryTime, timeDiff_later (by omega)]
  exact ⟨by omega, by omega⟩

/-- The times that a report sets in a record of origin CHECK_IN (R75, R82, R87). -/
theorem inTime_reported {r : RequestRecord} {t : TakenReport} {s : State} (timers : (r.reported t s).TimersOk)
    (h : r.state ≠ .projected) : (r.reported t s).InTime s.clock := by
  obtain ⟨travel, travels, harrival⟩ : ∃ n, n ≤ 36000 ∧ (r.reported t s).arrival = later s.clock n :=
    ⟨_, travelSum_le _ _ _, rfl⟩
  obtain ⟨hold, holds, hage⟩ : ∃ n, n ≤ 2550 ∧ (r.reported t s).ageExpiry = later s.clock n :=
    ⟨_, tenfold_byte_le _, rfl⟩
  have arrival := timeDiff_later (n := travel) (by omega) s.clock
  have age := timeDiff_later (n := hold) (by omega) s.clock
  have back := timeDiff_comm (a := later s.clock travel) (b := s.clock) (by omega)
  have apart := timeDiff_add (a := later s.clock hold) (b := s.clock) (c := later s.clock travel) (by omega) (by omega)
  rw [← harrival] at arrival back apart
  rw [← hage] at age apart
  refine ⟨timers, ⟨by omega, by omega⟩, fun _ => ⟨by omega, by omega, by omega⟩, fun x hx => ?_⟩
  exact absurd (timers.2.mp (Option.isSome_iff_exists.mpr ⟨x, hx⟩)) h

/-- A record projected beyond one within the hour (R45, R46, R47). -/
theorem inTime_projectedRecord {r : RequestRecord} {s : State} (h : WithinHour s.clock r.arrival) (next : Fin 128)
    (k : SignalId) (d : Direction) (doors : Bool) : (projectedRecord r next k d doors s).InTime s.clock where
  timers := ⟨iff_of_false nofun nofun, iff_of_true rfl rfl⟩
  arrival := withinHour_projectedArrival h _
  age h := absurd rfl h
  expiry x hx := by
    obtain rfl : projectionExpiryTime s k (projectedArrival s.clock r.arrival s.tables.segment[next]) = x :=
      Option.some.inj hx
    exact projectionExpiryTime_within s k _

/-- A record re-estimated behind another that is within the hour, or behind none (R48). -/
theorem inTime_reestimated {r : RequestRecord} {s : State} (every : EveryRecord (RequestRecord.InTime s.clock) s)
    (hr : r.InTime s.clock) (hp : r.state = .projected) (t : TakenReport) : (r.reestimated t s).InTime s.clock := by
  have timers := (reportKeeps_timersOk t 0 s).reestimated (SameConfig.refl s) (fun i q hq => (every i q hq).timers)
    hr.timers hp
  rw [reestimated_eq hp] at timers ⊢
  have moved : WithinHour s.clock (r.movedBehind (precedingRecord r s) s).arrival ∧
      ∀ x ∈ (r.movedBehind (precedingRecord r s) s).projectionExpiry,
        0 ≤ timeDiff x (r.movedBehind (precedingRecord r s) s).arrival ∧
          timeDiff x (r.movedBehind (precedingRecord r s) s).arrival ≤ 2550 := by
    cases hq : precedingRecord r s with
    | none => exact ⟨hr.arrival, hr.expiry⟩
    | some q =>
      obtain ⟨c, -, j, hc, -, hj, -⟩ := precedes_of_precedingRecord hq
      obtain ⟨arrival, expiry⟩ := movedBehind_some (q := q) hc s
      rw [arrival, expiry]
      refine ⟨withinHour_projectedArrival (every j q hj).arrival _, fun x hx => ?_⟩
      cases Option.some.inj hx
      exact projectionExpiryTime_within s _ _
  exact ⟨timers, moved.1, fun h => absurd hp h, moved.2⟩

theorem reportKeeps_inTime (t : TakenReport) (route : Fin 32) (s : State) :
    ReportKeeps (RequestRecord.InTime s.clock) t route s := by
  have timed := reportKeeps_timersOk t route s
  constructor
  case course => exact SameCourse.inTime
  case made =>
    intro u k z hu
    rw [← hu.clock]
    exact inTime_reported (timed.made k z hu) nofun
  case rejoined =>
    intro u r z hu hr hp
    rw [← hu.clock]
    exact inTime_reported (timed.rejoined z hu hr.timers hp) nofun
  case projected =>
    intro u r next k d doors hu hr
    rw [← hu.clock] at hr ⊢
    exact inTime_projectedRecord hr.arrival next k d doors
  case refreshed =>
    intro u r hu hr hp
    rw [← hu.clock]
    exact inTime_reported (timed.refreshed hu hr.timers hp) hp
  case reestimated =>
    intro u r hu every hr hp
    rw [← hu.clock] at every hr ⊢
    exact inTime_reestimated every hr hp t

/-! ## The clock runs on (R74) -/

/-- A record none of whose expiries is due is in time one unit later. -/
theorem inTime_tick {now : Time} {r : RequestRecord} (h : r.InTime now)
    (hage : r.state ≠ .projected → timeDiff now r.ageExpiry < 0)
    (hprojection : ∀ x ∈ r.projectionExpiry, timeDiff now x < 0) : r.InTime (now + 1) := by
  obtain ⟨timers, ⟨low, high⟩, age, expiry⟩ := h
  have unit : timeDiff now (now + 1) = -1 := by
    have on : timeDiff (now + 1) now = 1 := timeDiff_later (n := 1) (by omega) now
    rw [timeDiff_comm (by omega), on]
  have ran {a : Time} (hlow : -100000 ≤ timeDiff a now) (hhigh : timeDiff a now ≤ 100000) :
      timeDiff a (now + 1) = timeDiff a now - 1 := by
    rw [timeDiff_add (b := now) (by omega) (by omega), unit]
    rfl
  have arrival := ran (a := r.arrival) (by omega) (by omega)
  have ahead : -2550 < timeDiff r.arrival now := by
    by_cases hp : r.state = .projected
    · obtain ⟨x, hx⟩ := Option.isSome_iff_exists.mp (timers.2.mpr hp)
      obtain ⟨after, late⟩ := expiry x hx
      have due := hprojection x hx
      have total := timeDiff_add (a := x) (b := r.arrival) (c := now) (by omega) (by omega)
      have back := timeDiff_comm (a := x) (b := now) (by omega)
      omega
    · obtain ⟨future, near, late⟩ := age hp
      have due := hage hp
      have back := timeDiff_comm (a := r.ageExpiry) (b := now) (by omega)
      have turned := timeDiff_comm (a := r.arrival) (b := now) (by omega)
      have total := timeDiff_add (a := r.ageExpiry) (b := now) (c := r.arrival) (by omega) (by omega)
      omega
  refine ⟨timers, ⟨by omega, by omega⟩, fun hp => ?_, expiry⟩
  obtain ⟨future, near, late⟩ := age hp
  have due := hage hp
  have back := timeDiff_comm (a := r.ageExpiry) (b := now) (by omega)
  have aged := ran (a := r.ageExpiry) (by omega) (by omega)
  exact ⟨by omega, by omega, late⟩

/-! ## Every step -/

/-- Every record is in time. -/
def RecordsInTime (s : State) : Prop := EveryRecord (RequestRecord.InTime s.clock) s

theorem recordsInTime_effect {s : State} (hs : RecordsInTime s) (c : Instr) : RecordsInTime (effect c s) := by
  obtain ⟨-, -, clock, -⟩ := effect_rest c s
  rw [RecordsInTime, clock]
  obtain stands | ⟨r, u, footing, e⟩ := standsOrReports_effect c s
  · exact stands.courses.every SameCourse.inTime hs
  · have before := (keepsCourses_of_record footing.record).every SameCourse.inTime hs
    rw [e]
    obtain e | ⟨t, route, -, -, e⟩ := takeBusReport_cases r u <;> rw [e]
    · exact before
    · rw [← footing.clock] at before ⊢
      exact (reportKeeps_inTime t route u).actOnReport before

theorem recordsInTime_exec {c : Instr} {s t : State} (h : exec c s = .next t) (hs : RecordsInTime s) :
    RecordsInTime t :=
  exec_keeps (P := RecordsInTime) (fun s held own => everyRecord_of_empty (afterReset_record s held own))
    (fun c _ _ _ hs => recordsInTime_effect hs c) hs h

/-- The clock runs on only while no expiry is due. -/
theorem recordsInTime_tick {s : State} (hdue : dueEvents s = []) (hs : RecordsInTime s) : RecordsInTime (tick s) := by
  have notDue (c : Instr) : ¬ Due s c := by
    rw [← mem_dueEvents_iff, hdue]
    exact List.not_mem_nil
  intro i r hr
  exact inTime_tick (hs i r hr) (fun hp => not_le.mp fun h => notDue (.ageExpiry i) ⟨r, hr, hp, h⟩) fun x hx =>
    not_le.mp fun h => notDue (.projectionExpiry i)
      ⟨r, x, hr, (hs i r hr).timers.2.mp (Option.isSome_iff_exists.mpr ⟨x, hx⟩), hx, h⟩

theorem remaining_le {now a : Time} (h : WithinHour now a) : remaining now a ≤ 36000 := by
  obtain ⟨-, high⟩ := h
  rw [remaining]
  omega

/-- Settles O58: the clock runs on only while no expiry is due, and the expiry that a record waits for stands at most
255 s after its arrival. -/
theorem arrivalsNeverMeetTheWrap : Obligations.ArrivalsNeverMeetTheWrap := by
  intro s t timers arrivals h
  have hs : RecordsInTime s := (inTime_iff s).mpr ⟨timers, arrivals⟩
  have ht : RecordsInTime t := by
    obtain ⟨c, rest, -, e⟩ | ⟨-, -, e⟩ | ⟨-, -, hdue, e⟩ | ⟨c, -, -, -, e⟩ := step_cases s <;> rw [e] at h
    · exact recordsInTime_exec h hs
    · cases h
      exact hs
    · cases h
      exact recordsInTime_tick hdue hs
    · exact recordsInTime_exec h hs
  exact ⟨((inTime_iff t).mp ht).2, fun i x hx => remaining_le (ht i x hx).arrival⟩

end Sys2Proof.Machine
end

section
/-! The projection attempt (R44 to R47) and the expiries of a record (R47, R75), each as one event. -/

namespace Sys2Proof.Machine

/-! ## The projection attempt -/

theorem lowestFree_none_iff {s : State} {j : SlotId} : LowestFree s none j ↔ s.freeSlot = some j := by
  rw [freeSlot_eq_some_iff, LowestFree]
  simp

/-- The fields of the record that a projection makes (R45, R47, R94). -/
theorem projectedFrom_projectedRecord (s : State) (r : RequestRecord) (next : Fin 128) (k : SignalId) (d : Direction)
    (doors : Bool) : ProjectedFrom s r next k d doors (projectedRecord r next k d doors s) :=
  ⟨rfl, rfl, rfl, rfl, rfl, rfl, rfl, rfl, rfl, rfl, rfl, rfl, rfl, rfl, rfl, rfl, rfl, rfl, rfl, rfl, rfl⟩

/-- Settles O29. -/
theorem projectionFollowsChain : Obligations.ProjectionFollowsChain := by
  intro i r doors s hr
  simp only [lowestFree_none_iff]
  refine ⟨fun next k d j hopen hj => ?_, fun hclosed => ?_⟩
  · refine ⟨_, attemptProjection_open hr hopen hj doors, projectedFrom_projectedRecord s r next k d doors,
      isChainedArrival_projectedArrival _ _ _, ?_⟩
    exact ⟨rfl, rfl, rfl, rfl, rfl⟩
  · exact attemptProjection_closed hr (hclosed.imp_right Option.eq_none_iff_forall_ne_some.mpr) doors

/-! ## What a closure and an evaluation leave of the other signals -/

theorem SameBeyond.trans {k : SignalId} {s t u : State} (h : SameBeyond k s t) (g : SameBeyond k t u) :
    SameBeyond k s u :=
  ⟨fun j hj => (g.1 j hj).trans (h.1 j hj), fun i r hr => (g.2 i r hr).trans (h.2 i r hr)⟩

theorem sameBeyond_closeRecord {i : SlotId} {x : RequestRecord} {s : State} (hx : s.record i = some x)
    (reason : ClosureReason) : SameBeyond x.signal s (closeRecord i reason s) := by
  refine ⟨fun k hk => closeRecord_ctx_ne i reason s x k hx hk, fun j r hr => ?_⟩
  by_cases hj : j = i
  · subst hj
    rw [closeRecord_slot, hx]
    refine iff_of_false nofun fun e => hr ?_
    rw [Option.some.inj e]
  · rw [closeRecord_other i j reason s hj]

theorem sameBeyond_evaluate {s : State} (hs : HoldersOk s) (k : SignalId) : SameBeyond k s (evaluate k s) := by
  have serves := serves_evaluate k s
  refine ⟨serves.ctxOther, fun i r hr => ⟨fun h => ?_, fun h => evaluate_record_other hs h hr⟩⟩
  have unserved := serves.record i
  rw [h, Option.map_some, eq_comm, Option.map_eq_some_iff] at unserved
  obtain ⟨x, hx, unserved⟩ := unserved
  have stays := evaluate_record_other hs hx (k := k) (by rw [unserved_signal unserved]; exact hr)
  rw [h] at stays
  rw [hx, ← stays]

/-! ## A record that expires -/

theorem exec_ageExpiry (i : SlotId) (s : State) : exec (.ageExpiry i) s = .next (event (takeAgeExpiry i) s) := by
  rfl

theorem exec_projectionExpiry (i : SlotId) (s : State) :
    exec (.projectionExpiry i) s = .next (event (takeProjectionExpiry i) s) := by
  rfl

theorem takeAgeExpiry_due {i : SlotId} {x : RequestRecord} {s : State} (hx : s.record i = some x)
    (h : Due s (.ageExpiry i)) : takeAgeExpiry i s = evaluate x.signal (closeRecord i .expired s) := by
  have due := (ageDue_iff s i).mpr h
  rw [slotMeets, hx] at due
  rw [takeAgeExpiry, hx]
  exact if_pos due

theorem takeAgeExpiry_early {i : SlotId} {s : State} (h : ¬ Due s (.ageExpiry i)) : takeAgeExpiry i s = s := by
  rw [← ageDue_iff] at h
  unfold takeAgeExpiry
  split
  · rfl
  · next x hx =>
    rw [slotMeets, hx] at h
    exact if_neg h

theorem takeProjectionExpiry_due {i : SlotId} {x : RequestRecord} {s : State} (hx : s.record i = some x)
    (h : Due s (.projectionExpiry i)) :
    takeProjectionExpiry i s = evaluate x.signal (closeRecord i .projectionLapsed s) := by
  have due := (projectionDue_iff s i).mpr h
  rw [slotMeets, hx] at due
  rw [takeProjectionExpiry, hx]
  exact if_pos due

theorem takeProjectionExpiry_early {i : SlotId} {s : State} (h : ¬ Due s (.projectionExpiry i)) :
    takeProjectionExpiry i s = s := by
  rw [← projectionDue_iff] at h
  unfold takeProjectionExpiry
  split
  · rfl
  · next x hx =>
    rw [slotMeets, hx] at h
    exact if_neg h

theorem Works.finish_sameReceiver {s t : State} (h : Works s t) (q : PortId) :
    SameReceiver (s.port q) ((finish t).port q) := by
  have received : SameReceiver (s.port q) (t.port q) := SameReceiver.of_eq (by rw [h.port q])
  have sent := Port.transmit_keeps (t.port q) t.parity t.srcByte
  rw [finish_port]
  exact ⟨sent.state.trans received.state, sent.rate.trans received.rate, sent.hasRun.trans received.hasRun,
    sent.awaitingIdle.trans received.awaitingIdle, sent.rx.trans received.rx,
    sent.consecutiveBad.trans received.consecutiveBad, sent.badFrames.trans received.badFrames,
    sent.repeatDrops.trans received.repeatDrops⟩

/-- Settles O32: each expiry is a closure that is no passage, and the evaluation of the record's signal. -/
theorem expiriesCloseRecords : Obligations.ExpiriesCloseRecords := by
  refine ⟨fun c i x reason s hheld holders hx hdue hc => ?_, fun i s hheld => ⟨fun early => ?_, fun early => ?_⟩⟩
  · have closes : exec c s = .next (finish (evaluate x.signal (closeRecord i reason s))) ∧ reason.isPassage ≠ true := by
      obtain ⟨rfl, rfl⟩ | ⟨rfl, rfl⟩ := hc
      · rw [exec_ageExpiry, event_run _ s hheld, takeAgeExpiry_due hx hdue]
        exact ⟨rfl, nofun⟩
      · rw [exec_projectionExpiry, event_run _ s hheld, takeProjectionExpiry_due hx hdue]
        exact ⟨rfl, nofun⟩
    obtain ⟨hexec, passage⟩ := closes
    have closed := (matched_closeRecord i reason s).holders holders
    have serves := serves_evaluate x.signal (closeRecord i reason s)
    have works := (works_closeRecord i reason s).trans (works_evaluate x.signal _)
    have free : (evaluate x.signal (closeRecord i reason s)).record i = none := by
      have gone := serves.record i
      rwa [closeRecord_slot, Option.map_none, Option.map_eq_none_iff] at gone
    have unheld := (holdersOk_evaluate closed x.signal).holder_free free x.signal
    have beyond := (sameBeyond_closeRecord hx reason).trans (sameBeyond_evaluate closed x.signal)
    generalize evaluate x.signal (closeRecord i reason s) = m at *
    refine ⟨finish m, hexec, free, unheld, ?_, fun room => ?_, works.toSameConfig.trans (finish_keeps m), beyond,
      works.finish_sameReceiver⟩
    · rw [finish_ctx, serves.evaluated.lockout]
      exact closeRecord_lockout_keeps (x := (i, x)) hx fun h => absurd h passage
    · rw [finish_reports, serves.reports]
      exact closeRecord_report hx reason room
  · rw [exec_ageExpiry, event_run _ s hheld, takeAgeExpiry_early early]
  · rw [exec_projectionExpiry, event_run _ s hheld, takeProjectionExpiry_early early]

end Sys2Proof.Machine
end

section
/-! Events by what they work on: the line alone, or the contexts and the records by a report, a status frame, a timer or a
request. -/

namespace Sys2Proof.Machine

/-- From s to t nothing has changed of the configuration, the contexts and the records. -/
structure SameService (s t : State) : Prop extends SameConfig s t where
  ctx : ∀ k, t.ctx k = s.ctx k
  record : ∀ i, t.record i = s.record i

theorem SameService.refl (s : State) : SameService s s := ⟨SameConfig.refl s, fun _ => rfl, fun _ => rfl⟩

theorem SameService.trans {s t u : State} (h : SameService s t) (g : SameService t u) : SameService s u where
  toSameConfig := h.toSameConfig.trans g.toSameConfig
  ctx k := (g.ctx k).trans (h.ctx k)
  record i := (g.record i).trans (h.record i)

theorem sameService_setPort (p : PortId) (q : Port) (s : State) : SameService s (s.setPort p q) where
  toSameConfig := setPort_keeps p q s
  ctx k := State.ctx_setPort s p q k
  record i := State.record_setPort s p q i

theorem sameService_writeReport (b : ReportBody) (s : State) : SameService s (writeReport b s) where
  toSameConfig := writeReport_keeps b s
  ctx _ := rfl
  record _ := rfl

theorem sameService_finish (s : State) : SameService s (finish s) := ⟨finish_keeps s, finish_ctx s, finish_record s⟩

theorem sameService_takeCleanSync (p : PortId) (seen : List (Rate × LineChar)) (s : State) :
    SameService s (takeCleanSync p seen s) := by
  unfold takeCleanSync
  split
  · split
    · exact SameService.refl s
    · exact (sameService_setPort p _ s).trans (sameService_writeReport _ _)
  · exact SameService.refl s

theorem sameService_returnToLearning (p : PortId) (s : State) : SameService s (returnToLearning p s) := by
  unfold returnToLearning
  split
  · exact (sameService_setPort p _ s).trans (sameService_writeReport _ _)
  · exact SameService.refl s

/-- A property of the configuration, the contexts and the records that every report, status frame, request and timer keeps. -/
structure ServiceKeeps (P : State → Prop) : Prop where
  same : ∀ {s t}, SameService s t → P s → P t
  report : ∀ r {s}, P s → P (takeBusReport r s)
  status : ∀ p src f {s}, P s → P (handStatus p src f s)
  request : ∀ p kind payload {s}, P s → P (actRequest p kind payload s).1
  freshness : ∀ k {s}, P s → P (takeFreshnessExpiry k s)
  horizon : ∀ i {s}, P s → P (takeHorizonEntry i s)
  age : ∀ i {s}, P s → P (takeAgeExpiry i s)
  projection : ∀ i {s}, P s → P (takeProjectionExpiry i s)
  refresh : ∀ k {s}, P s → P (takeRefreshExpiry k s)

/-- What a frame handed to a block brings has what the state has and the block's effect has. -/
theorem handedOver_of {P : State → Prop} (p : PortId) {f : State → State} {s : State} (hs : P s) (hf : P (f s)) :
    P (handedOver p f s) := by
  unfold handedOver
  split
  · split
    · exact hs
    · exact hf
  · exact hs

section
variable {P : State → Prop} (h : ServiceKeeps P) {s : State} (hs : P s)
include h hs

theorem ServiceKeeps.answerRequest (p : PortId) (src kind : Byte) (payload : List Byte) :
    P (answerRequest p src (actRequest p kind payload) s) := by
  unfold Machine.answerRequest
  split
  · exact hs
  · exact h.same (sameService_setPort p _ _) (h.request p kind payload hs)

theorem ServiceKeeps.handToBlock (p : PortId) (f : Frame) : P (handToBlock p f s) := by
  unfold Machine.handToBlock
  split
  · split
    · exact h.report _ hs
    · exact hs
  · split
    · split
      · exact h.status p _ _ hs
      · exact hs
    · exact h.answerRequest hs p _ _ _

theorem ServiceKeeps.dispatchFrame (p : PortId) (f : Frame) : P (dispatchFrame p f s) := by
  have repeated : P (repeatFrame p f.raw s) := h.same (sameService_setPort _ _ s) hs
  unfold Machine.dispatchFrame
  split
  · exact repeated
  · split
    · exact repeated
    · exact h.handToBlock repeated p f
    · exact h.handToBlock hs p f

theorem ServiceKeeps.takeEndingGap (p : PortId) (idleBefore : Bool) (chars : List LineChar) :
    P (takeEndingGap p idleBefore chars s) := by
  have received (q : Port) : P (s.setPort p q) := h.same (sameService_setPort p q s) hs
  unfold Machine.takeEndingGap
  dsimp only
  split
  · exact hs
  · split
    · exact received _
    · split
      · exact received _
      · unfold judgeFrame
        dsimp only
        split
        · exact h.dispatchFrame (received _) p _
        · exact h.same (sameService_returnToLearning p _) (received _)

theorem ServiceKeeps.effect (c : Instr) : P (effect c s) := by
  cases hr : requestOf c with
  | some r =>
    rw [effect_request hr]
    exact handedOver_of (P := P) _ hs (h.answerRequest hs _ _ _ _)
  | none =>
    rw [effect_own hr]
    cases c
    case cleanSyncLearned p seen => exact h.same (sameService_takeCleanSync p seen s) hs
    case frameEndingGap p b l => exact h.takeEndingGap hs p b l
    case returnToLearning p => exact h.same (sameService_returnToLearning p s) hs
    case busReport p r => exact handedOver_of (P := P) p hs (h.report r hs)
    case signalStatus p src f => exact handedOver_of (P := P) p hs (h.status p src f hs)
    case freshnessExpiry k => exact h.freshness k hs
    case horizonEntry i => exact h.horizon i hs
    case ageExpiry i => exact h.age i hs
    case projectionExpiry i => exact h.projection i hs
    case refreshExpiry k => exact h.refresh k hs
    case transmitGapEnd p => exact h.same (sameService_setPort p _ s) hs
    all_goals exact hs

end

/-- Such a property, true after a reset and of no queue, clock or count of free choices, is kept by every step. -/
theorem ServiceKeeps.step {P : State → Prop} (h : ServiceKeeps P) (hreset : ∀ s held own, P (afterReset s held own))
    (hpending : ∀ s l, P s → P { s with pending := l }) (hclock : ∀ s x, P s → P { s with clock := x })
    (hfree : ∀ s n, P s → P { s with freeCount := n }) {s t : State} (hs : P s) (ht : step s = .next t) : P t := by
  refine step_keeps hpending hclock hfree (fun c s t hs ht => ?_) hs ht
  exact exec_keeps hreset (fun c s _ _ hs => h.same (sameService_finish _) (h.effect hs c)) hs ht

end Sys2Proof.Machine
end

section
/-! The holder of a signal: a record of that signal, HOLDING or PROJECTED (R63), and none where a signal takes no service
(R122), through every step. -/

namespace Sys2Proof.Machine

/-! ## Holders as R63 and R122 have them -/

/-- The holders are as R63 says, and a signal that takes no service has none (R122). -/
def HoldersTrue (s : State) : Prop := HoldersOk s ∧ ∀ k, (s.ctx k).state.unserved → (s.ctx k).holder = none

theorem holdersTrue_iff (s : State) : HoldersTrue s ↔ HoldersOk s ∧ HolderStatesOk s := Iff.rfl

/-- From s to t every signal but those of a list has kept its service state and its holder. -/
def HoldsBeyond (l : List SignalId) (s t : State) : Prop :=
  ∀ k, k ∉ l → (t.ctx k).state = (s.ctx k).state ∧ (t.ctx k).holder = (s.ctx k).holder

theorem holdsBeyond_of_ctx {s t : State} (h : ∀ k, t.ctx k = s.ctx k) (l : List SignalId) : HoldsBeyond l s t :=
  fun k _ => by rw [h]; exact ⟨rfl, rfl⟩

theorem HoldsBeyond.refl (l : List SignalId) (s : State) : HoldsBeyond l s s := holdsBeyond_of_ctx (fun _ => rfl) l

theorem HoldsBeyond.trans {l : List SignalId} {s t u : State} (h : HoldsBeyond l s t) (g : HoldsBeyond l t u) :
    HoldsBeyond l s u := fun k hk =>
  ⟨(g k hk).1.trans (h k hk).1, (g k hk).2.trans (h k hk).2⟩

theorem HoldsBeyond.mono {l m : List SignalId} {s t : State} (h : HoldsBeyond l s t) (hlm : ∀ k ∈ l, k ∈ m) :
    HoldsBeyond m s t := fun k hk => h k fun hl => hk (hlm k hl)

/-- Where no signal has changed its service state or its holder, and no record its standing, the holders stay true. -/
theorem HoldersTrue.congr {s t : State} (h : HoldersTrue s) (holds : HoldsBeyond [] s t)
    (record : ∀ i, (t.record i).map RequestRecord.standing = (s.record i).map RequestRecord.standing) :
    HoldersTrue t := by
  have kept (k : SignalId) := holds k List.not_mem_nil
  refine ⟨h.1.congr (fun k => (kept k).2) record, fun k hstate => ?_⟩
  rw [(kept k).1] at hstate
  rw [(kept k).2]
  exact h.2 k hstate

theorem HoldersTrue.of_same {s t : State} (h : HoldersTrue s) (hctx : ∀ k, t.ctx k = s.ctx k)
    (hrecord : ∀ i, t.record i = s.record i) : HoldersTrue t :=
  h.congr (holdsBeyond_of_ctx hctx []) fun i => by rw [hrecord]

/-- Without records and holders the holders are true. -/
theorem holdersTrue_of_none {s : State} (hctx : ∀ k, (s.ctx k).holder = none) (hrecord : ∀ i, s.record i = none) :
    HoldersTrue s := by
  refine ⟨(holdersOk_iff s).mpr ⟨fun k i hi => ?_, fun i r hr => ?_⟩, fun k _ => hctx k⟩
  · rw [hctx] at hi
    cases hi
  · rw [hrecord] at hr
    cases hr

/-! ## An evaluation settles its signal (R122, R123) -/

/-- A signal that takes no service has no holder once it has evaluated. -/
theorem evaluate_holderless {k : SignalId} {s : State} (hs : HoldersOk s) (h : (s.ctx k).state.unserved) :
    ((evaluate k s).ctx k).holder = none := by
  show ((serveHolder k (settleHolder k s)).ctx k).holder = none
  rw [(accounts_serveHolder k _).holder]
  obtain ⟨hk, e⟩ | ⟨i, r, -, ⟨eligible, -⟩ | ⟨-, e⟩ | ⟨j, q, taken, -⟩⟩ := settleHolder_cases k s
  · rw [e, candidate_unserved h]
    exact hs.holderOf_none hk
  · rw [eligible_unserved h] at eligible
    cases eligible
  · rw [e]
    exact (giveUp_holder k s).1
  · rw [candidate_unserved h] at taken
    cases taken

/-- A signal that takes no service has no holder after evaluations of which one is its own, or if it had none. -/
theorem evaluateAll_holderless (l : List SignalId) {k : SignalId} {s : State} (hs : HoldersOk s)
    (h : (s.ctx k).state.unserved) (hmem : k ∈ l ∨ (s.ctx k).holder = none) :
    ((evaluateAll l s).ctx k).holder = none := by
  induction l generalizing s with
  | nil => exact hmem.resolve_left List.not_mem_nil
  | cons j l ih =>
    have serves := serves_evaluate j s
    refine ih (holdersOk_evaluate hs j) (serves.state k ▸ h) ?_
    by_cases e : k = j
    · subst e
      exact .inr (evaluate_holderless hs h)
    · rw [serves.ctxOther k e]
      exact hmem.imp_left fun hk => (List.mem_cons.mp hk).resolve_left e

/-- Whatever has happened to some signals, their evaluations leave the holders true. -/
theorem HoldersTrue.evaluateAll {l : List SignalId} {s t : State} (h : HoldersTrue s) (holders : HoldersOk t)
    (holds : HoldsBeyond l s t) : HoldersTrue (evaluateAll l t) := by
  have settled := settled_evaluateAll l t
  refine ⟨settled.holders holders, fun k hstate => ?_⟩
  rw [settled.state] at hstate
  refine evaluateAll_holderless l holders hstate (or_iff_not_imp_left.mpr fun hk => ?_)
  rw [(holds k hk).1] at hstate
  rw [(holds k hk).2]
  exact h.2 k hstate

theorem HoldersTrue.evaluate {k : SignalId} {s t : State} (h : HoldersTrue s) (holders : HoldersOk t)
    (holds : HoldsBeyond [k] s t) : HoldersTrue (evaluate k t) :=
  HoldersTrue.evaluateAll (l := [k]) h holders holds

theorem HoldersTrue.evaluateTouched {l : List SignalId} {s t : State} (h : HoldersTrue s) (holders : HoldersOk t)
    (holds : HoldsBeyond l s t) : HoldersTrue (evaluateTouched l t) :=
  (h.evaluateAll holders (holds.mono fun _ => mem_touchedSignals.mpr)).of_same (evaluateTouched_ctx l t)
    (evaluateTouched_record l t)

/-! ## Operations on holders and records -/

theorem holdsBeyond_recompute (k : SignalId) (s : State) : HoldsBeyond [k] s (recompute k s) := by
  intro j hj
  rw [recompute_ctx_ne s (List.ne_of_not_mem_cons hj)]
  exact ⟨rfl, rfl⟩

theorem holdersOk_recompute {s : State} (h : HoldersOk s) (k : SignalId) : HoldersOk (recompute k s) :=
  h.congr (fun j => recompute_holder k j s) fun i => by rw [recompute_record]

theorem holdersOk_recomputeAll {s : State} (h : HoldersOk s) (l : List SignalId) : HoldersOk (recomputeAll l s) := by
  refine h.congr (fun k => ?_) fun i => by rw [recomputeAll_record]
  rw [recomputeAll_ctx]
  split <;> rfl

theorem holdsBeyond_setCtx (k : SignalId) (c : SignalContext) (s : State) : HoldsBeyond [k] s (s.setCtx k c) := by
  intro j hj
  rw [State.ctx_setCtx_ne s c (List.ne_of_not_mem_cons hj)]
  exact ⟨rfl, rfl⟩

theorem holdersOk_setCtx {s : State} (h : HoldersOk s) {k : SignalId} {c : SignalContext}
    (hc : c.holder = (s.ctx k).holder) : HoldersOk (s.setCtx k c) :=
  h.congr (accounts_setCtx hc).holder fun _ => rfl

theorem standing_of_map {s t : State} {i : SlotId} {f : RequestRecord → RequestRecord}
    (hf : ∀ r, (f r).standing = r.standing) (h : ∀ j, t.record j = if j = i then (s.record j).map f else s.record j)
    (j : SlotId) : (t.record j).map RequestRecord.standing = (s.record j).map RequestRecord.standing := by
  rw [h]
  split
  · rw [Option.map_map]
    exact congrArg (fun g => (s.record j).map g) (funext hf)
  · rfl

theorem standing_modRecord {f : RequestRecord → RequestRecord} (hf : ∀ r, (f r).standing = r.standing) (i : SlotId)
    (s : State) (j : SlotId) :
    ((s.modRecord i f).record j).map RequestRecord.standing = (s.record j).map RequestRecord.standing :=
  standing_of_map hf (fun j => State.record_modRecord s i j f) j

/-- A change of records that keeps the standing of each. -/
theorem standing_changeRecordsAt {f : RequestRecord → RequestRecord} (hf : ∀ r, (f r).standing = r.standing)
    (k : SignalId) (s : State) (j : SlotId) :
    ((changeRecordsAt k f s).record j).map RequestRecord.standing = (s.record j).map RequestRecord.standing := by
  rw [changeRecordsAt_record, Option.map_map]
  refine congrArg (fun g => (s.record j).map g) (funext fun r => ?_)
  rw [Function.comp_apply]
  split
  · exact hf r
  · rfl

theorem standing_reexamined (r : RequestRecord) (now : Time) (horizon : Nat) :
    (r.reexamined now horizon).standing = r.standing := by
  by_cases h : r.state = .projected
  · rw [RequestRecord.reexamined, h]
  · exact reexamined_standing h now horizon

theorem HoldersTrue.modRecord {s : State} (h : HoldersTrue s) (i : SlotId) {f : RequestRecord → RequestRecord}
    (hf : ∀ r, (f r).standing = r.standing) : HoldersTrue (s.modRecord i f) :=
  h.congr (HoldsBeyond.refl [] s) (standing_modRecord hf i s)

/-! ## Calls and lapses (chapter 8) -/

/-- A change of a signal's outcome, call and counts alone leaves where each record stands. -/
theorem Accounts.standing {k : SignalId} {s t : State} (accounts : Accounts k s t) (serves : Serves k s t) (i : SlotId) :
    (t.record i).map RequestRecord.standing = (s.record i).map RequestRecord.standing := by
  cases hr : s.record i with
  | none =>
    have free := serves.record_isSome i
    rw [hr, Option.isSome_none, Option.isSome_eq_false_iff, Option.isNone_iff_eq_none] at free
    rw [free]
  | some r =>
    obtain ⟨q, hq, unserved, -, state, -⟩ := accounts.record i r hr
    rw [hq, Option.map_some, Option.map_some, RequestRecord.standing, unserved_signal unserved, state,
      RequestRecord.standing]

theorem HoldersOk.accounts {k : SignalId} {s t : State} (h : HoldersOk s) (serves : Serves k s t)
    (accounts : Accounts k s t) : HoldersOk t :=
  h.congr accounts.holder (accounts.standing serves)

theorem HoldersTrue.accounts {k : SignalId} {s t : State} (h : HoldersTrue s) (serves : Serves k s t)
    (accounts : Accounts k s t) : HoldersTrue t :=
  h.congr (fun j _ => ⟨serves.state j, accounts.holder j⟩) (accounts.standing serves)

theorem HoldersTrue.generateCancel {s : State} (h : HoldersTrue s) (k : SignalId) :
    HoldersTrue (generateCancel k s) :=
  h.accounts (serves_generateCancel k s) (accounts_generateCancel k s)

theorem accounts_refreshCopy (k : SignalId) (s : State) : Accounts k s (refreshCopy k s) := by
  unfold refreshCopy
  split
  · exact Accounts.refl k s
  · dsimp only
    split
    · refine Accounts.trans (accounts_setCtx ?_) (accounts_placeCall k _ _)
      rfl
    · next i hk =>
      refine (Accounts.trans (accounts_setCtx ?_) (accounts_modRecord ?_ ?_)).trans (accounts_placeCall k _ _)
      · rfl
      · rw [State.ctx_setCtx_self]
        exact hk
      · exact fun _ => ⟨rfl, rfl, rfl, rfl⟩

theorem giveUp_of_none {k : SignalId} {s : State} (h : (s.ctx k).holder = none) : giveUp k s = generateCancel k s := by
  have holder := (generateCancel_holder k s).trans h
  simp only [giveUp, holder]

theorem HoldersOk.giveUp {s : State} (h : HoldersOk s) (k : SignalId) : HoldersOk (giveUp k s) := by
  cases hk : (s.ctx k).holder with
  | some i => exact holdersOk_giveUp h hk
  | none =>
    rw [giveUp_of_none hk]
    exact h.accounts (serves_generateCancel k s) (accounts_generateCancel k s)

theorem HoldersTrue.giveUp {s : State} (h : HoldersTrue s) (k : SignalId) : HoldersTrue (giveUp k s) := by
  refine ⟨h.1.giveUp k, fun j hstate => ?_⟩
  by_cases hj : j = k
  · rw [hj]
    exact (giveUp_holder k s).1
  · rw [(serves_giveUp k s).ctxOther j hj] at hstate ⊢
    exact h.2 j hstate

/-- An evaluation of a signal of a state with true holders. -/
theorem HoldersTrue.evaluated {s : State} (h : HoldersTrue s) (k : SignalId) : HoldersTrue (Machine.evaluate k s) :=
  h.evaluate h.1 (HoldsBeyond.refl [k] s)

theorem HoldersTrue.lapse {s : State} (h : HoldersTrue s) (k : SignalId) : HoldersTrue (lapse k s) := by
  have cancelled := h.generateCancel k
  unfold Machine.lapse
  dsimp only
  refine (HoldersTrue.giveUp ?_ k).evaluated k
  split
  · exact cancelled
  · exact cancelled.modRecord _ fun _ => by exact rfl

theorem HoldersTrue.refreshOrLapse {s : State} (h : HoldersTrue s) (k : SignalId) :
    HoldersTrue (refreshOrLapse k s) := by
  have evaluated := h.evaluated k
  unfold Machine.refreshOrLapse
  dsimp only
  split
  · split
    · exact evaluated.accounts (serves_refreshCopy k _) (accounts_refreshCopy k _)
    · exact evaluated.lapse k
  · exact evaluated

theorem HoldersTrue.takeRefreshExpiry {s : State} (h : HoldersTrue s) (k : SignalId) :
    HoldersTrue (takeRefreshExpiry k s) := by
  unfold Machine.takeRefreshExpiry
  split
  · exact h.refreshOrLapse k
  · exact h

/-! ## Status frames (chapter 6) -/

/-- A step of a status frame leaves the other signals' states and holders, and the holders as R63 has them. -/
def HoldsAt (k : SignalId) (s t : State) : Prop := HoldsBeyond [k] s t ∧ (HoldersOk s → HoldersOk t)

theorem HoldsAt.trans {k : SignalId} {s t u : State} (h : HoldsAt k s t) (g : HoldsAt k t u) : HoldsAt k s u :=
  ⟨h.1.trans g.1, g.2 ∘ h.2⟩

theorem HoldersTrue.evaluateAt {k : SignalId} {s t : State} (h : HoldersTrue s) (steps : HoldsAt k s t) :
    HoldersTrue (Machine.evaluate k t) :=
  h.evaluate (steps.2 h.1) steps.1

theorem holdsAt_recompute (k : SignalId) (s : State) : HoldsAt k s (recompute k s) :=
  ⟨holdsBeyond_recompute k s, fun h => holdersOk_recompute h k⟩

theorem holdsAt_setCtx {k : SignalId} {c : SignalContext} {s : State} (hc : c.holder = (s.ctx k).holder) :
    HoldsAt k s (s.setCtx k c) :=
  ⟨holdsBeyond_setCtx k c s, fun h => holdersOk_setCtx h hc⟩

theorem holdsAt_of_standing {k : SignalId} {s t : State} (hctx : ∀ j, t.ctx j = s.ctx j)
    (h : ∀ i, (t.record i).map RequestRecord.standing = (s.record i).map RequestRecord.standing) : HoldsAt k s t :=
  ⟨holdsBeyond_of_ctx hctx [k], fun hs => hs.congr (fun j => by rw [hctx]) h⟩

theorem holdsAt_changeRecordsAt {f : RequestRecord → RequestRecord} (hf : ∀ r, (f r).standing = r.standing)
    (k : SignalId) (s : State) : HoldsAt k s (changeRecordsAt k f s) :=
  holdsAt_of_standing (changeRecordsAt_ctx k f s) (standing_changeRecordsAt hf k s)

theorem holdsAt_refl (k : SignalId) (s : State) : HoldsAt k s s := holdsAt_of_standing (fun _ => rfl) fun _ => rfl

theorem holdsAt_clearCommitted (k : SignalId) (ch : StatusChange) (s : State) :
    HoldsAt k s (clearCommitted k ch s) := by
  cases ch with
  | neither => exact holdsAt_refl k s
  | planSelect => exact holdsAt_changeRecordsAt (fun _ => by exact rfl) k s
  | cycleBoundary => exact holdsAt_changeRecordsAt (fun _ => by exact rfl) k s

theorem holdsAt_reexamineRecords (k : SignalId) (b : Bool) (s : State) : HoldsAt k s (reexamineRecords k b s) := by
  unfold reexamineRecords
  split
  · exact holdsAt_changeRecordsAt (fun r => standing_reexamined r _ _) k s
  · exact holdsAt_refl k s

theorem holdsAt_creditService (k : SignalId) (s : State) : HoldsAt k s (creditService k s) := by
  unfold creditService
  split
  · exact holdsAt_refl k s
  · split
    · exact holdsAt_of_standing (fun _ => rfl) (standing_modRecord (fun _ => by exact rfl) _ s)
    · exact holdsAt_refl k s

theorem withStatus_holder (c : SignalContext) (ch : StatusChange) (f : SignalStatus) (p : PlanId) (now : Time)
    (timeout : Nat) : (c.withStatus ch f p now timeout).holder = c.holder := by
  cases ch <;> rfl

/-- The state in which a context has taken its own values from a status frame (R101 steps 1, 3, 4 and 5). -/
def statusHeard (k : SignalId) (p : PlanId) (f : SignalStatus) (s : State) : State :=
  s.setCtx k ((s.ctx k).withStatus (statusChange (s.ctx k) p f.position) f p s.clock (statusTimeout s))

/-- The state in which the records of the signal have followed (R61, R105, R107, R110), before its service state is
recomputed. -/
def statusTaken (k : SignalId) (p : PlanId) (f : SignalStatus) (s : State) : State :=
  creditService k (reexamineRecords k (decide (p ≠ (s.ctx k).plan))
    (clearCommitted k (statusChange (s.ctx k) p f.position) (statusHeard k p f s)))

theorem takeStatus_eq (k : SignalId) (p : PlanId) (f : SignalStatus) (s : State) :
    takeStatus k p f s = lapseAboveLimit k (statusChange (s.ctx k) p f.position) (recompute k (statusTaken k p f s))
      (evaluate k (recompute k (statusTaken k p f s))) := rfl

theorem holdsAt_statusTaken (k : SignalId) (p : PlanId) (f : SignalStatus) (s : State) :
    HoldsAt k s (statusTaken k p f s) :=
  (((holdsAt_setCtx (withStatus_holder _ _ f p _ _)).trans (holdsAt_clearCommitted k _ _)).trans
    (holdsAt_reexamineRecords k _ _)).trans (holdsAt_creditService k _)

theorem HoldersTrue.takeStatus {s : State} (h : HoldersTrue s) (k : SignalId) (p : PlanId) (f : SignalStatus) :
    HoldersTrue (takeStatus k p f s) := by
  have evaluated := h.evaluateAt ((holdsAt_statusTaken k p f s).trans (holdsAt_recompute k _))
  rw [takeStatus_eq]
  unfold lapseAboveLimit
  split
  · exact evaluated.lapse k
  · exact evaluated

theorem HoldersTrue.handStatus {s : State} (h : HoldersTrue s) (p : PortId) (src : Byte) (f : SignalStatus) :
    HoldersTrue (handStatus p src f s) := by
  refine List.foldlRecOn (motive := HoldersTrue) _ _ h fun u hu k _ => ?_
  unfold offerStatus
  split
  · exact hu
  · exact hu.takeStatus k _ f

theorem HoldersTrue.takeFreshnessExpiry {s : State} (h : HoldersTrue s) (k : SignalId) :
    HoldersTrue (takeFreshnessExpiry k s) := by
  unfold Machine.takeFreshnessExpiry
  split
  · exact h.evaluateAt ((holdsAt_setCtx (by exact rfl)).trans (holdsAt_recompute k _))
  · exact h

/-! ## Closures and the timers of a record (chapter 4) -/

theorem holdsBeyond_closeRecord {i : SlotId} {reason : ClosureReason} {s : State} {l : List SignalId}
    (hl : ∀ r, s.record i = some r → r.signal ∈ l) : HoldsBeyond l s (closeRecord i reason s) := by
  cases hr : s.record i with
  | none =>
    rw [closeRecord_free i reason s hr]
    exact HoldsBeyond.refl l s
  | some r =>
    intro k hk
    rw [closeRecord_ctx_ne i reason s r k hr (fun e => hk (e ▸ hl r hr))]
    exact ⟨rfl, rfl⟩

theorem holdsBeyond_closeAll {slots : List SlotId} {reason : ClosureReason} {s : State} {l : List SignalId}
    (hl : ∀ i ∈ slots, ∀ r, s.record i = some r → r.signal ∈ l) : HoldsBeyond l s (closeAll slots reason s) := by
  induction slots generalizing s with
  | nil => exact HoldsBeyond.refl l s
  | cons i slots ih =>
    refine (holdsBeyond_closeRecord (hl i List.mem_cons_self)).trans (ih fun j hj r hr => ?_)
    by_cases hji : j = i
    · rw [hji, closeRecord_slot] at hr
      cases hr
    · rw [closeRecord_other i j reason s hji] at hr
      exact hl j (List.mem_cons_of_mem i hj) r hr

theorem mem_signalsOf {slots : List SlotId} {s : State} {i : SlotId} {r : RequestRecord} (hi : i ∈ slots)
    (hr : s.record i = some r) : r.signal ∈ signalsOf slots s :=
  List.mem_filterMap.mpr ⟨i, hi, by rw [hr]; rfl⟩

theorem holdsBeyond_closeTouching (slots : List SlotId) (reason : ClosureReason) (s : State) :
    HoldsBeyond (closeTouching slots reason s).2 s (closeTouching slots reason s).1 :=
  holdsBeyond_closeAll fun _ hi _ hr => mem_signalsOf hi hr

/-- An ARMED or WAITING record is no holder (R63). -/
theorem HoldersOk.holder_ne {s : State} (hs : HoldersOk s) {i : SlotId} {x : RequestRecord} (hx : s.record i = some x)
    (hholding : x.state ≠ .holding) (hprojected : x.state ≠ .projected) (k : SignalId) : (s.ctx k).holder ≠ some i := by
  intro hk
  obtain ⟨q, hq, -, hstate⟩ := hs.holder hk
  obtain rfl : x = q := Option.some.inj (hx.symm.trans hq)
  exact hstate.elim hholding hprojected

theorem HoldersTrue.takeHorizonEntry {s : State} (h : HoldersTrue s) (i : SlotId) :
    HoldersTrue (takeHorizonEntry i s) := by
  unfold Machine.takeHorizonEntry
  split
  · exact h
  · next r hr =>
    split
    · next due =>
      have unheld := h.1.holder_ne hr (by rw [due.1]; nofun) (by rw [due.1]; nofun) r.signal
      exact h.evaluate (holdersOk_setRecord_same h.1 hr rfl (iff_of_false nofun unheld)) (HoldsBeyond.refl _ s)
    · exact h

/-- A record that closes, and its signal's evaluation. -/
theorem HoldersTrue.closeAndEvaluate {s : State} (h : HoldersTrue s) {i : SlotId} {r : RequestRecord}
    (hr : s.record i = some r) (reason : ClosureReason) :
    HoldersTrue (Machine.evaluate r.signal (closeRecord i reason s)) := by
  refine h.evaluate ((matched_closeRecord i reason s).holders h.1) (holdsBeyond_closeRecord fun q hq => ?_)
  rw [Option.some.inj (hr.symm.trans hq)]
  exact List.mem_singleton_self _

theorem HoldersTrue.takeAgeExpiry {s : State} (h : HoldersTrue s) (i : SlotId) : HoldersTrue (takeAgeExpiry i s) := by
  unfold Machine.takeAgeExpiry
  split
  · exact h
  · next r hr =>
    split
    · exact h.closeAndEvaluate hr _
    · exact h

theorem HoldersTrue.takeProjectionExpiry {s : State} (h : HoldersTrue s) (i : SlotId) :
    HoldersTrue (takeProjectionExpiry i s) := by
  unfold Machine.takeProjectionExpiry
  split
  · exact h
  · next r hr =>
    split
    · exact h.closeAndEvaluate hr _
    · exact h

/-! ## Bus reports (chapter 2) -/

theorem attemptProjection_ctx (i : SlotId) (doors : Bool) (s : State) (k : SignalId) :
    (attemptProjection i doors s).1.ctx k = s.ctx k := by
  obtain e | ⟨r, next, l, d, j, -, -, -, e⟩ := attemptProjection_cases i doors s <;> rw [e]
  rfl

/-- A check-in leaves the contexts, but for the signal of a record that it displaces. -/
theorem holdsBeyond_checkIn (t : TakenReport) (k : SignalId) (z : ZoneEntry) (route : Fin 32) (s : State) :
    HoldsBeyond (checkIn t k z route s).2 s (checkIn t k z route s).1 := by
  have attempts (l : List SignalId) (i : SlotId) (r : Option RequestRecord) (u : State) :
      HoldsBeyond l u (attemptProjection i t.doorsOpen (u.setRecord i r)).1 :=
    holdsBeyond_of_ctx (attemptProjection_ctx i t.doorsOpen _) l
  cases hfound : s.findRecord t.bus k with
  | some x =>
    obtain ⟨i, r⟩ := x
    by_cases hp : r.state = .projected
    · rw [checkIn_projected hfound hp]
      exact attempts _ i _ s
    · rw [checkIn_present hfound hp]
      exact HoldsBeyond.refl _ s
  | none =>
    cases hi : s.freeSlot with
    | some i =>
      rw [checkIn_new hfound hi]
      exact attempts _ i _ s
    | none =>
      rw [checkIn_full hfound hi]
      obtain ⟨x, hx, e⟩ | e | ⟨b, e⟩ := checkInFull_cases t k z route s <;> rw [e]
      · refine HoldsBeyond.trans (holdsBeyond_closeRecord fun q hq => ?_) (attempts _ x.1 _ _)
        rw [← Option.some.inj (hx.symm.trans hq)]
        exact List.mem_cons_self
      · exact HoldsBeyond.refl _ s
      · exact HoldsBeyond.refl _ s

theorem holdsBeyond_matchZone (t : TakenReport) (route : Fin 32) (s : State) :
    HoldsBeyond (matchZone t route s).2 s (matchZone t route s).1 := by
  cases hz : zoneAt s.tables t.heading t.position with
  | none =>
    rw [matchZone_outside hz]
    exact holdsBeyond_closeTouching _ _ s
  | some z =>
    by_cases hk : z.signal.toNat < 16
    · rw [matchZone_zone (k := ⟨_, hk⟩) hz rfl]
      by_cases hkind : z.kind = 1
      · cases hfound : s.findRecord t.bus ⟨_, hk⟩ with
        | none =>
          rw [inZone_checkOut_none hkind hfound]
          exact HoldsBeyond.refl _ s
        | some x =>
          rw [inZone_checkOut hkind hfound]
          exact holdsBeyond_closeTouching _ _ s
      · cases hadmits : (s.ctx ⟨_, hk⟩).state.admits with
        | true =>
          rw [inZone_checkIn hkind hadmits]
          exact holdsBeyond_checkIn t _ z route s
        | false =>
          rw [inZone_closed hkind hadmits]
          exact HoldsBeyond.refl _ s
    · rw [matchZone_nowhere hz (Nat.not_lt.mp hk)]
      exact HoldsBeyond.refl _ s

theorem HoldersTrue.takeBusReport {s : State} (h : HoldersTrue s) (r : BusReport) :
    HoldersTrue (takeBusReport r s) := by
  obtain e | ⟨t, route, -, -, e⟩ := takeBusReport_cases r s <;> rw [e]
  · exact h
  · cases hcancel : t.cancel with
    | true =>
      rw [actOnReport_cancel hcancel]
      exact h.evaluateTouched ((matched_closeAll _ _ s).holders h.1) (holdsBeyond_closeTouching _ _ s)
    | false =>
      rw [actOnReport_update hcancel]
      refine h.evaluateTouched (holdersOk_updateRecords ((matched_matchZone t route s).holders h.1) t) ?_
      refine HoldsBeyond.trans ((holdsBeyond_matchZone t route s).mono fun _ => List.mem_append_left _) ?_
      exact holdsBeyond_of_ctx (onlyRecords_updateRecords t _).ctx _

/-! ## Table loading (chapter 9) -/

/-- Every service state is recomputed, and the signals whose state has changed evaluate. -/
theorem HoldersTrue.recomputeAndEvaluate {s : State} (h : HoldersTrue s) : HoldersTrue (recomputeAndEvaluate s) := by
  rw [recomputeAndEvaluate_eq]
  refine h.evaluateAll (holdersOk_recomputeAll h.1 _) fun k hk => ⟨?_, ?_⟩
  · by_contra changed
    exact hk (List.mem_filter.mpr ⟨mem_allSignals k, bne_iff_ne.mpr changed⟩)
  · rw [recomputeAll_all_ctx]

theorem HoldersTrue.recomputeOne {s : State} (h : HoldersTrue s) (k : SignalId) : HoldersTrue (recomputeOne k s) := by
  have holders := holdersOk_recompute h.1 k
  have holds := holdsBeyond_recompute k s
  unfold Machine.recomputeOne
  dsimp only
  split
  · next same =>
    refine h.congr (fun j _ => ⟨?_, recompute_holder k j s⟩) fun i => by rw [recompute_record]
    by_cases hj : j = k
    · rw [hj]
      exact same
    · rw [recompute_ctx_ne s hj]
  · exact h.evaluate holders holds

theorem HoldersTrue.storeEntry {s : State} (h : HoldersTrue s) (id : TableId) (i : Nat) (l : List Byte) :
    HoldersTrue (storeEntry id i l s) := by
  have stored : HoldersTrue { s with tables := s.tables.storeEntry id i l } := h.of_same (fun _ => rfl) fun _ => rfl
  have moved (k : SignalId) (before : Option PortId) {u : State} (hu : HoldersTrue u) :
      HoldersTrue (dropMovedCall k before u) := by
    unfold dropMovedCall
    split
    · exact hu
    · split
      · exact hu
      · exact hu.of_same (State.ctx_setPort _ _ _) (State.record_setPort _ _ _)
  cases id
  case signal =>
    unfold Machine.storeEntry
    dsimp only
    split
    · exact stored
    · exact (moved _ _ stored).recomputeOne _
  case plan =>
    unfold Machine.storeEntry
    dsimp only
    split
    · exact stored
    · exact stored.recomputeOne _
  all_goals exact stored

theorem HoldersTrue.assemble {s : State} (h : HoldersTrue s) (fuel : Nat) (l : LoadContext) :
    HoldersTrue (assemble fuel l s) := by
  have opened {u : State} (hu : HoldersTrue u) (l : LoadContext) : HoldersTrue { u with load := some l } :=
    hu.of_same (fun _ => rfl) fun _ => rfl
  induction fuel generalizing l s with
  | zero => exact opened h l
  | succ fuel ih =>
    unfold Machine.assemble
    split
    · exact opened h l
    · exact ih ((opened h l).storeEntry _ _ _) l.advanced

theorem HoldersTrue.endLoad {s : State} (h : HoldersTrue s) (v : Parity) (id : TableId) (w : Validity) :
    HoldersTrue (endLoad v id w s) :=
  h.of_same (endLoad_ctx v id w s) (endLoad_record v id w s)

/-! ## Suspension (R116, R163) -/

/-- Contexts with their values cleared by suspension (R116). -/
theorem foldl_suspendedValues_ctx (l : List SignalId) (s : State) (k : SignalId) :
    ((l.foldl (fun t k => t.setCtx k (t.ctx k).suspendedValues) s).ctx k) =
      if k ∈ l then (s.ctx k).suspendedValues else s.ctx k := by
  induction l generalizing s with
  | nil => rfl
  | cons j l ih =>
    rw [List.foldl_cons, ih]
    by_cases hj : k = j
    · subst hj
      rw [State.ctx_setCtx_self, if_pos List.mem_cons_self]
      split <;> rfl
    · rw [State.ctx_setCtx_ne s _ hj]
      simp only [List.mem_cons, hj, false_or]

theorem foldl_setCtx_record (f : State → SignalId → SignalContext) (l : List SignalId) (s : State) (i : SlotId) :
    (l.foldl (fun t k => t.setCtx k (f t k)) s).record i = s.record i := by
  induction l generalizing s with
  | nil => rfl
  | cons k l ih => exact ih (s.setCtx k (f s k))

theorem mem_scope {s : State} {k : SignalId} : k ∈ s.scope ↔ s.covered k = true := by
  simp [State.scope, mem_allSignals]

/-- The records of the covered signals have gone before their holders are cleared. -/
theorem HoldersTrue.suspendScope {s : State} (h : HoldersTrue s) : HoldersTrue (suspendScope s) := by
  have covered (k : SignalId) : (recomputeAll s.scope s).covered k = s.covered k := by
    simp only [State.covered, (works_recomputeAll s.scope s).load]
  have holders := (matched_closeAll (coveredSlots (recomputeAll s.scope s)) .suspended _).holders
    (holdersOk_recomputeAll h.1 s.scope)
  have recomputed : HoldsBeyond s.scope s (recomputeAll s.scope s) := fun k hk => by
    rw [recomputeAll_ctx, if_neg hk]
    exact ⟨rfl, rfl⟩
  have closed : HoldsBeyond s.scope (recomputeAll s.scope s)
      (closeAll (coveredSlots (recomputeAll s.scope s)) .suspended (recomputeAll s.scope s)) := by
    refine holdsBeyond_closeAll fun i hi r hr => ?_
    obtain ⟨q, hq, hcovered⟩ := mem_slots_filter.mp hi
    obtain rfl : r = q := Option.some.inj (hr.symm.trans hq)
    exact mem_scope.mpr ((covered _).symm.trans hcovered)
  have gone (i : SlotId) (r : RequestRecord)
      (hr : (closeAll (coveredSlots (recomputeAll s.scope s)) .suspended (recomputeAll s.scope s)).record i = some r) :
      r.signal ∉ s.scope := by
    intro hk
    rw [closeAll_record] at hr
    split at hr
    · cases hr
    · next left => exact left (mem_slots_filter.mpr ⟨r, hr, (covered _).trans (mem_scope.mp hk)⟩)
  unfold Machine.suspendScope
  dsimp only
  generalize closeAll (coveredSlots (recomputeAll s.scope s)) .suspended (recomputeAll s.scope s) = u at *
  refine h.evaluateAll ?_ ((recomputed.trans closed).trans fun k hk => ?_)
  · refine holders.congr (fun k => ?_) fun i => by rw [foldl_setCtx_record]
    rw [foldl_suspendedValues_ctx]
    split
    · next hk =>
      cases hi : (u.ctx k).holder with
      | none => rfl
      | some i =>
        obtain ⟨r, hr, rfl, -⟩ := holders.holder hi
        exact absurd hk (gone i r hr)
    · rfl
  · rw [foldl_suspendedValues_ctx, if_neg hk]
    exact ⟨rfl, rfl⟩

theorem HoldersTrue.openLoad {s : State} (h : HoldersTrue s) (id : TableId) (start expected : Nat) (p : PortId) :
    HoldersTrue (openLoad id start expected p s) := by
  have opened : HoldersTrue { s with
      load := some (openContext id start expected p)
      validity := s.validity.set id (openedValidity (s.validity.get id)) } := h.of_same (fun _ => rfl) fun _ => rfl
  exact opened.suspendScope.of_same (fun _ => rfl) fun _ => rfl

/-! ## Management requests (chapters 9 and 10) -/

theorem HoldersTrue.corridorReset (s : State) : HoldersTrue (corridorReset s) := by
  refine holdersTrue_of_none (fun k => ?_) fun i => ?_
  · rw [corridorReset_ctx]
    rfl
  · rw [corridorReset_eq, withoutWaiting_record, recomputeAllSilently_record, emptied_record]

theorem HoldersTrue.observed {s : State} (h : HoldersTrue s) (b : Bool) :
    HoldersTrue (Machine.evaluateAll allSignals { s with observe := b }) := by
  have flagged : HoldersTrue { s with observe := b } := h.of_same (fun _ => rfl) fun _ => rfl
  exact flagged.evaluateAll flagged.1 (HoldsBeyond.refl _ _)

theorem HoldersTrue.actDisable {s : State} (h : HoldersTrue s) (code : Byte) (b : Bool) (signal : Byte) :
    HoldersTrue (actDisable code b signal s).1 := by
  unfold Machine.actDisable
  split
  · exact h
  · next k _ =>
    dsimp only
    split
    · exact h
    · have flagged : HoldersTrue (s.setDisabled k b) := h.of_same (fun _ => rfl) fun _ => rfl
      exact flagged.evaluateAt (holdsAt_recompute k _)

theorem HoldersTrue.needLength {s : State} (h : HoldersTrue s) (kind : Byte) (n : Nat) (payload : List Byte)
    {act : State → State × Answer} (hact : HoldersTrue (act s).1) : HoldersTrue (needLength kind n payload act s).1 :=
  needLength_cases (P := fun x => HoldersTrue x.1) kind n payload act s h hact

theorem HoldersTrue.actControl {s : State} (h : HoldersTrue s) (payload : List Byte) :
    HoldersTrue (actControl payload s).1 := by
  refine h.needLength _ _ _ ?_
  dsimp only
  split
  · exact h.actDisable _ _ _
  split
  · exact h.actDisable _ _ _
  split
  · unfold actObserveOn
    dsimp only
    split
    · exact h
    · have cancelled : HoldersTrue (cancelAll s) :=
        List.foldlRecOn (motive := HoldersTrue) _ _ h fun u hu k _ => hu.generateCancel k
      exact cancelled.observed true
  split
  · unfold actObserveOff
    dsimp only
    split
    · exact h.observed false
    · exact h
  split
  · exact HoldersTrue.corridorReset s
  · exact h

theorem HoldersTrue.actTableOpen {s : State} (h : HoldersTrue s) (p : PortId) (payload : List Byte) :
    HoldersTrue (actTableOpen p payload s).1 := by
  refine h.needLength _ _ _ ?_
  dsimp only
  split
  · exact h
  split
  · exact h
  split
  · exact h
  · exact h.openLoad _ _ _ p

theorem HoldersTrue.actTableWrite {s : State} (h : HoldersTrue s) (p : PortId) (payload : List Byte) :
    HoldersTrue (actTableWrite p payload s).1 := by
  unfold Machine.actTableWrite
  split
  · exact h
  split
  · exact h
  split
  · exact h
  · exact h.assemble _ _

theorem HoldersTrue.actTableSeek {s : State} (h : HoldersTrue s) (p : PortId) (payload : List Byte) :
    HoldersTrue (actTableSeek p payload s).1 := by
  refine h.needLength _ _ _ ?_
  split
  · exact h
  dsimp only
  split
  · exact h
  · exact h.of_same (fun _ => rfl) fun _ => rfl

theorem HoldersTrue.actTableClose {s : State} (h : HoldersTrue s) (p : PortId) (payload : List Byte) :
    HoldersTrue (actTableClose p payload s).1 := by
  refine h.needLength _ _ _ ?_
  split
  · exact h
  split
  · exact h
  split
  · exact h
  split
  · exact h
  · dsimp only
    rw [closeLoad_eq]
    exact (h.endLoad _ _ _).recomputeAndEvaluate

theorem HoldersTrue.actTableAbandon {s : State} (h : HoldersTrue s) (payload : List Byte) :
    HoldersTrue (actTableAbandon payload s).1 := by
  refine h.needLength _ _ _ ?_
  split
  · exact h
  · dsimp only
    rw [abandonLoad_eq]
    exact (h.endLoad _ _ _).recomputeAndEvaluate

theorem HoldersTrue.actReadReports {s : State} (h : HoldersTrue s) (payload : List Byte) :
    HoldersTrue (actReadReports payload s).1 := by
  refine h.needLength _ _ _ ?_
  dsimp only
  split
  · exact h
  · exact h.of_same (fun _ => rfl) fun _ => rfl

theorem HoldersTrue.actRequest {s : State} (h : HoldersTrue s) (p : PortId) (kind : Byte) (payload : List Byte) :
    HoldersTrue (actRequest p kind payload s).1 := by
  have unchanged {t : State} (e : t = s) : HoldersTrue t := e ▸ h
  exact actRequest_cases (P := fun _ x => HoldersTrue x.1) p kind payload s
    (unchanged (actQueryStatus_state payload s)) (unchanged (actQuerySignal_state payload s))
    (unchanged (actQueryRequests_state payload s)) (h.actReadReports payload) (h.actControl payload)
    (h.actTableOpen p payload) (h.actTableWrite p payload) (h.actTableSeek p payload) (h.actTableClose p payload)
    (h.actTableAbandon payload) (unchanged (actTableRead_state payload s)) fun _ => h

/-! ## Every step -/

theorem holdersTrue_kept : ServiceKeeps HoldersTrue where
  same same h := h.of_same same.ctx same.record
  report r _ h := h.takeBusReport r
  status p src f _ h := h.handStatus p src f
  request p kind payload _ h := h.actRequest p kind payload
  freshness k _ h := h.takeFreshnessExpiry k
  horizon i _ h := h.takeHorizonEntry i
  age i _ h := h.takeAgeExpiry i
  projection i _ h := h.takeProjectionExpiry i
  refresh k _ h := h.takeRefreshExpiry k

/-- Settles O50: a signal evaluates in every event that recomputes its service state or closes its holder, and an
evaluation leaves a signal that takes no service without a holder. -/
theorem holdersStayTrue : Obligations.HoldersStayTrue := by
  intro s t _ holders states ht
  have unchanged {s t : State} (hs : HoldersTrue s) (hctxs : t.ctxs = s.ctxs) (hslots : t.slots = s.slots) :
      HoldersTrue t :=
    hs.of_same (fun k => by simp only [State.ctx, hctxs]) fun i => by simp only [State.record, hslots]
  rw [← holdersTrue_iff]
  refine holdersTrue_kept.step (fun s held own => ?_) (fun _ _ hs => unchanged hs rfl rfl)
    (fun _ _ hs => unchanged hs rfl rfl) (fun _ _ hs => unchanged hs rfl rfl) ((holdersTrue_iff s).mpr ⟨holders, states⟩) ht
  have silent := silent_afterReset s held own
  exact holdersTrue_of_none (fun k => by rw [silent.ctx]; rfl) silent.record

end Sys2Proof.Machine
end

section
/-! Eligibility and rank: the candidate of a signal ranks above every other eligible record (R60, R96, R97, R121, R123). -/

namespace Sys2Proof.Machine

/-! ## Eligibility (R121, R122) -/

theorem horizonUnits_eq (s : State) (k : SignalId) :
    s.horizonUnits k = 10 * (if (s.planInEffect k).inUse ≠ 0 then s.planInEffect k
      else s.tables.planEntry k .a).horizon.toNat := by
  rw [State.horizonUnits, State.fallbackPlan]
  exact congrArg (fun e : PlanEntry => 10 * e.horizon.toNat) (if_congr (flagSet_iff _) rfl rfl)

theorem remaining_le_iff (now arrival : Time) (n : Nat) : remaining now arrival ≤ n ↔ timeDiff arrival now ≤ n :=
  Int.toNat_le

theorem projects_eq (e : SignalEntry) (d : Direction) :
    e.projects d = e.projectionEnables.getLsbD (match d with | .a => 0 | .b => 1) := by
  cases d <;> rfl

theorem eligible_iff (k : SignalId) (s : State) (r : RequestRecord) :
    eligible k s r = true ↔
      (s.ctx k).state ≠ .unconfigured ∧ (s.ctx k).state ≠ .suspended ∧ r.signal = k ∧
        (r.state = .projected → (s.signalEntry k).projects r.direction = true) ∧ 0 < r.score ∧
        timeDiff r.arrival s.clock ≤ (s.horizonUnits k : Int) ∧ r.doorsOpen = false ∧ r.lapsed = false := by
  simp only [eligible, Bool.and_eq_true, Bool.or_eq_true, Bool.not_eq_true', bne_iff_ne, beq_iff_eq, decide_eq_true_eq,
    remaining_le_iff, and_assoc, ne_eq, imp_iff_not_or]

/-! ## Rank (R96, R97) -/

/-- Times within an hour of the clock differ as their differences to the clock do. -/
theorem timeDiff_within {now a b : Time} (ha : WithinHour now a) (hb : WithinHour now b) :
    timeDiff a b = timeDiff a now - timeDiff b now := by
  obtain ⟨alow, ahigh⟩ := ha
  obtain ⟨blow, bhigh⟩ := hb
  have turned : timeDiff now b = -timeDiff b now := timeDiff_comm (by omega)
  rw [timeDiff_add (b := now) (by omega) (by omega), turned]
  omega

theorem eq_of_timeDiff_eq {now a b : Time} (h : timeDiff a now = timeDiff b now) : a = b :=
  sub_left_inj.mp (BitVec.eq_of_toInt_eq h)

/-- The rank of records within an hour of the clock, by their distances to it. -/
theorem ranksAbove_iff {now : Time} {x y : SlotId × RequestRecord} (hx : WithinHour now x.2.arrival)
    (hy : WithinHour now y.2.arrival) :
    ranksAbove x y = true ↔ y.2.score < x.2.score ∨ (x.2.score = y.2.score ∧
      (timeDiff x.2.arrival now < timeDiff y.2.arrival now ∨
        (timeDiff x.2.arrival now = timeDiff y.2.arrival now ∧ x.1 < y.1))) := by
  have same : x.2.arrival = y.2.arrival ↔ timeDiff x.2.arrival now = timeDiff y.2.arrival now :=
    ⟨fun h => by rw [h], eq_of_timeDiff_eq⟩
  simp only [ranksAbove, Bool.or_eq_true, Bool.and_eq_true, decide_eq_true_eq, beq_iff_eq, timeDiff_within hx hy, same,
    sub_neg]

theorem ranksAbove_trans {now : Time} {x y z : SlotId × RequestRecord} (hx : WithinHour now x.2.arrival)
    (hy : WithinHour now y.2.arrival) (hz : WithinHour now z.2.arrival) (hxy : ranksAbove x y = true)
    (hyz : ranksAbove y z = true) : ranksAbove x z = true := by
  rw [ranksAbove_iff hx hy] at hxy
  rw [ranksAbove_iff hy hz] at hyz
  rw [ranksAbove_iff hx hz]
  simp only [Fin.lt_def] at *
  omega

/-- Of two records in different slots one ranks above the other. -/
theorem ranksAbove_total {now : Time} {x y : SlotId × RequestRecord} (hx : WithinHour now x.2.arrival)
    (hy : WithinHour now y.2.arrival) (h : x.1 ≠ y.1) (hxy : ranksAbove x y ≠ true) : ranksAbove y x = true := by
  rw [ne_eq, ranksAbove_iff hx hy] at hxy
  rw [ranksAbove_iff hy hx]
  simp only [Fin.lt_def, ne_eq, Fin.ext_iff] at *
  omega

/-! ## The first-ranked (R123) -/

/-- The higher ranked of the record kept so far and the next. -/
def keepHigher (best : Option (SlotId × RequestRecord)) (x : SlotId × RequestRecord) :
    Option (SlotId × RequestRecord) :=
  match best with
  | none => some x
  | some y => if ranksAbove x y then some x else some y

theorem topRanked_eq (l : List (SlotId × RequestRecord)) : topRanked l = l.foldl keepHigher none := rfl

theorem foldl_keepHigher_isSome (l : List (SlotId × RequestRecord)) (y : SlotId × RequestRecord) :
    (l.foldl keepHigher (some y)).isSome = true := by
  induction l generalizing y with
  | nil => rfl
  | cons x l ih =>
    rw [List.foldl_cons, keepHigher]
    split <;> exact ih _

theorem topRanked_eq_none {l : List (SlotId × RequestRecord)} (h : topRanked l = none) : l = [] := by
  cases l with
  | nil => rfl
  | cons x l =>
    have some_kept := foldl_keepHigher_isSome l x
    rw [topRanked_eq, List.foldl_cons] at h
    rw [show keepHigher none x = some x from rfl] at h
    rw [h] at some_kept
    cases some_kept

/-- The record kept in the end ranks above the one kept at first and all that were met, but for itself. -/
theorem foldl_keepHigher_above {now : Time} {l : List (SlotId × RequestRecord)} {y top : SlotId × RequestRecord}
    (hwithin : ∀ x ∈ y :: l, WithinHour now x.2.arrival) (hslots : ((y :: l).map Prod.fst).Nodup)
    (h : l.foldl keepHigher (some y) = some top) :
    top ∈ y :: l ∧ ∀ x ∈ y :: l, x = top ∨ ranksAbove top x = true := by
  induction l generalizing y with
  | nil =>
    obtain rfl : y = top := Option.some.inj h
    exact ⟨List.mem_cons_self, fun x hx => .inl (List.mem_singleton.mp hx)⟩
  | cons z l ih =>
    have hy := hwithin y List.mem_cons_self
    have hz := hwithin z (List.mem_cons_of_mem _ List.mem_cons_self)
    simp only [List.map_cons, List.nodup_cons, List.mem_cons, not_or] at hslots
    obtain ⟨⟨hyz, hyl⟩, hzl, hl⟩ := hslots
    rw [List.foldl_cons, keepHigher] at h
    split at h
    · next higher =>
      obtain ⟨htop, above⟩ := ih (fun x hx => hwithin x (List.mem_cons_of_mem _ hx)) (List.nodup_cons.mpr ⟨hzl, hl⟩) h
      have htop' := hwithin top (List.mem_cons_of_mem _ htop)
      refine ⟨List.mem_cons_of_mem _ htop, fun x hx => ?_⟩
      obtain rfl | hx := List.mem_cons.mp hx
      · obtain rfl | hz' := above z List.mem_cons_self
        · exact .inr higher
        · exact .inr (ranksAbove_trans htop' hz hy hz' higher)
      · exact above x hx
    · next lower =>
      have hyl' : ∀ x ∈ y :: l, x ∈ y :: z :: l := List.cons_subset_cons y (List.subset_cons_self z l)
      obtain ⟨htop, above⟩ := ih (fun x hx => hwithin x (hyl' x hx)) (List.nodup_cons.mpr ⟨hyl, hl⟩) h
      have htop' := hwithin top (hyl' top htop)
      refine ⟨hyl' top htop, fun x hx => ?_⟩
      obtain rfl | hx := List.mem_cons.mp hx
      · exact above x List.mem_cons_self
      obtain rfl | hx := List.mem_cons.mp hx
      · have passed := ranksAbove_total hz hy (Ne.symm hyz) lower
        obtain rfl | hy' := above y List.mem_cons_self
        · exact .inr passed
        · exact .inr (ranksAbove_trans htop' hy hz hy' passed)
      · exact above x (List.mem_cons_of_mem _ hx)

theorem topRanked_above {now : Time} {l : List (SlotId × RequestRecord)} {top : SlotId × RequestRecord}
    (hwithin : ∀ x ∈ l, WithinHour now x.2.arrival) (hslots : (l.map Prod.fst).Nodup) (h : topRanked l = some top) :
    ∀ x ∈ l, x = top ∨ ranksAbove top x = true := by
  cases l with
  | nil => exact fun x hx => absurd hx List.not_mem_nil
  | cons y l => exact (foldl_keepHigher_above hwithin hslots h).2

theorem candidate_above {k : SignalId} {s : State} (arrivals : ArrivalsOk s) {c : SlotId × RequestRecord}
    (h : candidate k s = some c) {j : SlotId} {y : RequestRecord} (hy : s.record j = some y)
    (heligible : eligible k s y = true) (hj : j ≠ c.1) : ranksAbove c (j, y) = true := by
  have within : ∀ x ∈ s.records.filter fun x => eligible k s x.2, WithinHour s.clock x.2.arrival := fun x hx => by
    obtain ⟨low, high, -⟩ := arrivals x (List.mem_of_mem_filter hx)
    exact ⟨low, high⟩
  obtain rfl | above := topRanked_above within (s.nodup_records_filter _) h (j, y)
    (List.mem_filter.mpr ⟨(s.mem_records _).mpr hy, heligible⟩)
  · exact absurd rfl hj
  · exact above

theorem candidate_none {k : SignalId} {s : State} (h : candidate k s = none) {j : SlotId} {y : RequestRecord}
    (hy : s.record j = some y) : eligible k s y = false := by
  have none_eligible := List.filter_eq_nil_iff.mp (topRanked_eq_none h) (j, y) ((s.mem_records _).mpr hy)
  exact Bool.eq_false_iff.mpr none_eligible

/-- Settles O38. -/
theorem candidateRanksFirst : Obligations.CandidateRanksFirst := by
  refine ⟨fun k s r => ?_, fun k s arrivals => ⟨fun i x h => ?_, fun h j y hy => candidate_none h hy⟩⟩
  · rw [eligible_iff, projects_eq, horizonUnits_eq, Int.natCast_mul]
    rfl
  · obtain ⟨hx, heligible⟩ := candidate_some h
    refine ⟨hx, heligible, fun j y hy he hj => ?_⟩
    have above := candidate_above arrivals h hy he hj
    simp only [ranksAbove, Bool.or_eq_true, Bool.and_eq_true, decide_eq_true_eq, beq_iff_eq] at above
    rw [eq_comm (a := y.score)]
    exact above

end Sys2Proof.Machine
end

section
/-! The holder after an evaluation (R63, R123, R124), and the horizon entry of a record (R62). -/

namespace Sys2Proof.Machine

/-! ## The holder that an evaluation settles (R123) -/

theorem evaluate_holder (k : SignalId) (s : State) :
    ((evaluate k s).ctx k).holder = ((settleHolder k s).ctx k).holder :=
  (accounts_serveHolder k (settleHolder k s)).holder k

theorem takeCandidate_holder {k : SignalId} {s : State} (h : (s.ctx k).holder = none)
    (c : Option (SlotId × RequestRecord)) : ((takeCandidate k c s).ctx k).holder = c.map Prod.fst := by
  cases c with
  | none => exact h
  | some x => exact takeHolding_holder k x.1 s

section
variable {k : SignalId} {s : State} {i j : SlotId} {x y : RequestRecord}

theorem settleHolder_free (h : s.holderOf k = none) : settleHolder k s = takeCandidate k (candidate k s) s := by
  rw [settleHolder, h]

theorem settleHolder_ineligible (h : s.holderOf k = some (i, x)) (he : eligible k s x = false) :
    settleHolder k s = takeCandidate k (candidate k s) (giveUp k s) := by
  rw [settleHolder, h]
  dsimp only
  rw [he]
  rfl

/-- An eligible holder makes way for another candidate with no call in force, or with one by more than the margin. -/
theorem settleHolder_eligible (h : s.holderOf k = some (i, x)) (he : eligible k s x = true)
    (hc : candidate k s = some (j, y)) :
    settleHolder k s =
      if j ≠ i ∧ ((s.ctx k).call = none ∨ x.score + s.tables.global.holdMargin.toNat < y.score) then
        takeHolding k j (giveUp k s)
      else s := by
  rw [settleHolder, h, hc]
  dsimp only
  rw [he, Bool.not_true, if_neg Bool.false_ne_true]
  by_cases hji : j = i
  · rw [if_pos hji, if_neg fun g => g.1 hji]
  · rw [if_neg hji]
    cases hcall : (s.ctx k).call with
    | none => simp [hji]
    | some c => simp [hji]

/-- A holder that does not hold after the choice of a holder has given up holding (R124). -/
theorem settleHolder_record_released (h : s.holderOf k = some (i, x))
    (hafter : ((settleHolder k s).ctx k).holder ≠ some i) :
    (settleHolder k s).record i = some (x.released s.clock (s.horizonUnits k)) := by
  obtain ⟨hi, hx⟩ := holderOf_eq_some h
  have released : (giveUp k s).record i = some (x.released s.clock (s.horizonUnits k)) := by
    rw [giveUp_record hi, if_pos rfl, hx]
    rfl
  obtain ⟨hnone, -⟩ | ⟨a, r, ha, ⟨-, e⟩ | ⟨-, e⟩ | ⟨j, y, -, hja, e⟩⟩ := settleHolder_cases k s
  · rw [h] at hnone
    cases hnone
  all_goals
    obtain rfl : i = a := congrArg Prod.fst (Option.some.inj (h.symm.trans ha))
    rw [e] at hafter ⊢
  · exact absurd hi hafter
  · exact released
  · rw [takeHolding_record, if_neg (Ne.symm hja)]
    exact released

theorem evaluate_record_released (h : s.holderOf k = some (i, x))
    (hafter : ((evaluate k s).ctx k).holder ≠ some i) :
    (evaluate k s).record i = some (x.released s.clock (s.horizonUnits k)) := by
  rw [evaluate_holder] at hafter
  obtain ⟨q, hq, -, -, -, -, unheld⟩ := (accounts_serveHolder k (settleHolder k s)).record i _
    (settleHolder_record_released h hafter)
  exact hq.trans (congrArg some (unheld hafter))

end

/-- Settles O39. -/
theorem holderIsChosen : Obligations.HolderIsChosen := by
  rintro k s _ hs rfl
  have settled := holdersOk_evaluate hs k
  refine ⟨fun i x h he => ?_, fun h => ?_, fun i x j y h he hc => ?_, fun i y hi hy => ?_, fun i x h hafter => ?_⟩
  · rw [evaluate_holder, settleHolder_ineligible h he]
    exact takeCandidate_holder (giveUp_holder k s).1 _
  · rw [evaluate_holder, settleHolder_free h]
    exact takeCandidate_holder (hs.holderOf_none h) _
  · have hi := (holderOf_eq_some h).1
    rw [evaluate_holder, settleHolder_eligible h he hc]
    refine ⟨fun hji => ?_, fun hji hcall => ?_, fun hji _ margin => ?_, fun _ hcall margin => ?_⟩
    · rw [if_neg fun g => g.1 hji]
      exact hi
    · rw [if_pos ⟨hji, .inl hcall⟩]
      exact takeHolding_holder k j _
    · rw [if_pos ⟨hji, .inr margin⟩]
      exact takeHolding_holder k j _
    · rw [if_neg]
      · exact hi
      · rintro ⟨-, hnone | above⟩
        · rw [hnone] at hcall
          cases hcall
        · exact absurd margin (Nat.not_le.mpr above)
  · obtain ⟨q, hq, -, hstate⟩ := settled.holder hi
    obtain rfl : q = y := Option.some.inj (hq.symm.trans hy)
    exact hstate
  · have record := evaluate_record_released h hafter
    refine ⟨fun hp => ?_, fun hp far => ?_, fun hp near => ?_⟩
    · rw [record, released_of_projected hp]
    · rw [record, released_of_checkIn hp, RequestRecord.byHorizon, if_pos far]
    · rw [record, released_of_checkIn hp, RequestRecord.byHorizon, if_neg (Nat.not_lt.mpr near)]

/-! ## A record that enters its horizon (R62) -/

theorem exec_horizonEntry (i : SlotId) (s : State) :
    exec (.horizonEntry i) s = .next (event (takeHorizonEntry i) s) := by
  rfl

/-- An ARMED record that enters its horizon. -/
def RequestRecord.woken (x : RequestRecord) : RequestRecord := { x with state := .waiting, horizonEntry := none }

theorem takeHorizonEntry_due {i : SlotId} {x : RequestRecord} {s : State} (hx : s.record i = some x)
    (h : Due s (.horizonEntry i)) : takeHorizonEntry i s = evaluate x.signal (s.setRecord i (some x.woken)) := by
  have due := (horizonDue_iff s i).mpr h
  rw [slotMeets, hx] at due
  simp only [horizonDue, Bool.and_eq_true, beq_iff_eq] at due
  rw [takeHorizonEntry, hx]
  exact if_pos due

theorem takeHorizonEntry_early {i : SlotId} {s : State} (h : ¬ Due s (.horizonEntry i)) :
    takeHorizonEntry i s = s := by
  rw [← horizonDue_iff] at h
  unfold takeHorizonEntry
  split
  · rfl
  · next x hx =>
    rw [slotMeets, hx] at h
    simp only [horizonDue, Bool.and_eq_true, beq_iff_eq] at h
    exact if_neg h

/-- After an evaluation a WAITING record is WAITING or HOLDING. -/
theorem evaluate_record_waiting {s : State} (hs : HoldersOk s) {i : SlotId} {k : SignalId} {x : RequestRecord}
    (hx : s.record i = some x) (hstate : x.state = .waiting) (hentry : x.horizonEntry = none) :
    ∃ y, (evaluate k s).record i = some y ∧ (y.state = .waiting ∨ y.state = .holding) ∧
      y.horizonEntry = none ∧ y.unserved = x.unserved := by
  obtain ⟨y, hy, chosen⟩ := evaluate_record (k := k) hs hx
  refine ⟨y, hy, ?_⟩
  by_cases holds : ((evaluate k s).ctx k).holder = some i
  · have holding : y.state = .holding := by
      obtain ⟨q, hq, -, hq'⟩ := (holdersOk_evaluate hs k).holder holds
      obtain rfl : y = q := Option.some.inj (hy.symm.trans hq)
      refine hq'.resolve_right fun hp => ?_
      rw [chosen.resettled.projected_iff, hstate] at hp
      cases hp
    obtain ⟨same, -⟩ | ⟨-, -, far, near⟩ := chosen.resettled.place
    · rw [same, hstate] at holding
      cases holding
    · obtain beyond | within := Nat.lt_or_ge (s.horizonUnits y.signal) (remaining s.clock y.arrival)
      · rw [(far beyond).1] at holding
        cases holding
      · exact ⟨.inr holding, (near within).2, chosen.resettled.unserved⟩
  · have unheld := hs.holder_ne hx (by rw [hstate]; nofun) (by rw [hstate]; nofun) k
    obtain rfl := chosen.unheld unheld holds
    exact ⟨.inl hstate, hentry, rfl⟩

/-- A record that stays at its signal leaves those of the others. -/
theorem sameBeyond_setRecord {s : State} {i : SlotId} {x y : RequestRecord} (hx : s.record i = some x)
    (hy : y.signal = x.signal) : SameBeyond x.signal s (s.setRecord i (some y)) := by
  refine ⟨fun _ _ => rfl, fun j r hr => ?_⟩
  rw [State.record_setRecord]
  split
  · next hj =>
    rw [hj, hx]
    refine iff_of_false (fun e => hr ?_) (fun e => hr ?_) <;> rw [← Option.some.inj e]
    exact hy
  · exact Iff.rfl

/-- Settles O31. -/
theorem horizonEntryWakesRecord : Obligations.HorizonEntryWakesRecord := by
  refine ⟨fun i x h s hheld hs hx harmed hentry hdue => ?_, fun i s hheld early => ?_⟩
  · have due : Due s (.horizonEntry i) := ⟨x, h, hx, harmed, hentry, hdue⟩
    have unheld := hs.holder_ne hx (by rw [harmed]; nofun) (by rw [harmed]; nofun) x.signal
    have woken : HoldersOk (s.setRecord i (some x.woken)) :=
      holdersOk_setRecord_same hs hx rfl (iff_of_false nofun unheld)
    have works := (works_setRecord i (some x.woken) s).trans (works_evaluate x.signal _)
    have record := State.record_setRecord_self s i (some x.woken)
    have serves := serves_evaluate x.signal (s.setRecord i (some x.woken))
    have beyond := (sameBeyond_setRecord (y := x.woken) hx rfl).trans (sameBeyond_evaluate woken x.signal)
    obtain ⟨y, hy, hstate, hnone, unserved⟩ := evaluate_record_waiting (k := x.signal) (x := x.woken) woken record rfl rfl
    have enters : exec (.horizonEntry i) s = .next (finish (evaluate x.signal (s.setRecord i (some x.woken)))) := by
      rw [exec_horizonEntry, event_run _ s hheld, takeHorizonEntry_due hx due]
    show ∃ u y, exec (.horizonEntry i) s = .next u ∧ u = finish (evaluate x.signal (s.setRecord i (some x.woken))) ∧ _
    generalize evaluate x.signal (s.setRecord i (some x.woken)) = m at *
    exact ⟨finish m, y, enters, rfl, hy, hstate, hnone, unserved, works.toSameConfig.trans (finish_keeps m), beyond,
      works.finish_sameReceiver, serves.reports⟩
  · rw [exec_horizonEntry, event_run _ s hheld, takeHorizonEntry_early early]

end Sys2Proof.Machine
end

section
/-! Service as it goes on at one signal, through an evaluation and a lapse: the records of the signal and what is committed
for them (R120, R134, R135, R143, R152). -/

namespace Sys2Proof.Machine

/-! ## The records that service leaves (R63, R124, R152) -/

/-- From s to t the service of signal k has gone on: a record placed by its horizon has stayed placed by it, and those of the
other signals are as they were. -/
structure Serviced (k : SignalId) (s t : State) : Prop extends Serves k s t where
  holders : HoldersOk s → HoldersOk t
  record_left : HoldersOk s → ∀ i r, s.record i = some r → ∃ q, t.record i = some q ∧
    (PlacedByHorizon s r → PlacedByHorizon s q) ∧ (r.signal ≠ k → q = r)

theorem Serviced.sameHorizons {k : SignalId} {s t : State} (h : Serviced k s t) : SameHorizons s t :=
  h.toServes.evaluated.sameHorizons

theorem Serviced.trans {k : SignalId} {s t u : State} (h : Serviced k s t) (g : Serviced k t u) : Serviced k s u where
  toServes := h.toServes.trans g.toServes
  holders := g.holders ∘ h.holders
  record_left hs i r hr := by
    obtain ⟨q, hq, placed, other⟩ := h.record_left hs i r hr
    obtain ⟨x, hx, placed', other'⟩ := g.record_left (h.holders hs) i q hq
    refine ⟨x, hx, fun hr => ?_, fun hk => ?_⟩
    · exact (placed' ((placed hr).congr h.sameHorizons)).congr h.sameHorizons.symm
    · obtain rfl := other hk
      exact other' hk

theorem Serviced.sameBeyond {k : SignalId} {s t : State} (h : Serviced k s t) (hs : HoldersOk s) : SameBeyond k s t := by
  have kept {i : SlotId} {r : RequestRecord} (hr : s.record i = some r) (hk : r.signal ≠ k) : t.record i = some r := by
    obtain ⟨q, hq, -, other⟩ := h.record_left hs i r hr
    rw [hq, other hk]
  refine ⟨h.ctxOther, fun i r hk => ⟨fun hr => ?_, fun hr => kept hr hk⟩⟩
  have unserved := h.record i
  rw [hr, Option.map_some, eq_comm, Option.map_eq_some_iff] at unserved
  obtain ⟨x, hx, unserved⟩ := unserved
  have stays := kept hx (by rw [unserved_signal unserved]; exact hk)
  rw [hr] at stays
  rw [hx, ← stays]

theorem serviced_evaluate (k : SignalId) (s : State) : Serviced k s (evaluate k s) where
  toServes := serves_evaluate k s
  holders hs := holdersOk_evaluate hs k
  record_left hs i r hr := by
    obtain ⟨q, hq, chosen⟩ := evaluate_record (k := k) hs hr
    refine ⟨q, hq, chosen.resettled.placed, fun hk => ?_⟩
    rw [evaluate_record_other hs hr hk] at hq
    exact (Option.some.inj hq).symm

theorem serviced_generateCancel (k : SignalId) (s : State) : Serviced k s (generateCancel k s) where
  toServes := serves_generateCancel k s
  holders hs := hs.accounts (serves_generateCancel k s) (accounts_generateCancel k s)
  record_left _ i r hr := ⟨r, (generateCancel_record k s i).trans hr, id, fun _ => rfl⟩

theorem serviced_giveUp (k : SignalId) (s : State) : Serviced k s (giveUp k s) := by
  cases hk : (s.ctx k).holder with
  | none =>
    rw [giveUp_of_none hk]
    exact serviced_generateCancel k s
  | some i =>
    refine ⟨serves_giveUp k s, fun hs => hs.giveUp k, fun hs j r hr => ?_⟩
    rw [giveUp_record hk]
    split
    · next hj =>
      subst hj
      rw [hr]
      have signal := hs.holder_signal hk hr
      exact ⟨_, rfl, (resettled_released signal).placed, fun h => absurd signal h⟩
    · exact ⟨r, hr, id, fun _ => rfl⟩

/-- A change of the holder's record that leaves where it stands. -/
theorem serviced_modHolder {k : SignalId} {s : State} {i : SlotId} (hk : (s.ctx k).holder = some i)
    {f : RequestRecord → RequestRecord} (hf : ∀ r, (f r).unserved = r.unserved ∧ (f r).state = r.state ∧
      (f r).horizonEntry = r.horizonEntry) : Serviced k s (s.modRecord i f) where
  toServes := serves_modRecord k i f s fun r _ => (hf r).1
  holders hs := by
    refine hs.congr (fun _ => rfl) (standing_modRecord (fun r => ?_) i s)
    obtain ⟨unserved, state, -⟩ := hf r
    rw [RequestRecord.standing, unserved_signal unserved, state, RequestRecord.standing]
  record_left hs j r hr := by
    rw [State.record_modRecord]
    split
    · next hj =>
      subst hj
      obtain ⟨unserved, state, entry⟩ := hf r
      rw [hr]
      exact ⟨f r, rfl, fun h => h.record_congr unserved state entry, fun h => absurd (hs.holder_signal hk hr) h⟩
    · exact ⟨r, hr, id, fun _ => rfl⟩

/-- A holder marked LAPSED (R152). -/
def markLapsed (k : SignalId) (s : State) : State :=
  match (s.ctx k).holder with
  | none => s
  | some i => s.modRecord i fun r => { r with lapsed := true }

theorem lapse_eq (k : SignalId) (s : State) :
    lapse k s = evaluate k (giveUp k (markLapsed k (generateCancel k s))) := by
  rfl

theorem serviced_refl (k : SignalId) (s : State) : Serviced k s s where
  toServes := Serves.refl k s
  holders := id
  record_left _ _ r hr := ⟨r, hr, id, fun _ => rfl⟩

theorem serviced_markLapsed (k : SignalId) (s : State) : Serviced k s (markLapsed k s) := by
  unfold markLapsed
  split
  · exact serviced_refl k s
  · next hk => exact serviced_modHolder hk fun _ => by exact ⟨rfl, rfl, rfl⟩

theorem serviced_lapse (k : SignalId) (s : State) : Serviced k s (lapse k s) := by
  rw [lapse_eq]
  exact (((serviced_generateCancel k s).trans (serviced_markLapsed k _)).trans (serviced_giveUp k _)).trans
    (serviced_evaluate k _)

/-! ## What is spent and committed (R105, R107, R134, R135) -/

/-- The signal of a record and what is committed for it in the cycle. -/
def RequestRecord.ledger (r : RequestRecord) : SignalId × Nat := (r.signal, r.committed)

/-- From s to t nothing has been spent at signal k nor committed for a record. -/
def SameLedger (k : SignalId) (s t : State) : Prop :=
  (t.ctx k).spent = (s.ctx k).spent ∧
    ∀ i, (t.record i).map RequestRecord.ledger = (s.record i).map RequestRecord.ledger

theorem SameLedger.refl (k : SignalId) (s : State) : SameLedger k s s := ⟨rfl, fun _ => rfl⟩

theorem SameLedger.trans {k : SignalId} {s t u : State} (h : SameLedger k s t) (g : SameLedger k t u) :
    SameLedger k s u :=
  ⟨g.1.trans h.1, fun i => (g.2 i).trans (h.2 i)⟩

theorem sameLedger_of_map {k : SignalId} {s t : State} {i : SlotId} {f : RequestRecord → RequestRecord}
    (hf : ∀ r, (f r).ledger = r.ledger) (hspent : (t.ctx k).spent = (s.ctx k).spent)
    (h : ∀ j, t.record j = if j = i then (s.record j).map f else s.record j) : SameLedger k s t := by
  refine ⟨hspent, fun j => ?_⟩
  rw [h]
  split
  · rw [Option.map_map]
    exact congrArg (fun g => (s.record j).map g) (funext hf)
  · rfl

theorem sameLedger_modRecord {f : RequestRecord → RequestRecord} (hf : ∀ r, (f r).ledger = r.ledger) (k : SignalId)
    (i : SlotId) (s : State) : SameLedger k s (s.modRecord i f) :=
  sameLedger_of_map hf rfl fun j => State.record_modRecord s i j f

theorem generateCancel_spent (k : SignalId) (s : State) :
    ((generateCancel k s).ctx k).spent = (s.ctx k).spent := by
  unfold generateCancel
  split
  · rfl
  · rw [placeCall_ctx, State.ctx_setCtx_self]
    rfl

theorem sameLedger_generateCancel (k : SignalId) (s : State) : SameLedger k s (generateCancel k s) :=
  ⟨generateCancel_spent k s, fun i => by rw [generateCancel_record]⟩

theorem released_ledger (r : RequestRecord) (now : Time) (horizon : Nat) :
    (r.released now horizon).ledger = r.ledger := by
  unfold RequestRecord.released RequestRecord.byHorizon
  split_ifs <;> rfl

theorem held_ledger (r : RequestRecord) : r.held.ledger = r.ledger := by
  unfold RequestRecord.held
  split <;> rfl

theorem giveUp_spent (k : SignalId) (s : State) : ((giveUp k s).ctx k).spent = (s.ctx k).spent := by
  rw [← generateCancel_spent k s]
  unfold giveUp
  dsimp only
  split
  · rfl
  · rw [State.ctx_setCtx_self]

theorem sameLedger_giveUp (k : SignalId) (s : State) : SameLedger k s (giveUp k s) := by
  cases hk : (s.ctx k).holder with
  | none =>
    rw [giveUp_of_none hk]
    exact sameLedger_generateCancel k s
  | some i => exact sameLedger_of_map (fun r => released_ledger r _ _) (giveUp_spent k s) (giveUp_record hk)

theorem sameLedger_takeHolding (k : SignalId) (i : SlotId) (s : State) : SameLedger k s (takeHolding k i s) := by
  refine sameLedger_of_map held_ledger ?_ (takeHolding_record k i s)
  rw [takeHolding, State.ctx_setCtx_self]

theorem sameLedger_settleHolder (k : SignalId) (s : State) : SameLedger k s (settleHolder k s) := by
  obtain ⟨-, e⟩ | ⟨i, r, -, ⟨-, e⟩ | ⟨-, e⟩ | ⟨j, q, -, -, e⟩⟩ := settleHolder_cases k s <;> rw [e]
  · cases candidate k s with
    | none => exact SameLedger.refl k s
    | some x => exact sameLedger_takeHolding k x.1 s
  · exact SameLedger.refl k s
  · exact sameLedger_giveUp k s
  · exact (sameLedger_giveUp k s).trans (sameLedger_takeHolding k j _)

theorem sameLedger_markLapsed (k : SignalId) (s : State) : SameLedger k s (markLapsed k s) := by
  unfold markLapsed
  split
  · exact SameLedger.refl k s
  · exact sameLedger_modRecord (fun _ => by exact rfl) k _ s

/-- From s to t a call of an action and amount has been generated for the record in a slot, the signal's holder. -/
structure Called (k : SignalId) (i : SlotId) (action : CallAction) (amount : Nat) (s t : State) : Prop where
  holds : (s.ctx k).holder = some i
  holder : (t.ctx k).holder = some i
  call : callCarries (t.ctx k).call action amount = true
  other : ∀ j, j ≠ i → t.record j = s.record j

theorem called_generateCall {k : SignalId} {i : SlotId} {s : State} (hk : (s.ctx k).holder = some i) (r : RequestRecord)
    (action : CallAction) (amount : Nat) (pf : Bool) :
    Called k i action amount s (generateCall k i r action amount pf s) where
  holds := hk
  holder := ((accounts_generateCall hk r action amount pf).holder k).trans hk
  call := by
    rw [generateCall, placeCall_ctx, State.ctx_modRecord, State.ctx_setCtx_self]
    simp [SignalContext.withCall, callCarries, callContent]
  other j hj := by
    rw [generateCall, placeCall_record, State.record_modRecord_ne _ _ hj, State.record_setCtx]

/-- The holder's outcome is a new call, which is not the one in force, or nothing is spent or committed (R137). -/
theorem serveHolder_cases (k : SignalId) (s : State) :
    SameLedger k s (serveHolder k s) ∨ ∃ i action amount, callCarries (s.ctx k).call action amount = false ∧
      Called k i action amount s (serveHolder k s) := by
  unfold serveHolder
  split
  · exact .inl (SameLedger.refl k s)
  · next i r hk =>
    obtain ⟨hholder, -⟩ := holderOf_eq_some hk
    split
    · exact .inl (SameLedger.refl k s)
    · next o _ =>
      have recorded : SameLedger k s (recordOutcome i o s) := sameLedger_modRecord (fun _ => by exact rfl) k i s
      have untouched (j : SlotId) (hj : j ≠ i) : (recordOutcome i o s).record j = s.record j :=
        State.record_modRecord_ne _ _ hj
      unfold actOnOutcome
      split
      · exact .inl (recorded.trans (sameLedger_generateCancel k _))
      · next action amount _ =>
        split
        · exact .inl recorded
        · next new =>
          rw [Bool.or_eq_true, not_or, Bool.not_eq_true, Bool.not_eq_true] at new
          have called := called_generateCall (s := recordOutcome i o s) hholder r action amount o.2
          exact .inr ⟨i, action, amount, new.2, hholder, called.holder, called.call,
            fun j hj => (called.other j hj).trans (untouched j hj)⟩

/-- Nothing is spent at a signal, and nothing committed for its records. -/
def Unspent (k : SignalId) (s : State) : Prop :=
  (s.ctx k).spent = 0 ∧ ∀ i r, s.record i = some r → r.signal = k → r.committed = 0

theorem Unspent.congr {k : SignalId} {s t : State} (h : Unspent k s) (same : SameLedger k s t) : Unspent k t := by
  refine ⟨same.1.trans h.1, fun i q hq hk => ?_⟩
  have ledger := same.2 i
  rw [hq, Option.map_some, eq_comm, Option.map_eq_some_iff] at ledger
  obtain ⟨r, hr, ledger⟩ := ledger
  obtain ⟨signal, committed⟩ := Prod.mk.inj ledger
  exact committed.symm.trans (h.2 i r hr (signal.trans hk))

/-- What is spent at a signal is spent for the call in force, and what is committed for a record is for the holder. -/
def SpentOnCall (k : SignalId) (s : State) : Prop :=
  ((s.ctx k).call = none → (s.ctx k).spent = 0) ∧
    ∀ i r, s.record i = some r → r.signal = k → (s.ctx k).holder ≠ some i → r.committed = 0

theorem Unspent.evaluate {k : SignalId} {s : State} (h : Unspent k s) : SpentOnCall k (evaluate k s) := by
  have settled := h.congr (sameLedger_settleHolder k s)
  show SpentOnCall k (serveHolder k (settleHolder k s))
  obtain same | ⟨i, action, amount, -, called⟩ := serveHolder_cases k (settleHolder k s)
  · obtain ⟨spent, committed⟩ := settled.congr same
    exact ⟨fun _ => spent, fun i r hr hk _ => committed i r hr hk⟩
  · refine ⟨fun hnone => ?_, fun j r hr hk hj => settled.2 j r ?_ hk⟩
    · have call := called.call
      rw [hnone] at call
      cases call
    · refine (called.other j ?_).symm.trans hr
      rintro rfl
      exact hj called.holder

/-- With the same holder before and after it, the choice of a holder is no change. -/
theorem settleHolder_same {k : SignalId} {s : State} (hs : HoldersOk s) {i : SlotId} (before : (s.ctx k).holder = some i)
    (after : ((settleHolder k s).ctx k).holder = some i) : settleHolder k s = s := by
  obtain ⟨hnone, -⟩ | ⟨a, r, ha, ⟨-, e⟩ | ⟨-, e⟩ | ⟨j, q, -, hja, e⟩⟩ := settleHolder_cases k s
  · rw [hs.holderOf_none hnone] at before
    cases before
  · exact e
  · rw [e, (giveUp_holder k s).1] at after
    cases after
  · rw [e, takeHolding_holder] at after
    rw [(holderOf_eq_some ha).1] at before
    exact absurd (Option.some.inj (after.trans before.symm)) hja

/-- An evaluation that leaves the call in force unchanged generates none (R137, R150). -/
theorem sameLedger_of_callUnchanged {k : SignalId} {s : State} (hs : HoldersOk s)
    (h : callUnchanged k s (evaluate k s) = true) : SameLedger k s (evaluate k s) := by
  simp only [callUnchanged, Bool.and_eq_true, beq_iff_eq] at h
  obtain ⟨⟨-, call⟩, holder⟩ := h
  have settled := sameLedger_settleHolder k s
  obtain same | ⟨i, action, amount, new, called⟩ := serveHolder_cases k (settleHolder k s)
  · exact settled.trans same
  · have unmoved := settleHolder_same hs (holder.symm.trans called.holder) called.holds
    have carried : callCarries ((evaluate k s).ctx k).call action amount = true := called.call
    rw [unmoved, ← call, carried] at new
    cases new

end Sys2Proof.Machine
end

section
/-! A status frame that one context takes (R61, R100 to R113). -/

namespace Sys2Proof.Machine

/-! ## The comparison with the previous values (R101 step 2) -/

theorem statusChange_never {c : SignalContext} (h : c.freshness = .never) (p : PlanId) (position : Half) :
    statusChange c p position = .neither := by
  rw [statusChange, h]

theorem statusChange_untaken {c : SignalContext} (h : c.taken = none) (p : PlanId) (position : Half) :
    statusChange c p position = .neither := by
  rw [statusChange, h]
  cases c.freshness <;> rfl

theorem statusChange_heard {c : SignalContext} {q : Half} {t : Time} (h : c.freshness ≠ .never)
    (ht : c.taken = some (q, t)) (p : PlanId) (position : Half) :
    statusChange c p position =
      if p ≠ c.plan then .planSelect else if position.toNat < q.toNat then .cycleBoundary else .neither := by
  rw [statusChange, ht]
  cases hfresh : c.freshness with
  | never => exact absurd hfresh h
  | fresh _ => rfl
  | stale => rfl

theorem statusChange_planSelect_iff (c : SignalContext) (p : PlanId) (position : Half) :
    statusChange c p position = .planSelect ↔ (c.freshness != .never && c.taken.isSome && p != c.plan) = true := by
  by_cases h : c.freshness = .never
  · rw [statusChange_never h]
    simp [h]
  cases ht : c.taken with
  | none =>
    rw [statusChange_untaken ht]
    simp
  | some x =>
    rw [statusChange_heard h ht]
    split_ifs <;> simp_all

theorem statusChange_cycleBoundary_iff (c : SignalContext) (p : PlanId) (position : Half) :
    statusChange c p position = .cycleBoundary ↔
      (c.freshness != .never && p == c.plan && c.taken.any fun x => decide (position.toNat < x.1.toNat)) = true := by
  by_cases h : c.freshness = .never
  · rw [statusChange_never h]
    simp [h]
  cases ht : c.taken with
  | none =>
    rw [statusChange_untaken ht]
    simp
  | some x =>
    rw [statusChange_heard h ht]
    split_ifs <;> simp_all

/-! ## Only records follow the context (R61, R105, R107, R110) -/

theorem onlyRecords_clearCommitted (k : SignalId) (ch : StatusChange) (s : State) :
    OnlyRecords s (clearCommitted k ch s) := by
  cases ch with
  | neither => exact OnlyRecords.refl s
  | planSelect => exact changeRecordsAt_slots k _ s
  | cycleBoundary => exact changeRecordsAt_slots k _ s

theorem onlyRecords_reexamineRecords (k : SignalId) (b : Bool) (s : State) :
    OnlyRecords s (reexamineRecords k b s) := by
  unfold reexamineRecords
  split
  · exact changeRecordsAt_slots k _ s
  · exact OnlyRecords.refl s

theorem onlyRecords_creditService (k : SignalId) (s : State) : OnlyRecords s (creditService k s) := by
  unfold creditService
  split
  · exact OnlyRecords.refl s
  · split
    · exact (OnlyRecords.refl s).setRecord _ _
    · exact OnlyRecords.refl s

theorem onlyRecords_statusTaken (k : SignalId) (p : PlanId) (f : SignalStatus) (s : State) :
    OnlyRecords (statusHeard k p f s) (statusTaken k p f s) :=
  ((onlyRecords_clearCommitted k _ _).trans (onlyRecords_reexamineRecords k _ _)).trans (onlyRecords_creditService k _)

theorem statusTaken_ctx_self (k : SignalId) (p : PlanId) (f : SignalStatus) (s : State) :
    (statusTaken k p f s).ctx k =
      (s.ctx k).withStatus (statusChange (s.ctx k) p f.position) f p s.clock (statusTimeout s) := by
  rw [(onlyRecords_statusTaken k p f s).ctx, statusHeard, State.ctx_setCtx_self]

theorem statusTaken_ctx_ne {k j : SignalId} (h : j ≠ k) (p : PlanId) (f : SignalStatus) (s : State) :
    (statusTaken k p f s).ctx j = s.ctx j := by
  rw [(onlyRecords_statusTaken k p f s).ctx, statusHeard, State.ctx_setCtx_ne s _ h]

/-! ## What a status frame makes of a record -/

/-- A record after the comparison of a status frame (R105, R107). -/
def RequestRecord.cleared (r : RequestRecord) : StatusChange → RequestRecord
  | .neither => r
  | .planSelect => { r with committed := 0 }
  | .cycleBoundary => { r with committed := 0 }

/-- A record re-examined after a change of the plan in effect (R61). -/
def RequestRecord.replanned (r : RequestRecord) (planChanged : Bool) (now : Time) (horizon : Nat) : RequestRecord :=
  if planChanged then r.reexamined now horizon else r

/-- A record credited with the service in effect (R110). -/
def RequestRecord.credited (r : RequestRecord) (b : Bool) : RequestRecord := { r with served := r.served || b }

/-- The service in effect credits the record in a slot (R110). -/
def credits (k : SignalId) (s : State) (i : SlotId) : Bool :=
  (s.ctx k).holder == some i && (s.ctx k).call.isSome && (s.ctx k).service != .noService

theorem clearCommitted_record (k : SignalId) (ch : StatusChange) (s : State) (i : SlotId) :
    (clearCommitted k ch s).record i = (s.record i).map fun r => if r.signal = k then r.cleared ch else r := by
  cases ch with
  | neither => simp [clearCommitted, RequestRecord.cleared]
  | planSelect => exact changeRecordsAt_record k _ s i
  | cycleBoundary => exact changeRecordsAt_record k _ s i

theorem reexamineRecords_record (k : SignalId) (b : Bool) (s : State) (i : SlotId) :
    (reexamineRecords k b s).record i =
      (s.record i).map fun r => if r.signal = k then r.replanned b s.clock (s.horizonUnits k) else r := by
  cases b with
  | false => simp [reexamineRecords, RequestRecord.replanned]
  | true => simp [reexamineRecords, RequestRecord.replanned, changeRecordsAt_record]

theorem credited_false (r : RequestRecord) : r.credited false = r := by
  rw [RequestRecord.credited, Bool.or_false]

theorem credited_true (r : RequestRecord) : r.credited true = { r with served := true } := by
  rw [RequestRecord.credited, Bool.or_true]

/-- Service in effect is credited to the holder that has a call in force (R110). -/
theorem creditService_record (k : SignalId) (s : State) (i : SlotId) :
    (creditService k s).record i = (s.record i).map fun r => r.credited (credits k s i) := by
  by_cases h : credits k s i = true
  · have credited := h
    simp only [credits, Bool.and_eq_true, beq_iff_eq, bne_iff_ne] at h
    obtain ⟨⟨holder, call⟩, service⟩ := h
    rw [creditService, holder]
    dsimp only
    rw [if_pos ⟨service, call⟩, State.record_modRecord, if_pos rfl, credited]
    simp only [credited_true]
  · rw [Bool.not_eq_true] at h
    simp only [h, credited_false, Option.map_id']
    unfold creditService
    split
    · rfl
    · next a ha =>
      split
      · next hcredit =>
        refine State.record_modRecord_ne _ _ ?_
        rintro rfl
        simp [credits, ha, hcredit] at h
      · rfl

/-! ## The values that a status frame brings (R101) -/

section
variable (c : SignalContext) (ch : StatusChange) (f : SignalStatus) (p : PlanId) (now : Time) (timeout : Nat)

theorem withStatus_kept :
    (c.withStatus ch f p now timeout).state = c.state ∧ (c.withStatus ch f p now timeout).call = c.call := by
  cases ch <;> exact ⟨rfl, rfl⟩

theorem withStatus_lockout :
    (c.withStatus ch f p now timeout).lockout = if ch = .cycleBoundary then c.lockout - 1 else c.lockout := by
  cases ch <;> rfl

theorem withStatus_spent (h : ch ≠ .neither) : (c.withStatus ch f p now timeout).spent = 0 := by
  cases ch with
  | neither => exact absurd rfl h
  | planSelect => rfl
  | cycleBoundary => rfl

end

theorem serviceOf_ne (b : Byte) : (serviceOf b != .noService) = (b != 0) := by
  by_cases h : b = 0
  · rw [h]
    rfl
  · rw [bne_iff_ne.mpr h, serviceOf, if_neg h]
    split_ifs <;> rfl

/-! ## The records of the signal after a status frame -/

theorem cleared_unserved (r : RequestRecord) (ch : StatusChange) : (r.cleared ch).unserved = r.unserved := by
  cases ch <;> rfl

theorem cleared_place (r : RequestRecord) (ch : StatusChange) :
    (r.cleared ch).state = r.state ∧ (r.cleared ch).horizonEntry = r.horizonEntry := by
  cases ch <;> exact ⟨rfl, rfl⟩

theorem replanned_unserved (r : RequestRecord) (b : Bool) (now : Time) (horizon : Nat) :
    (r.replanned b now horizon).unserved = r.unserved := by
  unfold RequestRecord.replanned
  split
  · exact reexamined_unserved r now horizon
  · rfl

theorem replanned_account (r : RequestRecord) (b : Bool) (now : Time) (horizon : Nat) :
    (r.replanned b now horizon).account = r.account := by
  unfold RequestRecord.replanned
  split
  · exact (reexamined_rest r now horizon).2
  · rfl

theorem PlacedByHorizon.credited {s : State} {r : RequestRecord} (h : PlacedByHorizon s r) (b : Bool) :
    PlacedByHorizon s (r.credited b) := h

/-- What a status frame makes of a record of its signal, before the signal evaluates. -/
def RequestRecord.followed (x : RequestRecord) (k : SignalId) (p : PlanId) (f : SignalStatus) (s : State) (i : SlotId) :
    RequestRecord :=
  ((x.cleared (statusChange (s.ctx k) p f.position)).replanned (decide (p ≠ (s.ctx k).plan)) s.clock
    ((statusHeard k p f s).horizonUnits k)).credited
    ((s.ctx k).holder == some i && (s.ctx k).call.isSome && f.service != 0)

section
variable {k : SignalId} {p : PlanId} {f : SignalStatus} {s : State} {i : SlotId} {x : RequestRecord}

theorem credits_statusHeard {t : State} (h : OnlyRecords (statusHeard k p f s) t) (i : SlotId) :
    credits k t i = ((s.ctx k).holder == some i && (s.ctx k).call.isSome && f.service != 0) := by
  have call := (withStatus_kept (s.ctx k) (statusChange (s.ctx k) p f.position) f p s.clock (statusTimeout s)).2
  rw [credits, h.ctx, statusHeard, State.ctx_setCtx_self, withStatus_holder, call, ← serviceOf_ne]
  rfl

theorem statusTaken_record (k : SignalId) (p : PlanId) (f : SignalStatus) (s : State) (i : SlotId) :
    (statusTaken k p f s).record i = (s.record i).map fun r =>
      if r.signal = k then r.followed k p f s i
      else r.credited ((s.ctx k).holder == some i && (s.ctx k).call.isSome && f.service != 0) := by
  have cleared := onlyRecords_clearCommitted k (statusChange (s.ctx k) p f.position) (statusHeard k p f s)
  have reexamined := cleared.trans (onlyRecords_reexamineRecords k (decide (p ≠ (s.ctx k).plan)) _)
  obtain ⟨hclock, horizon⟩ := cleared.sameHorizons
  rw [statusTaken, creditService_record, credits_statusHeard reexamined, reexamineRecords_record, clearCommitted_record,
    hclock, horizon, Option.map_map, Option.map_map]
  refine congrArg (fun g => (s.record i).map g) (funext fun r => ?_)
  have signal := unserved_signal (cleared_unserved r (statusChange (s.ctx k) p f.position))
  rw [Function.comp_apply, Function.comp_apply]
  by_cases hk : r.signal = k
  · rw [if_pos hk, if_pos hk, if_pos (signal.trans hk)]
    rfl
  · rw [if_neg hk, if_neg hk, if_neg hk]

theorem statusTaken_record_own (hx : s.record i = some x) (hk : x.signal = k) :
    (statusTaken k p f s).record i = some (x.followed k p f s i) := by
  rw [statusTaken_record, hx, Option.map_some, if_pos hk]

/-- The holder of a signal is a record of it, so that no record of another signal is credited. -/
theorem statusTaken_record_other (hs : HoldersOk s) (hx : s.record i = some x) (hk : x.signal ≠ k) :
    (statusTaken k p f s).record i = some x := by
  have unheld : ((s.ctx k).holder == some i) = false :=
    beq_eq_false_iff_ne.mpr fun h => hk (hs.holder_signal h hx)
  rw [statusTaken_record, hx, Option.map_some, if_neg hk, unheld, Bool.false_and, Bool.false_and, credited_false]

theorem followed_unserved :
    (x.followed k p f s i).unserved = { x.unserved with served := x.served ||
      ((s.ctx k).holder == some i && (s.ctx k).call.isSome && f.service != 0) } := by
  have kept : ((x.cleared (statusChange (s.ctx k) p f.position)).replanned (decide (p ≠ (s.ctx k).plan)) s.clock
      ((statusHeard k p f s).horizonUnits k)).unserved = x.unserved := by
    rw [replanned_unserved, cleared_unserved]
  have served := congrArg RequestRecord.served kept
  unfold RequestRecord.followed
  generalize (x.cleared _).replanned _ _ _ = q at *
  rw [← kept, ← show q.served = x.served from served]
  rfl

theorem followed_signal : (x.followed k p f s i).signal = x.signal := by
  have signal := congrArg RequestRecord.signal (followed_unserved (k := k) (p := p) (f := f) (s := s) (i := i) (x := x))
  exact signal

theorem followed_committed (h : statusChange (s.ctx k) p f.position ≠ .neither) :
    (x.followed k p f s i).committed = 0 := by
  have account := replanned_account (x.cleared (statusChange (s.ctx k) p f.position)) (decide (p ≠ (s.ctx k).plan)) s.clock
    ((statusHeard k p f s).horizonUnits k)
  have committed := congrArg (fun a => a.2.2.1) account
  refine Eq.trans committed ?_
  cases hch : statusChange (s.ctx k) p f.position with
  | neither => exact absurd hch h
  | planSelect => rfl
  | cycleBoundary => rfl

/-- At a change of the plan in effect a record of origin CHECK_IN is HOLDING as before or placed by the new horizon. -/
theorem followed_place (hk : x.signal = k) (hplan : p ≠ (s.ctx k).plan) (hx : x.state ≠ .projected) :
    ((x.followed k p f s i).state = .holding ∧ (x.followed k p f s i).horizonEntry = x.horizonEntry ∧
        x.state = .holding) ∨
      PlacedByHorizon (statusHeard k p f s) (x.followed k p f s i) := by
  obtain ⟨state, entry⟩ := cleared_place x (statusChange (s.ctx k) p f.position)
  have signal := (unserved_signal (cleared_unserved x (statusChange (s.ctx k) p f.position))).trans hk
  rw [RequestRecord.followed, RequestRecord.replanned, if_pos (decide_eq_true hplan)]
  generalize x.cleared _ = q at *
  have placed := placedByHorizon_byHorizon (s := statusHeard k p f s) signal
  rw [← state] at hx
  obtain ⟨holding, e⟩ | ⟨-, e⟩ := reexamined_cases hx s.clock ((statusHeard k p f s).horizonUnits k) <;> rw [e]
  · exact .inl ⟨holding, entry, state.symm.trans holding⟩
  · exact .inr (placed.credited _)

end

end Sys2Proof.Machine
end

section
/-! A status frame that one context takes, as one event (R61, R100 to R113). -/

namespace Sys2Proof.Machine

/-! ## The evaluation and the lapse (R101 step 5, R153) -/

theorem lapseAboveLimit_cases (k : SignalId) (ch : StatusChange) (s t : State) :
    lapseAboveLimit k ch s t = t ∨ (callUnchanged k s t = true ∧ lapseAboveLimit k ch s t = lapse k t) := by
  unfold lapseAboveLimit
  split
  · next h => exact .inr ⟨h.2.1, rfl⟩
  · exact .inl rfl

theorem serviced_lapseAboveLimit (k : SignalId) (ch : StatusChange) (s t : State) :
    Serviced k t (lapseAboveLimit k ch s t) := by
  obtain e | ⟨-, e⟩ := lapseAboveLimit_cases k ch s t <;> rw [e]
  · exact serviced_refl k t
  · exact serviced_lapse k t

/-- What is spent after the evaluation and the lapse of an unspent signal is spent for its call in force. -/
theorem Unspent.concluded {k : SignalId} {s : State} (h : Unspent k s) (hs : HoldersOk s) (ch : StatusChange) :
    SpentOnCall k (lapseAboveLimit k ch s (Machine.evaluate k s)) := by
  obtain e | ⟨same, e⟩ := lapseAboveLimit_cases k ch s (Machine.evaluate k s) <;> rw [e]
  · exact h.evaluate
  · rw [lapse_eq]
    refine Unspent.evaluate (((h.congr (sameLedger_of_callUnchanged hs same)).congr ?_).congr (sameLedger_giveUp k _))
    exact (sameLedger_generateCancel k _).trans (sameLedger_markLapsed k _)

/-- A HOLDING record stands by its horizon after the evaluation and the lapse. -/
theorem concluded_places {k : SignalId} {s : State} (hs : HoldersOk s) {i : SlotId} {r : RequestRecord}
    (hr : s.record i = some r) (hk : r.signal = k) (hstate : r.state = .holding) (hentry : r.horizonEntry = none)
    (ch : StatusChange) :
    ∃ y, (lapseAboveLimit k ch s (evaluate k s)).record i = some y ∧ PlacedByHorizon s y := by
  obtain ⟨q, hq, chosen⟩ := evaluate_record (k := k) hs hr
  have placed := chosen.placed (hk ▸ hs.holding hr hstate) hstate hentry
  have horizons := (serviced_evaluate k s).sameHorizons
  obtain ⟨y, hy, placed', -⟩ := (serviced_lapseAboveLimit k ch s (evaluate k s)).record_left
    (holdersOk_evaluate hs k) i q hq
  exact ⟨y, hy, (placed' (placed.congr horizons)).congr horizons.symm⟩

/-! ## The state that the signal evaluates in -/

theorem recompute_sameHorizons (k : SignalId) (s : State) : SameHorizons s (recompute k s) :=
  sameHorizons_of (recompute_keeps k s) fun j => by
    rw [recompute_ctx]
    split <;> rfl

section
variable (k : SignalId) (p : PlanId) (f : SignalStatus) (s : State)

theorem statusTaken_keeps : SameConfig s (statusTaken k p f s) :=
  (setCtx_keeps k _ s).trans (onlyRecords_statusTaken k p f s).keeps

theorem statusTaken_sameHorizons : SameHorizons (statusHeard k p f s) (recompute k (statusTaken k p f s)) := by
  obtain ⟨clock, horizon⟩ := (onlyRecords_statusTaken k p f s).sameHorizons
  obtain ⟨clock', horizon'⟩ := recompute_sameHorizons k (statusTaken k p f s)
  exact ⟨clock'.trans clock, fun j => (horizon' j).trans (horizon j)⟩

theorem statusTaken_record_isSome (i : SlotId) : ((statusTaken k p f s).record i).isSome = (s.record i).isSome := by
  rw [statusTaken_record, Option.isSome_map]

theorem statusTaken_recomputed_ctx :
    ((recompute k (statusTaken k p f s)).ctx k) =
      { (s.ctx k).withStatus (statusChange (s.ctx k) p f.position) f p s.clock (statusTimeout s) with
        state := serviceState k (statusTaken k p f s) } := by
  rw [recompute_ctx_self, statusTaken_ctx_self]

/-- The SIGNAL_STATE report of R113. -/
theorem statusTaken_reports :
    (recompute k (statusTaken k p f s)).reports =
      if reportsStateChange (s.ctx k).state (serviceState k (statusTaken k p f s)) then
        storeReport s.clock (.signalState k (s.ctx k).state (serviceState k (statusTaken k p f s))) s.reports
      else s.reports := by
  have state := (withStatus_kept (s.ctx k) (statusChange (s.ctx k) p f.position) f p s.clock (statusTimeout s)).1
  have reports : (statusTaken k p f s).reports = s.reports := (onlyRecords_statusTaken k p f s).reports
  rw [recompute_eq, State.setReports_reports, statusTaken_ctx_self, state, (statusTaken_keeps k p f s).clock, reports]

variable {k p f s}

theorem sameBeyond_statusTaken (hs : HoldersOk s) : SameBeyond k s (recompute k (statusTaken k p f s)) := by
  refine ⟨fun j hj => by rw [recompute_ctx_ne _ hj, statusTaken_ctx_ne hj], fun i r hr => ?_⟩
  rw [recompute_record]
  refine ⟨fun h => ?_, fun h => statusTaken_record_other hs h hr⟩
  have occupied := statusTaken_record_isSome k p f s i
  rw [h] at occupied
  obtain ⟨x, hx⟩ := Option.isSome_iff_exists.mp occupied.symm
  by_cases hk : x.signal = k
  · rw [statusTaken_record_own hx hk] at h
    rw [← Option.some.inj h, followed_signal] at hr
    exact absurd hk hr
  · rw [statusTaken_record_other hs hx hk] at h
    rw [hx, h]

theorem unspent_statusTaken (hs : HoldersOk s) (h : statusChange (s.ctx k) p f.position ≠ .neither) :
    Unspent k (recompute k (statusTaken k p f s)) := by
  refine ⟨?_, fun i r hr hk => ?_⟩
  · rw [statusTaken_recomputed_ctx]
    exact withStatus_spent (s.ctx k) _ f p s.clock (statusTimeout s) h
  · rw [recompute_record] at hr
    have occupied := statusTaken_record_isSome k p f s i
    rw [hr] at occupied
    obtain ⟨x, hx⟩ := Option.isSome_iff_exists.mp occupied.symm
    by_cases hxk : x.signal = k
    · rw [statusTaken_record_own hx hxk] at hr
      rw [← Option.some.inj hr]
      exact followed_committed h
    · rw [statusTaken_record_other hs hx hxk] at hr
      rw [Option.some.inj hr] at hxk
      exact absurd hk hxk

/-! ## The frame as it is taken -/

theorem holdersOk_statusTaken (hs : HoldersOk s) : HoldersOk (recompute k (statusTaken k p f s)) :=
  holdersOk_recompute ((holdsAt_statusTaken k p f s).2 hs) k

variable (k p f s)

theorem serviced_takeStatus : Serviced k (recompute k (statusTaken k p f s)) (takeStatus k p f s) := by
  rw [takeStatus_eq]
  exact (serviced_evaluate k _).trans (serviced_lapseAboveLimit k _ _ _)

theorem takeStatus_ctx :
    ((takeStatus k p f s).ctx k).unserved =
      ({ (s.ctx k).withStatus (statusChange (s.ctx k) p f.position) f p s.clock (statusTimeout s) with
        state := serviceState k (takeStatus k p f s) } : SignalContext).unserved := by
  have serviced := serviced_takeStatus k p f s
  rw [serviced.ctxOwn, statusTaken_recomputed_ctx, serviced.serviceState, serviceState_recompute]

/-- The values of the context from the frame (R101 steps 1, 3, 4 and 5). -/
theorem takeStatus_values :
    ((takeStatus k p f s).ctx k).freshness = .fresh (later s.clock (statusTimeout s)) ∧
      ((takeStatus k p f s).ctx k).plan = p ∧ ((takeStatus k p f s).ctx k).taken = some (f.position, s.clock) ∧
      ((takeStatus k p f s).ctx k).accepting = f.flags.getLsbD 0 ∧
      ((takeStatus k p f s).ctx k).service = serviceOf f.service := by
  have own := takeStatus_ctx k p f s
  have freshness := congrArg SignalContext.freshness own
  have plan := congrArg SignalContext.plan own
  have taken := congrArg SignalContext.taken own
  have accepting := congrArg SignalContext.accepting own
  have service := congrArg SignalContext.service own
  exact ⟨freshness, plan, taken, accepting, service⟩

/-- A cycle boundary lowers the lockout count (R109). -/
theorem takeStatus_lockout :
    ((takeStatus k p f s).ctx k).lockout =
      if statusChange (s.ctx k) p f.position = .cycleBoundary then (s.ctx k).lockout - 1 else (s.ctx k).lockout := by
  have lockout := congrArg SignalContext.lockout (takeStatus_ctx k p f s)
  exact Eq.trans lockout (withStatus_lockout (s.ctx k) _ f p s.clock (statusTimeout s))

theorem takeStatus_state : ((takeStatus k p f s).ctx k).state = serviceState k (takeStatus k p f s) := by
  have state := congrArg SignalContext.state (takeStatus_ctx k p f s)
  exact state

theorem takeStatus_reports :
    (takeStatus k p f s).reports =
      if reportsStateChange (s.ctx k).state ((takeStatus k p f s).ctx k).state then
        storeReport s.clock (.signalState k (s.ctx k).state ((takeStatus k p f s).ctx k).state) s.reports
      else s.reports := by
  have serviced := serviced_takeStatus k p f s
  rw [serviced.reports, statusTaken_reports, takeStatus_state, serviced.serviceState, serviceState_recompute]

variable {k p f s}

/-- What a status frame leaves of a record of its signal. -/
theorem takeStatus_record (hs : HoldersOk s) {i : SlotId} {x : RequestRecord} (hx : s.record i = some x)
    (hk : x.signal = k) :
    ∃ y, (takeStatus k p f s).record i = some y ∧
      y.unserved = { x.unserved with served := x.served ||
        ((s.ctx k).holder == some i && (s.ctx k).call.isSome && f.service != 0) } ∧
      (RecordTimersOk s → p ≠ (s.ctx k).plan → x.state ≠ .projected → PlacedByHorizon (takeStatus k p f s) y) := by
  have holders := holdersOk_statusTaken (k := k) (p := p) (f := f) hs
  have record : (recompute k (statusTaken k p f s)).record i = some (x.followed k p f s i) := by
    rw [recompute_record, statusTaken_record_own hx hk]
  have serviced := serviced_takeStatus k p f s
  obtain ⟨y, hy, placed, -⟩ := serviced.record_left holders i _ record
  have unserved := serviced.record i
  rw [hy, record, Option.map_some, Option.map_some] at unserved
  refine ⟨y, hy, (Option.some.inj unserved).trans followed_unserved, fun timers hplan hstate => ?_⟩
  refine PlacedByHorizon.congr ?_ serviced.sameHorizons
  obtain ⟨holding, entry, hx'⟩ | stands := followed_place (f := f) (i := i) hk hplan hstate
  · have unarmed : x.horizonEntry = none := by
      obtain ⟨armed, -⟩ := (recordTimersOk_iff s).mp timers i x hx
      rw [RequestRecord.ArmedOk, hx'] at armed
      exact Option.not_isSome_iff_eq_none.mp fun present => nomatch armed.mp present
    obtain ⟨z, hz, placed⟩ := concluded_places holders record (followed_signal.trans hk) holding (entry.trans unarmed)
      (statusChange (s.ctx k) p f.position)
    rw [← takeStatus_eq, hy] at hz
    rw [Option.some.inj hz]
    exact placed
  · exact placed (stands.congr (statusTaken_sameHorizons k p f s))

end

/-! ## The context that takes the frame (R11, R100) -/

theorem handStatus_single {p : PortId} {src : Byte} {f : SignalStatus} {k : SignalId} {s : State}
    (h : ∀ j, statusMatches p src (s.signalEntry j) = true ↔ j = k) : handStatus p src f s = offerStatus k f s := by
  have one : (allSignals.filter fun j => statusMatches p src (s.signalEntry j)) = [k] := by
    have matching : (fun j => statusMatches p src (s.signalEntry j)) = fun j => j == k :=
      funext fun j => by rw [Bool.eq_iff_iff, h, beq_iff_eq]
    rw [matching, List.filter_beq, allSignals, List.count_eq_one_of_mem (List.nodup_finRange 16) (List.mem_finRange k)]
    rfl
  rw [handStatus, one]
  rfl

theorem offerStatus_accepted {k : SignalId} {f : SignalStatus} {p : PlanId} {s : State} (hp : planOf f.planSelect = some p)
    (h : flagSet (s.tables.planEntry k p).inUse = false ∨ f.position.toNat < (s.tables.planEntry k p).cycle.toNat) :
    offerStatus k f s = takeStatus k p f s := by
  have accepted : statusAccepted k f s = some p := by
    rw [statusAccepted, hp]
    refine if_pos ?_
    rw [Bool.or_eq_true, Bool.not_eq_true', decide_eq_true_eq]
    exact h
  rw [offerStatus, accepted]

theorem reportsStateChange_iff (old new : ServiceState) :
    reportsStateChange old new = true ↔
      new ≠ old ∧ (old = .noStatus ∨ old = .inhibited ∨ new = .noStatus ∨ new = .inhibited) := by
  simp only [reportsStateChange, Bool.and_eq_true, Bool.or_eq_true, bne_iff_ne, beq_iff_eq, or_assoc, ne_comm]

/-- Settles O35. -/
theorem statusFrameIsTaken : Obligations.StatusFrameIsTaken := by
  intro p src f k plan s boundary changed hands hs hentry hplan hrange hchanged hboundary
  have matching (j : SignalId) : statusMatches p src (s.signalEntry j) = true ↔ j = k := by
    rw [← hentry j]
    simp only [statusMatches, Bool.and_eq_true, beq_iff_eq, and_assoc]
  have select := statusChange_planSelect_iff (s.ctx k) plan f.position
  have crossing := statusChange_cycleBoundary_iff (s.ctx k) plan f.position
  rw [← hchanged] at select
  rw [← hboundary] at crossing
  have hexec : exec (.signalStatus p src f) s = .next (finish (takeStatus k plan f s)) := by
    rw [exec_signalStatus hands, handStatus_single matching, offerStatus_accepted hplan hrange]
  have holders := holdersOk_statusTaken (k := k) (p := plan) (f := f) hs
  have serviced := serviced_takeStatus k plan f s
  have works := works_takeStatus k plan f s
  obtain ⟨freshness, hplan', taken, accepting, service⟩ := takeStatus_values k plan f s
  refine ⟨takeStatus k plan f s, hexec, freshness, hplan', taken, accepting, service, ?_, takeStatus_state k plan f s, ?_,
    fun i hi => ?_, fun i x hx hk => takeStatus_record hs hx hk, fun hchange => ?_, works.toSameConfig,
    (sameBeyond_statusTaken hs).trans (serviced.sameBeyond holders), fun q => SameReceiver.of_eq (by rw [works.port q])⟩
  · exact (takeStatus_lockout k plan f s).trans (if_congr crossing rfl rfl)
  · rw [takeStatus_reports]
    exact if_congr (reportsStateChange_iff _ _) rfl rfl
  · have free := serviced.record_isSome i
    rw [recompute_record, statusTaken_record_isSome, hi] at free
    exact Option.isNone_iff_eq_none.mp (Option.isSome_eq_false_iff.mp free)
  · have change : statusChange (s.ctx k) plan f.position ≠ .neither := by
      obtain h | h := hchange
      · rw [select.mpr h]
        nofun
      · rw [crossing.mpr h]
        nofun
    rw [takeStatus_eq]
    exact (unspent_statusTaken hs change).concluded holders _

end Sys2Proof.Machine
end

section
/-! The arrival time and the score of a record, as chapter 5 gives them (R82 to R94). -/

namespace Sys2Proof.Machine

/-! ## The arrival time (R82 to R87) -/

/-- The rounded-up quotient is the least factor that reaches the dividend (Conventions). -/
theorem ceilDiv_le_iff {a v n : Nat} (hv : 0 < v) : ceilDiv a v ≤ n ↔ a ≤ v * n :=
  ceilDiv_le_iff_le_mul hv

theorem ceilDiv_eq_of_least {a v T : Nat} (hv : 0 < v) (reaches : a ≤ v * T) (least : ∀ n, a ≤ v * n → T ≤ n) :
    ceilDiv a v = T :=
  Nat.le_antisymm ((ceilDiv_le_iff hv).mpr reaches) (least _ ((ceilDiv_le_iff hv).mp le_rfl))

theorem distance_le (e : SignalEntry) (d : Direction) (x : Half) : distance e d x ≤ 65535 := by
  cases d <;> simp only [distance] <;> omega

theorem effectiveSpeed_eq (g : GlobalEntry) (r : RequestRecord) :
    effectiveSpeed g r =
      if r.doorsOpen = false ∧ g.speedFloor.toNat ≤ r.speed then r.speed else r.nominalSpeed := by
  unfold effectiveSpeed
  cases r.doorsOpen <;> simp

theorem travelSum_of_reached {g : GlobalEntry} {e : SignalEntry} {r : RequestRecord}
    (h : distance e r.direction r.position ≤ 0) : travelSum g e r = 0 :=
  if_pos h

theorem travelSum_of_ahead {g : GlobalEntry} {e : SignalEntry} {r : RequestRecord} {n : Nat}
    (hn : 0 < n) (h : distance e r.direction r.position = n) :
    travelSum g e r =
      min 36000 (ceilDiv (100 * n) (effectiveSpeed g r) + if r.stopPending then r.stopDwell else 0) := by
  unfold travelSum
  rw [h, if_neg (by omega), Int.toNat_natCast]
  rfl

/-- Settles O36. -/
theorem arrivalTimeRoundsUp : Obligations.ArrivalTimeRoundsUp := by
  intro s r d v T hd hv
  have away : distance (s.signalEntry r.signal) r.direction r.position = d := by
    rw [hd]
    cases r.direction <;> rfl
  have speed : effectiveSpeed s.tables.global r = v := by rw [hv, effectiveSpeed_eq]
  refine ⟨fun reached => ?_, fun ahead moving reaches least => ?_⟩
  · rw [arrivalTime, travelSum_of_reached (away.trans_le reached), later, BitVec.add_zero]
  · lift d to Nat using by omega with n
    have near : n ≤ 65535 := by exact_mod_cast away ▸ distance_le _ _ _
    have travel : ceilDiv (100 * n) v = T :=
      ceilDiv_eq_of_least moving (by exact_mod_cast reaches) fun m hm => least m (by exact_mod_cast hm)
    refine ⟨?_, ?_, fun fast => ?_⟩
    · rw [arrivalTime, travelSum_of_ahead (by omega) away, speed, travel, later]
    · refine Nat.pos_of_ne_zero fun zero => ?_
      rw [zero] at reaches
      omega
    · rw [← travel, ceilDiv_le_iff moving]
      calc 100 * n ≤ 10 * 655350 := by omega
        _ ≤ v * 655350 := Nat.mul_le_mul_right _ fast

/-! ## The score (R91 to R94) -/

theorem tooEarly_iff (e : RouteEntry) (lateness : Option Int) :
    tooEarly e lateness = true ↔ ∃ l : Int, lateness = some l ∧ l < -(e.earlyCutoff.toNat : Int) := by
  cases lateness <;> simp [tooEarly]

theorem baseScore_of_early {e : RouteEntry} {lateness : Option Int} (h : tooEarly e lateness = true) (g : GlobalEntry)
    (level : Fin 4) : baseScore g e lateness level = 0 :=
  if_pos h

theorem baseScore_of_not_early {e : RouteEntry} {lateness : Option Int} (h : ¬ tooEarly e lateness = true)
    (g : GlobalEntry) (level : Fin 4) :
    baseScore g e lateness level = e.baseScore.toNat + latenessPoints e lateness + g.points level :=
  if_neg h

/-- The lateness points with the excess held to 0 as an integer, as R91 writes it. -/
theorem latenessPoints_some (e : RouteEntry) (l : Int) :
    latenessPoints e (some l) =
      min 127 (((max 0 (l - e.latenessOffset.toInt)) * e.latenessGain.toNat).toNat / 16) := by
  rw [max_comm, ← Int.ofNat_toNat, ← Int.natCast_mul, Int.toNat_natCast]
  rfl

theorem recordScore_of_projected {s : State} {r : RequestRecord} (h : r.state = .projected) :
    recordScore s r = baseScore s.tables.global s.tables.route[r.routeIndex] r.latenessSec r.occupancy -
      (s.signalEntry r.signal).projectionPenalty.toNat :=
  if_pos h

theorem recordScore_of_not_projected {s : State} {r : RequestRecord} (h : r.state ≠ .projected) :
    recordScore s r = baseScore s.tables.global s.tables.route[r.routeIndex] r.latenessSec r.occupancy :=
  if_neg h

/-- The projection penalty only lowers a score (R94). -/
theorem recordScore_le_baseScore (s : State) (r : RequestRecord) :
    recordScore s r ≤ baseScore s.tables.global s.tables.route[r.routeIndex] r.latenessSec r.occupancy := by
  by_cases h : r.state = .projected
  · rw [recordScore_of_projected h]
    exact Nat.sub_le _ _
  · rw [recordScore_of_not_projected h]

theorem baseScore_le_sum (g : GlobalEntry) (e : RouteEntry) (lateness : Option Int) (level : Fin 4) :
    baseScore g e lateness level ≤ e.baseScore.toNat + latenessPoints e lateness + g.points level := by
  by_cases h : tooEarly e lateness = true
  · rw [baseScore_of_early h]
    exact Nat.zero_le _
  · rw [baseScore_of_not_early h]

/-- Settles O37. -/
theorem scoreFollowsRules : Obligations.ScoreFollowsRules := by
  rintro s r e points base rfl unknown known hbase
  have late : latenessPoints s.tables.route[r.routeIndex] r.latenessSec = points := by
    cases h : r.latenessSec with
    | none => exact (unknown h).symm
    | some l => rw [latenessPoints_some, known l h]
  have capped : points ≤ 127 := late ▸ latenessPoints_le _ _
  refine ⟨fun early => ?_, fun timely => ?_, capped, fun hroute hlevel => ?_⟩
  · have zero := baseScore_of_early ((tooEarly_iff _ _).mpr early) s.tables.global r.occupancy
    exact Nat.le_zero.mp (zero ▸ recordScore_le_baseScore s r)
  · have notEarly : ¬ tooEarly s.tables.route[r.routeIndex] r.latenessSec = true := by
      rw [tooEarly_iff]
      rintro ⟨l, hl, below⟩
      exact absurd (timely l hl) (not_le.mpr below)
    have full : baseScore s.tables.global s.tables.route[r.routeIndex] r.latenessSec r.occupancy = base := by
      rw [baseScore_of_not_early notEarly, late, hbase]
    exact ⟨fun h => (recordScore_of_not_projected h).trans full, fun h => by rw [recordScore_of_projected h, full]⟩
  · calc recordScore s r ≤ _ := recordScore_le_baseScore s r
      _ ≤ _ := baseScore_le_sum _ _ _ _
      _ ≤ 253 := by omega

end Sys2Proof.Machine
end

section
/-! What a TABLE OPEN makes of the signals it covers and what it leaves of the others (R116, R159 to R163). -/

namespace Sys2Proof.Machine

/-! ## Masks of signals (R184) -/

/-- The sum that a mask is written as holds one bit for each signal. -/
theorem maskSum_testBit (n : Nat) (f : Fin n → Bool) :
    (List.finRange n).foldl (fun a k => if f k then a + 2 ^ k.val else a) 0 < 2 ^ n ∧
      ∀ k : Fin n, ((List.finRange n).foldl (fun a k => if f k then a + 2 ^ k.val else a) 0).testBit k.val = f k := by
  induction n with
  | zero => exact ⟨Nat.one_pos, fun k => k.elim0⟩
  | succ n ih =>
    obtain ⟨small, bits⟩ := ih fun k => f k.castSucc
    rw [List.finRange_succ_last, List.foldl_append, List.foldl_map]
    simp only [Fin.val_castSucc, List.foldl_cons, List.foldl_nil, Fin.val_last]
    generalize (List.finRange n).foldl (fun a k => if f k.castSucc then a + 2 ^ k.val else a) 0 = m at small bits ⊢
    refine ⟨by split <;> omega, fun k => ?_⟩
    cases k using Fin.lastCases with
    | last =>
      have low := Nat.testBit_lt_two_pow small
      cases hf : f (Fin.last n) <;> simp [low, Nat.add_comm m, Nat.testBit_two_pow_add_eq]
    | cast k =>
      have same : (if f (Fin.last n) then m + 2 ^ n else m).testBit k.val = m.testBit k.val := by
        split
        · rw [Nat.add_comm, Nat.testBit_two_pow_add_gt k.isLt]
        · rfl
      exact same.trans (bits k)

/-- Bit k of a mask stands for signal k. -/
theorem signalMask_getLsbD (f : SignalId → Bool) (k : SignalId) : (signalMask f).getLsbD k.val = f k := by
  rw [signalMask, BitVec.getLsbD_ofNat, decide_eq_true k.isLt, Bool.true_and]
  exact (maskSum_testBit 16 f).2 k

/-! ## Closures at covered signals (R163) -/

/-- What is left of a context when it is suspended, beside its service state (R116). -/
def SignalContext.lasting (c : SignalContext) : SignalContext := { c.suspendedValues with state := .unconfigured }

theorem suspendedValues_eq (c : SignalContext) : c.suspendedValues = { c.lasting with state := c.state } := rfl

theorem lasting_of_unserved {c d : SignalContext} {n : Nat} (h : d.unserved = { c.unserved with lockout := n }) :
    d.lasting = c.lasting :=
  (congrArg SignalContext.lasting h :)

/-- A closure leaves what a suspended context keeps. -/
theorem closeRecord_lasting (i : SlotId) (reason : ClosureReason) (s : State) (k : SignalId) :
    ((closeRecord i reason s).ctx k).lasting = (s.ctx k).lasting := by
  cases h : s.record i with
  | none => rw [closeRecord_free i reason s h]
  | some r =>
    by_cases hk : k = r.signal
    · subst hk
      rw [closeRecord_eq h, recompute_ctx, if_pos rfl]
      exact (lasting_of_unserved (struckOut_ctx i r reason s) :)
    · rw [closeRecord_ctx_ne i reason s r k h hk]

/-- A service state that is as R111 gives stays so through a closure. -/
theorem closeRecord_state {i : SlotId} {reason : ClosureReason} {s : State} {k : SignalId}
    (h : (s.ctx k).state = serviceState k s) :
    ((closeRecord i reason s).ctx k).state = serviceState k (closeRecord i reason s) := by
  cases hr : s.record i with
  | none => rwa [closeRecord_free i reason s hr]
  | some r =>
    by_cases hk : k = r.signal
    · subst hk
      rw [closeRecord_eq hr, recompute_ctx, if_pos rfl, serviceState_recompute]
    · have same := closeRecord_ctx_ne i reason s r k hr hk
      rw [same, h, serviceState_congr (closeRecord_keeps i reason s) (by rw [same])]

/-- The service state of a covered signal rests on the configuration alone (R111). -/
theorem serviceState_covered_congr {s t : State} {k : SignalId} (h : SameConfig s t) (hk : s.covered k = true) :
    serviceState k t = serviceState k s := by
  have covered : t.covered k = true := by rwa [State.covered, h.load]
  simp only [serviceState, covered, hk, State.signalEntry, h.tables, h.validity, if_true]

theorem closeAll_lasting (l : List SlotId) (reason : ClosureReason) (s : State) (k : SignalId) :
    ((closeAll l reason s).ctx k).lasting = (s.ctx k).lasting := by
  induction l generalizing s with
  | nil => rfl
  | cons i l ih => exact (ih (closeRecord i reason s)).trans (closeRecord_lasting i reason s k)

theorem closeAll_state {l : List SlotId} {reason : ClosureReason} {s : State} {k : SignalId}
    (h : (s.ctx k).state = serviceState k s) :
    ((closeAll l reason s).ctx k).state = serviceState k (closeAll l reason s) := by
  induction l generalizing s with
  | nil => exact h
  | cons i l ih => exact ih (closeRecord_state h)

/-- Closures leave the contexts of the signals whose records stay. -/
theorem closeAll_ctx_ne {l : List SlotId} {reason : ClosureReason} {s : State} {k : SignalId}
    (h : ∀ i ∈ l, ∀ r, s.record i = some r → r.signal ≠ k) : (closeAll l reason s).ctx k = s.ctx k := by
  induction l generalizing s with
  | nil => rfl
  | cons i l ih =>
    have first : (closeRecord i reason s).ctx k = s.ctx k := by
      cases hr : s.record i with
      | none => rw [closeRecord_free i reason s hr]
      | some r => exact closeRecord_ctx_ne i reason s r k hr (h i List.mem_cons_self r hr).symm
    refine (ih (s := closeRecord i reason s) fun j hj r hr => ?_).trans first
    by_cases e : j = i
    · rw [e, closeRecord_slot] at hr
      cases hr
    · rw [closeRecord_other i j reason s e] at hr
      exact h j (List.mem_cons_of_mem i hj) r hr

/-! ## Suspension (R116, R163) -/

/-- A signal that takes no service and has no holder is left as it is by the evaluations of such signals. -/
theorem evaluateAll_unserved {l : List SignalId} {s : State}
    (h : ∀ k ∈ l, (s.ctx k).state.unserved ∧ (s.ctx k).holder = none) : evaluateAll l s = s := by
  induction l with
  | nil => rfl
  | cons k l ih =>
    obtain ⟨state, holder⟩ := h k List.mem_cons_self
    rw [evaluateAll, List.foldl_cons, evaluate_unserved state holder]
    exact ih fun j hj => h j (List.mem_cons_of_mem k hj)

/-- The state after the recomputations and the closures of a suspension (R163 steps 1 and 2). -/
def scopeClosed (s : State) : State :=
  closeAll (coveredSlots (recomputeAll s.scope s)) .suspended (recomputeAll s.scope s)

theorem scopeClosed_keeps (s : State) : SameConfig s (scopeClosed s) :=
  (works_recomputeAll s.scope s).toSameConfig.trans (closeAll_keeps _ _ _)

theorem recomputeAll_covered (l : List SignalId) (s : State) (k : SignalId) :
    (recomputeAll l s).covered k = s.covered k := by
  simp only [State.covered, (works_recomputeAll l s).load]

/-- The records at covered signals are gone, and the others stand. -/
theorem scopeClosed_record (s : State) (i : SlotId) :
    (scopeClosed s).record i = (s.record i).filter fun r => !s.covered r.signal := by
  have mem : i ∈ coveredSlots (recomputeAll s.scope s) ↔ ∃ r, s.record i = some r ∧ s.covered r.signal = true := by
    rw [coveredSlots, mem_slots_filter, recomputeAll_record]
    simp only [recomputeAll_covered]
  rw [scopeClosed, closeAll_record, recomputeAll_record]
  cases hr : s.record i with
  | none => split <;> rfl
  | some r =>
    simp only [hr, Option.some.injEq, exists_eq_left'] at mem
    cases hc : s.covered r.signal <;> simp [mem, hc, Option.filter]

theorem scopeClosed_ctx_uncovered {s : State} {k : SignalId} (hk : s.covered k = false) :
    (scopeClosed s).ctx k = s.ctx k := by
  have outside : k ∉ s.scope := fun h => by simp [mem_scope.mp h] at hk
  rw [scopeClosed, closeAll_ctx_ne, recomputeAll_ctx, if_neg outside]
  rintro i hi r hr rfl
  obtain ⟨q, hq, covered⟩ := mem_slots_filter.mp hi
  obtain rfl : r = q := Option.some.inj (hr.symm.trans hq)
  rw [recomputeAll_covered, hk] at covered
  cases covered

theorem scopeClosed_ctx_covered {s : State} {k : SignalId} (hk : s.covered k = true) :
    ((scopeClosed s).ctx k).suspendedValues = { (s.ctx k).suspendedValues with state := serviceState k s } := by
  have recomputed := recomputeAll_ctx s.scope k s
  rw [if_pos (mem_scope.mpr hk)] at recomputed
  have state : ((scopeClosed s).ctx k).state = serviceState k s := by
    refine (closeAll_state ?_).trans (serviceState_covered_congr (scopeClosed_keeps s) hk)
    rw [recomputed, serviceState_recomputeAll]
  rw [suspendedValues_eq, state, scopeClosed, closeAll_lasting, recomputed]
  rfl

/-- The evaluations of a suspension find no holder and no service, and change nothing. -/
theorem suspendScope_eq (s : State) :
    suspendScope s = s.scope.foldl (fun t k => t.setCtx k (t.ctx k).suspendedValues) (scopeClosed s) := by
  refine evaluateAll_unserved fun k hk => ?_
  have covered := mem_scope.mp hk
  rw [foldl_suspendedValues_ctx, if_pos hk]
  change ((scopeClosed s).ctx k).suspendedValues.state.unserved ∧ ((scopeClosed s).ctx k).suspendedValues.holder = none
  rw [scopeClosed_ctx_covered covered]
  exact ⟨serviceState_covered covered, rfl⟩

theorem suspendScope_ctx (s : State) (k : SignalId) :
    (suspendScope s).ctx k =
      if s.covered k then { (s.ctx k).suspendedValues with state := serviceState k s } else s.ctx k := by
  rw [suspendScope_eq, foldl_suspendedValues_ctx]
  cases hk : s.covered k with
  | true => rw [if_pos (mem_scope.mpr hk), scopeClosed_ctx_covered hk, if_pos rfl]
  | false =>
    rw [if_neg fun h => Bool.false_ne_true (hk.symm.trans (mem_scope.mp h)), scopeClosed_ctx_uncovered hk,
      if_neg Bool.false_ne_true]

theorem suspendScope_record (s : State) (i : SlotId) :
    (suspendScope s).record i = (s.record i).filter fun r => !s.covered r.signal := by
  rw [suspendScope_eq, foldl_setCtx_record, scopeClosed_record]

/-! ## TABLE OPEN (R159, R160, R161) -/

/-- The load context and the validity that a TABLE OPEN brings. -/
def loadOpened (id : TableId) (start expected : Nat) (p : PortId) (s : State) : State :=
  { s with
    load := some (openContext id start expected p)
    validity := s.validity.set id (openedValidity (s.validity.get id)) }

theorem openLoad_eq (id : TableId) (start expected : Nat) (p : PortId) (s : State) :
    openLoad id start expected p s = updateMode (suspendScope (loadOpened id start expected p s)) := rfl

/-- Beside the mode, the configuration is what the load context and the validity make it. -/
theorem suspended_keeps (id : TableId) (start expected : Nat) (p : PortId) (s : State) :
    SameConfig (loadOpened id start expected p s) (suspendScope (loadOpened id start expected p s)) :=
  (works_suspendScope _).toSameConfig

theorem openLoad_mode (id : TableId) (start expected : Nat) (p : PortId) (s : State) :
    (openLoad id start expected p s).mode = corridorMode (openLoad id start expected p s) := rfl

theorem openLoad_load (id : TableId) (start expected : Nat) (p : PortId) (s : State) :
    (openLoad id start expected p s).load = some (openContext id start expected p) :=
  (suspended_keeps id start expected p s).load

theorem openLoad_covered (id : TableId) (start expected : Nat) (p : PortId) (s : State) (k : SignalId) :
    (openLoad id start expected p s).covered k = (openContext id start expected p).covers k := by
  rw [State.covered, openLoad_load]

theorem openLoad_ctx (id : TableId) (start expected : Nat) (p : PortId) (s : State) (k : SignalId) :
    (openLoad id start expected p s).ctx k =
      if (openContext id start expected p).covers k then
        { (s.ctx k).suspendedValues with state := serviceState k (loadOpened id start expected p s) }
      else s.ctx k :=
  suspendScope_ctx (loadOpened id start expected p s) k

theorem openLoad_record (id : TableId) (start expected : Nat) (p : PortId) (s : State) (i : SlotId) :
    (openLoad id start expected p s).record i =
      (s.record i).filter fun r => !(openContext id start expected p).covers r.signal :=
  suspendScope_record (loadOpened id start expected p s) i

@[simp] theorem Validities.set_get (v : Validities) (id : TableId) : v.set id (v.get id) = v := by
  cases id <;> rfl

/-- A VALID table becomes RELOADING when it is opened, and no other validity changes (R159). -/
theorem opened_validity (v : Validities) (id : TableId) :
    v.set id (openedValidity (v.get id)) = if v.get id = .valid then v.set id .reloading else v := by
  cases h : v.get id with
  | valid => rfl
  | invalid => exact (congrArg (v.set id) h.symm).trans (Validities.set_get v id)
  | reloading => exact (congrArg (v.set id) h.symm).trans (Validities.set_get v id)

theorem tableOf_some {b : Byte} {id : TableId} (h : tableOf b = some id) : id.code = b := by
  unfold tableOf at h
  split_ifs at h with h0 h1 h2 h3 h4 h5 <;> obtain rfl := Option.some.inj h
  · exact h0.symm
  · exact h1.symm
  · exact h2.symm
  · exact h3.symm
  · exact h4.symm
  · exact h5.symm

theorem tableOf_none {b : Byte} (h : 5 < b.toNat) : tableOf b = none := by
  refine Option.eq_none_iff_forall_ne_some.mpr fun id hid => ?_
  rw [← tableOf_some hid] at h
  exact absurd h (by cases id <;> decide)

/-- The range end that R160 gives, from the bytes of the request. -/
theorem openContext_rangeEnd (id : TableId) (start : Nat) (c : Byte) (p : PortId) :
    (openContext id start c.toNat p).rangeEnd = if c = 0 then id.entries - 1 else start + c.toNat - 1 := by
  have zero : c.toNat = 0 ↔ c = 0 := BitVec.toNat_eq (x := c) (y := 0) |>.symm
  simp only [openContext, rangeEndOf, zero]

section
variable (p : PortId) (a b c : Byte) {s : State}

theorem actTableOpen_open (h : s.load.isSome = true) :
    actTableOpen p [a, b, c] s = (s, refuseWith 0x65 .alreadyOpen) := by
  rw [actTableOpen, needLength_right 0x65 3 [a, b, c] _ _ rfl]
  exact if_pos h

theorem actTableOpen_refused (h : s.load = none)
    (hbad : 5 < a.toNat ∨ ∃ id, tableOf a = some id ∧ (id.entries ≤ b.toNat ∨ id.entries < b.toNat + c.toNat)) :
    actTableOpen p [a, b, c] s = (s, refuseWith 0x65 .badValue) := by
  rw [actTableOpen, needLength_right 0x65 3 [a, b, c] _ _ rfl]
  simp only [h, Option.isSome_none, Bool.false_eq_true, if_false, byteAt, List.getD_cons_zero, List.getD_cons_succ]
  obtain unknown | ⟨id, hid, outside⟩ := hbad
  · rw [tableOf_none unknown]
  · rw [hid]
    exact if_pos outside

theorem actTableOpen_accepted (h : s.load = none) {id : TableId} (hid : tableOf a = some id)
    (hb : b.toNat < id.entries) (hc : b.toNat + c.toNat ≤ id.entries) :
    actTableOpen p [a, b, c] s = (openLoad id b.toNat c.toNat p s, acceptWith 0x65
      ([a, b, byteOf (openContext id b.toNat c.toNat p).rangeEnd] ++
        halfBytes (signalMask (openContext id b.toNat c.toNat p).covers) ++ [flagByte id.corridorWide])) := by
  rw [actTableOpen, needLength_right 0x65 3 [a, b, c] _ _ rfl]
  simp only [h, Option.isSome_none, Bool.false_eq_true, if_false, byteAt, List.getD_cons_zero, List.getD_cons_succ, hid]
  rw [if_neg (by omega), tableOf_some hid, byteOf, BitVec.ofNat_toNat, BitVec.setWidth_eq]

end

theorem corridorWide_byte (id : TableId) :
    flagByte id.corridorWide = if id = .signal ∨ id = .plan then 0 else 1 := by
  cases id <;> rfl

/-- Settles O20: the suspension ends what the covered signals hold and leaves everything of the others. -/
theorem tableOpenSuspendsScope : Obligations.TableOpenSuspendsScope := by
  refine ⟨fun p src a b c s h hopen => ?_, fun p src a b c s h hload hbad => ?_,
    fun p src a b c s id l h hload hid hb hc hl => ?_⟩
  · exact exec_answered (r := ⟨p, src, 0x65, [a, b, c]⟩) rfl h (actTableOpen_open p a b c hopen)
  · exact exec_answered (r := ⟨p, src, 0x65, [a, b, c]⟩) rfl h (actTableOpen_refused p a b c hload hbad)
  · obtain rfl : l = openContext id b.toNat c.toNat p := by
      rw [hl, ← openContext_rangeEnd id b.toNat c p]
      rfl
    have keeps := suspended_keeps id b.toNat c.toNat p s
    refine ⟨openLoad id b.toNat c.toNat p s, signalMask (openContext id b.toNat c.toNat p).covers,
      flagByte id.corridorWide,
      exec_answered (r := ⟨p, src, 0x65, [a, b, c]⟩) rfl h (actTableOpen_accepted p a b c hload hid hb hc),
      signalMask_getLsbD _, corridorWide_byte id, openLoad_load id _ _ p s, openLoad_mode id _ _ p s,
      keeps.validity.trans (opened_validity _ id), keeps.tables, keeps.disabled, keeps.observe, keeps.clock,
      keeps.parity, keeps.ownAddress, fun i r hr => ?_, fun i hi => ?_, fun k hk => ?_, fun k hk => ?_⟩
    · rw [openLoad_record, hr]
      cases hcovers : (openContext id b.toNat c.toNat p).covers r.signal <;> simp [hcovers, Option.filter]
    · rw [openLoad_record, hi]
      rfl
    · rw [openLoad_ctx, hk, if_neg Bool.false_ne_true]
    · refine ⟨_, (serviceState_covered (s := loadOpened id b.toNat c.toNat p s) hk).symm, ?_⟩
      rw [openLoad_ctx, hk, if_pos rfl]
      rfl

end Sys2Proof.Machine
end

section
/-! What an event makes of the contexts and of the configuration, as a chain of turns: each evaluation, closure, status frame,
timer, flag and step of a load is one, and after each of them every service state can stand as R111 gives it. -/

namespace Sys2Proof.Machine

/-! ## Turns -/

/-- A load context that goes on within its range: the write index does not fall below the start. -/
structure GoesOn (l m : LoadContext) : Prop where
  table : m.table = l.table
  start : m.start = l.start
  rangeEnd : m.rangeEnd = l.rangeEnd
  started : l.start ≤ l.writeIndex → m.start ≤ m.writeIndex

theorem GoesOn.refl (l : LoadContext) : GoesOn l l := ⟨rfl, rfl, rfl, id⟩

theorem GoesOn.trans {l m n : LoadContext} (h : GoesOn l m) (g : GoesOn m n) : GoesOn l n where
  table := g.table.trans h.table
  start := g.start.trans h.start
  rangeEnd := g.rangeEnd.trans h.rangeEnd
  started := g.started ∘ h.started

theorem GoesOn.covers {l m : LoadContext} (h : GoesOn l m) (k : SignalId) : m.covers k = l.covers k := by
  simp only [LoadContext.covers, h.table, h.start, h.rangeEnd]

/-- The entry at the write index is a signal's own: its SIGNAL entry or one of its PLAN entries. -/
def LoadContext.writesTo (l : LoadContext) (k : SignalId) : Prop :=
  (l.table = .signal ∧ l.writeIndex = k.val) ∨ (l.table = .plan ∧ l.writeIndex / 2 = k.val)

/-- From s to t an entry has been stored at the write index of the open load, within its range. -/
structure EntryStored (l : LoadContext) (bytes : List Byte) (s t : State) : Prop where
  load : s.load = some l
  inRange : l.writeIndex ≤ l.rangeEnd
  config : SameConfig { s with tables := s.tables.storeEntry l.table l.writeIndex bytes } t
  ctx : ∀ k, t.ctx k = s.ctx k

/-- A load ends: its table becomes INVALID, or VALID when no check fails (R167, R169, R170). -/
def EndsAs (id : TableId) (w : Validity) (s : State) : Prop :=
  w = .invalid ∨ (w = .valid ∧ firstFailedCheck id s = none)

/-- One change that an event makes to the contexts or to the configuration. What it does to the records, the reports and the
ports is left out. -/
inductive Turn : State → State → Prop where
  | same {s t} (config : SameConfig s t) (ctx : ∀ k, t.ctx k = s.ctx k) : Turn s t
  | evaluated (k s) : Turn s (evaluate k s)
  | released {k s t} (serves : Serves k s t) (spent : (t.ctx k).spent = (s.ctx k).spent)
      (holder : (t.ctx k).holder = none ∨ (t.ctx k).holder = (s.ctx k).holder) : Turn s t
  | closed (i reason s) : Turn s (closeRecord i reason s)
  | heard (k p f s) : Turn s (recompute k (statusTaken k p f s))
  | expired {k s t} (fresh : (s.ctx k).freshness = .fresh t) :
      Turn s (recompute k (s.setCtx k { s.ctx k with freshness := .stale }))
  | flagged (k b s) : Turn s (recompute k (s.setDisabled k b))
  | observed (b s) : Turn s { s with observe := b }
  | opened (id start expected p) {s} (none : s.load = none) : Turn s (openLoad id start expected p s)
  | moved {s l m} (load : s.load = some l) (goes : GoesOn l m) : Turn s { s with load := some m }
  | storedFor {k l bytes s t} (stored : EntryStored l bytes s t) (writes : l.writesTo k) : Turn s (recompute k t)
  | storedElse {l bytes s t} (stored : EntryStored l bytes s t) (others : ∀ k, ¬ l.writesTo k) : Turn s t
  | ended {s l} (v w) (load : s.load = some l) (ends : EndsAs l.table w s) :
      Turn s (recomputeAll allSignals (endLoad v l.table w s))
  | emptied (s) : Turn s (corridorReset s)

/-- The turns of an event, one after another. -/
def Turns : State → State → Prop := Relation.ReflTransGen Turn

theorem Turns.refl (s : State) : Turns s s := Relation.ReflTransGen.refl

theorem Turn.turns {s t : State} (h : Turn s t) : Turns s t := Relation.ReflTransGen.single h

theorem Turns.trans {s t u : State} (h : Turns s t) (g : Turns t u) : Turns s u := Relation.ReflTransGen.trans h g

/-- What every turn keeps stays through a chain of turns. -/
theorem Turns.keeps {P : State → Prop} (hP : ∀ {s t}, Turn s t → P s → P t) {s t : State} (h : Turns s t) (hs : P s) :
    P t := by
  induction h with
  | refl => exact hs
  | tail _ turn ih => exact hP turn ih

theorem turns_of_eq {s t : State} (h : t = s) : Turns s t := h ▸ Turns.refl s

theorem turns_same {s t : State} (config : SameConfig s t) (ctx : ∀ k, t.ctx k = s.ctx k) : Turns s t :=
  (Turn.same config ctx).turns

theorem turns_onlyRecords {s t : State} (h : OnlyRecords s t) : Turns s t := turns_same h.keeps h.ctx

theorem turns_setRecord (i : SlotId) (r : Option RequestRecord) (s : State) : Turns s (s.setRecord i r) :=
  turns_same (setRecord_keeps i r s) fun _ => rfl

theorem turns_foldl {α : Type} {f : State → α → State} (h : ∀ u x, Turns u (f u x)) (l : List α) (s : State) :
    Turns s (l.foldl f s) :=
  List.foldlRecOn (motive := Turns s) l f (Turns.refl s) fun u hu x _ => hu.trans (h u x)

/-! ## Evaluations and calls (chapters 7 and 8) -/

theorem turns_evaluate (k : SignalId) (s : State) : Turns s (evaluate k s) := (Turn.evaluated k s).turns

theorem turns_evaluateAll (l : List SignalId) (s : State) : Turns s (evaluateAll l s) :=
  turns_foldl (fun u k => turns_evaluate k u) l s

theorem turns_generateCancel (k : SignalId) (s : State) : Turns s (generateCancel k s) :=
  (Turn.released (serves_generateCancel k s) (generateCancel_spent k s) (.inr (generateCancel_holder k s))).turns

theorem turns_giveUp (k : SignalId) (s : State) : Turns s (giveUp k s) :=
  (Turn.released (serves_giveUp k s) (giveUp_spent k s) (.inl (giveUp_holder k s).1)).turns

theorem turns_markLapsed (k : SignalId) (s : State) : Turns s (markLapsed k s) := by
  unfold markLapsed
  split
  · exact Turns.refl s
  · exact turns_setRecord _ _ s

theorem turns_lapse (k : SignalId) (s : State) : Turns s (lapse k s) := by
  rw [lapse_eq]
  exact (((turns_generateCancel k s).trans (turns_markLapsed k _)).trans (turns_giveUp k _)).trans (turns_evaluate k _)

theorem refreshCopy_spent (k : SignalId) (s : State) : ((refreshCopy k s).ctx k).spent = (s.ctx k).spent := by
  unfold refreshCopy
  split
  · rfl
  · dsimp only
    split <;> rw [placeCall_ctx] <;> simp

theorem turns_refreshCopy (k : SignalId) (s : State) : Turns s (refreshCopy k s) :=
  (Turn.released (serves_refreshCopy k s) (refreshCopy_spent k s) (.inr ((accounts_refreshCopy k s).holder k))).turns

theorem turns_takeRefreshExpiry (k : SignalId) (s : State) : Turns s (takeRefreshExpiry k s) := by
  unfold takeRefreshExpiry refreshOrLapse
  dsimp only
  split
  · split
    · split
      · exact (turns_evaluate k s).trans (turns_refreshCopy k _)
      · exact (turns_evaluate k s).trans (turns_lapse k _)
    · exact turns_evaluate k s
  · exact Turns.refl s

theorem turns_evaluateTouched (l : List SignalId) (s : State) : Turns s (evaluateTouched l s) := by
  obtain ⟨west, east, e⟩ := evaluateTouched_eq l s
  rw [e]
  exact (turns_evaluateAll _ s).trans (turns_same (by constructor <;> rfl) fun _ => rfl)

/-! ## Status frames and freshness (chapter 6) -/

theorem turns_takeStatus (k : SignalId) (p : PlanId) (f : SignalStatus) (s : State) : Turns s (takeStatus k p f s) := by
  rw [takeStatus_eq]
  refine ((Turn.heard k p f s).turns.trans (turns_evaluate k _)).trans ?_
  obtain e | ⟨-, e⟩ := lapseAboveLimit_cases k (statusChange (s.ctx k) p f.position)
    (recompute k (statusTaken k p f s)) (evaluate k (recompute k (statusTaken k p f s))) <;> rw [e]
  · exact Turns.refl _
  · exact turns_lapse k _

theorem turns_handStatus (p : PortId) (src : Byte) (f : SignalStatus) (s : State) : Turns s (handStatus p src f s) := by
  refine turns_foldl (fun u k => ?_) _ s
  unfold offerStatus
  split
  · exact Turns.refl u
  · exact turns_takeStatus k _ f u

theorem turns_takeFreshnessExpiry (k : SignalId) (s : State) : Turns s (takeFreshnessExpiry k s) := by
  unfold takeFreshnessExpiry
  split
  · next due =>
    obtain ⟨t, fresh, -⟩ := (freshnessDue_iff s k).mp due
    exact (Turn.expired fresh).turns.trans (turns_evaluate k _)
  · exact Turns.refl s

/-! ## Records (chapters 2 to 4) -/

theorem turns_closeRecord (i : SlotId) (reason : ClosureReason) (s : State) : Turns s (closeRecord i reason s) :=
  (Turn.closed i reason s).turns

theorem turns_closeAll (l : List SlotId) (reason : ClosureReason) (s : State) : Turns s (closeAll l reason s) :=
  turns_foldl (fun u i => turns_closeRecord i reason u) l s

theorem turns_attemptProjection (i : SlotId) (doors : Bool) (s : State) : Turns s (attemptProjection i doors s).1 :=
  turns_same (attemptProjection_keeps i doors s) (attemptProjection_ctx i doors s)

theorem turns_createAndProject (i : SlotId) (t : TakenReport) (k : SignalId) (z : ZoneEntry) (route : Fin 32)
    (s : State) : Turns s (createAndProject i t k z route s).1 :=
  (turns_setRecord i _ s).trans (turns_attemptProjection i _ _)

theorem turns_displaceAndCreate (x : SlotId × RequestRecord) (t : TakenReport) (k : SignalId) (z : ZoneEntry)
    (route : Fin 32) (s : State) : Turns s (displaceAndCreate x t k z route s).1 :=
  (turns_closeRecord x.1 .displaced s).trans (turns_createAndProject x.1 t k z route _)

theorem turns_checkIn (t : TakenReport) (k : SignalId) (z : ZoneEntry) (route : Fin 32) (s : State) :
    Turns s (checkIn t k z route s).1 := by
  unfold checkIn
  split
  · split
    · exact (turns_setRecord _ _ s).trans (turns_attemptProjection _ _ _)
    · exact Turns.refl s
  · split
    · exact turns_createAndProject _ t k z route s
    · unfold checkInFull
      split
      · exact turns_displaceAndCreate _ t k z route s
      · split
        · exact Turns.refl s
        · split
          · exact turns_displaceAndCreate _ t k z route s
          · exact turns_same (writeReport_keeps _ s) fun _ => rfl

theorem turns_matchZone (t : TakenReport) (route : Fin 32) (s : State) : Turns s (matchZone t route s).1 := by
  unfold matchZone
  split
  · exact turns_closeAll _ _ s
  · split
    · exact Turns.refl s
    · unfold inZone
      split
      · split
        · exact Turns.refl s
        · exact turns_closeAll _ _ s
      · split
        · exact turns_checkIn t _ _ route s
        · exact Turns.refl s

theorem turns_takeBusReport (r : BusReport) (s : State) : Turns s (takeBusReport r s) := by
  obtain e | ⟨t, route, -, -, e⟩ := takeBusReport_cases r s <;> rw [e]
  · exact Turns.refl s
  · unfold actOnReport
    dsimp only
    split
    · exact (turns_closeAll _ _ s).trans (turns_evaluateTouched _ _)
    · exact ((turns_matchZone t route s).trans (turns_onlyRecords (onlyRecords_updateRecords t _))).trans
        (turns_evaluateTouched _ _)

theorem turns_takeHorizonEntry (i : SlotId) (s : State) : Turns s (takeHorizonEntry i s) := by
  unfold takeHorizonEntry
  split
  · exact Turns.refl s
  · split
    · exact (turns_setRecord i _ s).trans (turns_evaluate _ _)
    · exact Turns.refl s

theorem turns_takeAgeExpiry (i : SlotId) (s : State) : Turns s (takeAgeExpiry i s) := by
  unfold takeAgeExpiry
  split
  · exact Turns.refl s
  · split
    · exact (turns_closeRecord i _ s).trans (turns_evaluate _ _)
    · exact Turns.refl s

theorem turns_takeProjectionExpiry (i : SlotId) (s : State) : Turns s (takeProjectionExpiry i s) := by
  unfold takeProjectionExpiry
  split
  · exact Turns.refl s
  · split
    · exact (turns_closeRecord i _ s).trans (turns_evaluate _ _)
    · exact Turns.refl s

/-! ## Table loading (chapter 9) -/

/-- A signal's service state recomputed after its entry, and its evaluation when the state changed (R112). -/
theorem turns_recomputeOne {k : SignalId} {s t : State} (h : Turn s (recompute k t)) : Turns s (recomputeOne k t) := by
  unfold recomputeOne
  dsimp only
  split
  · exact h.turns
  · exact h.turns.trans (turns_evaluate k _)

theorem turns_storeEntry {l : LoadContext} {s : State} (load : s.load = some l) (inRange : l.writeIndex ≤ l.rangeEnd)
    (bytes : List Byte) : Turns s (storeEntry l.table l.writeIndex bytes s) := by
  have stored : EntryStored l bytes s { s with tables := s.tables.storeEntry l.table l.writeIndex bytes } :=
    ⟨load, inRange, SameConfig.refl _, fun _ => rfl⟩
  have beside (h : ∀ k, ¬ l.writesTo k) :
      Turns s { s with tables := s.tables.storeEntry l.table l.writeIndex bytes } := (Turn.storedElse stored h).turns
  unfold storeEntry
  dsimp only
  split
  · next ht =>
    split
    · next hk =>
      refine beside fun k hwrites => ?_
      obtain ⟨-, e⟩ | ⟨e, -⟩ := hwrites
      · exact absurd k.isLt (Nat.not_lt.mpr (e ▸ indexBelow_none hk))
      · exact absurd (ht.symm.trans e) (by decide)
    · next k hk =>
      refine turns_recomputeOne (Turn.storedFor (l := l) (bytes := bytes) ?_ (.inl ⟨ht, (indexBelow_some hk).symm⟩))
      refine ⟨load, inRange, ?_, fun j => dropMovedCall_ctx k _ _ j⟩
      rw [ht]
      exact dropMovedCall_keeps k _ _
  · next ht =>
    split
    · next hk =>
      refine beside fun k hwrites => ?_
      obtain ⟨e, -⟩ | ⟨-, e⟩ := hwrites
      · exact absurd (ht.symm.trans e) (by decide)
      · exact absurd k.isLt (Nat.not_lt.mpr (e ▸ indexBelow_none hk))
    · next k hk =>
      exact turns_recomputeOne (Turn.storedFor stored (.inr ⟨ht, (indexBelow_some hk).symm⟩))
  all_goals
    next ht =>
    refine beside fun k hwrites => ?_
    obtain ⟨e, -⟩ | ⟨e, -⟩ := hwrites <;> exact absurd (ht.symm.trans e) (by decide)

/-- The bytes pending and to come fit into the range that is left (R164). -/
def LoadContext.fits (l : LoadContext) : Prop :=
  l.buffer.length ≤ (l.rangeEnd + 1 - l.writeIndex) * l.table.entrySize

theorem LoadContext.fits.inRange {l : LoadContext} (h : l.fits) (whole : l.table.entrySize ≤ l.buffer.length) :
    l.writeIndex ≤ l.rangeEnd := by
  by_contra beyond
  have none : l.rangeEnd + 1 - l.writeIndex = 0 := by omega
  have size := l.table.entrySize_pos
  rw [LoadContext.fits, none, Nat.zero_mul] at h
  omega

theorem goesOn_advanced (l : LoadContext) : GoesOn l l.advanced := ⟨rfl, rfl, rfl, fun h => Nat.le_succ_of_le h⟩

theorem LoadContext.fits.advanced {l : LoadContext} (h : l.fits) : l.advanced.fits := by
  show (l.buffer.drop l.table.entrySize).length ≤ (l.rangeEnd + 1 - (l.writeIndex + 1)) * l.table.entrySize
  rw [List.length_drop, ← Nat.sub_sub, Nat.sub_mul _ 1, Nat.one_mul]
  exact Nat.sub_le_sub_right h _

theorem turns_assemble (fuel : Nat) {l m : LoadContext} {s : State} (load : s.load = some l) (goes : GoesOn l m)
    (fits : m.fits) : Turns s (assemble fuel m s) := by
  have moved : Turns s { s with load := some m } := (Turn.moved load goes).turns
  induction fuel generalizing l m s with
  | zero => exact moved
  | succ fuel ih =>
    unfold assemble
    split
    · exact moved
    · next whole =>
      have loaded := (storeEntry_keeps m.table m.writeIndex (m.buffer.take m.table.entrySize)
        { s with load := some m }).load
      exact (moved.trans (turns_storeEntry (s := { s with load := some m }) rfl
        (fits.inRange (Nat.not_lt.mp whole)) _)).trans
        (ih loaded (goesOn_advanced m) fits.advanced (Turn.moved loaded (goesOn_advanced m)).turns)

theorem turns_recomputeAndEvaluate {s t : State} (h : Turn s (recomputeAll allSignals t)) :
    Turns s (recomputeAndEvaluate t) :=
  h.turns.trans (turns_evaluateAll _ _)

/-! ## Management requests (chapters 9 and 10) -/

theorem turns_needLength (kind : Byte) (n : Nat) (payload : List Byte) {act : State → State × Answer} {s : State}
    (h : Turns s (act s).1) : Turns s (needLength kind n payload act s).1 :=
  needLength_cases (P := fun x => Turns s x.1) kind n payload act s (Turns.refl s) h

theorem turns_actDisable (code : Byte) (b : Bool) (signal : Byte) (s : State) :
    Turns s (actDisable code b signal s).1 := by
  unfold actDisable
  split
  · exact Turns.refl s
  · next k _ =>
    dsimp only
    split
    · exact Turns.refl s
    · exact (Turn.flagged k b s).turns.trans (turns_evaluate k _)

theorem turns_observed (b : Bool) (s : State) : Turns s (evaluateAll allSignals { s with observe := b }) :=
  (Turn.observed b s).turns.trans (turns_evaluateAll _ _)

theorem turns_actControl (payload : List Byte) (s : State) : Turns s (actControl payload s).1 := by
  refine turns_needLength _ _ _ ?_
  dsimp only
  split
  · exact turns_actDisable _ _ _ s
  split
  · exact turns_actDisable _ _ _ s
  split
  · unfold actObserveOn
    dsimp only
    split
    · exact Turns.refl s
    · exact Turns.trans (turns_foldl (fun u k => turns_generateCancel k u) allSignals s) (turns_observed true _)
  split
  · unfold actObserveOff
    dsimp only
    split
    · exact turns_observed false s
    · exact Turns.refl s
  split
  · exact (Turn.emptied s).turns
  · exact Turns.refl s

theorem turns_actTableOpen (p : PortId) (payload : List Byte) (s : State) : Turns s (actTableOpen p payload s).1 := by
  refine turns_needLength _ _ _ ?_
  dsimp only
  split
  · exact Turns.refl s
  · next closed =>
    split
    · exact Turns.refl s
    · split
      · exact Turns.refl s
      · exact (Turn.opened _ _ _ p (Option.not_isSome_iff_eq_none.mp closed)).turns

theorem turns_actTableWrite (p : PortId) (payload : List Byte) (s : State) : Turns s (actTableWrite p payload s).1 := by
  unfold actTableWrite
  split
  · exact Turns.refl s
  split
  · exact Turns.refl s
  · next l hl =>
    split
    · exact Turns.refl s
    · next fits =>
      rw [overruns_iff] at fits
      refine turns_assemble _ (loadFrom_load hl) ⟨rfl, rfl, rfl, id⟩ ?_
      rw [LoadContext.fits, List.length_append]
      exact Nat.not_lt.mp fits

theorem turns_actTableSeek (p : PortId) (payload : List Byte) (s : State) : Turns s (actTableSeek p payload s).1 := by
  refine turns_needLength _ _ _ ?_
  split
  · exact Turns.refl s
  · next l hl =>
    dsimp only
    split
    · exact Turns.refl s
    · next inside =>
      have goes : GoesOn l { l with writeIndex := (byteAt payload 0).toNat, buffer := [] } :=
        ⟨rfl, rfl, rfl, fun _ => Nat.not_lt.mp (not_or.mp inside).1⟩
      exact (Turn.moved (loadFrom_load hl) goes).turns

theorem turns_actTableClose (p : PortId) (payload : List Byte) (s : State) : Turns s (actTableClose p payload s).1 := by
  refine turns_needLength _ _ _ ?_
  split
  · exact Turns.refl s
  · next l hl =>
    split
    · exact Turns.refl s
    split
    · exact Turns.refl s
    split
    · exact Turns.refl s
    · next passed =>
      dsimp only
      rw [closeLoad_eq]
      exact turns_recomputeAndEvaluate (Turn.ended _ _ (loadFrom_load hl) (.inr ⟨rfl, passed⟩))

theorem turns_actTableAbandon (payload : List Byte) (s : State) : Turns s (actTableAbandon payload s).1 := by
  refine turns_needLength _ _ _ ?_
  split
  · exact Turns.refl s
  · next l hl =>
    dsimp only
    rw [abandonLoad_eq]
    exact turns_recomputeAndEvaluate (Turn.ended _ _ hl (.inl rfl))

theorem turns_actReadReports (payload : List Byte) (s : State) : Turns s (actReadReports payload s).1 := by
  refine turns_needLength _ _ _ ?_
  dsimp only
  split
  · exact Turns.refl s
  · exact turns_same (by constructor <;> rfl) fun _ => rfl

theorem turns_actRequest (p : PortId) (kind : Byte) (payload : List Byte) (s : State) :
    Turns s (actRequest p kind payload s).1 :=
  actRequest_cases (P := fun _ x => Turns s x.1) p kind payload s
    (turns_of_eq (actQueryStatus_state payload s)) (turns_of_eq (actQuerySignal_state payload s))
    (turns_of_eq (actQueryRequests_state payload s)) (turns_actReadReports payload s) (turns_actControl payload s)
    (turns_actTableOpen p payload s) (turns_actTableWrite p payload s) (turns_actTableSeek p payload s)
    (turns_actTableClose p payload s) (turns_actTableAbandon payload s) (turns_of_eq (actTableRead_state payload s))
    fun _ => Turns.refl s

/-- What every turn keeps is kept by every report, status frame, request and timer. -/
theorem serviceKeeps_of_turn {P : State → Prop} (hP : ∀ {s t}, Turn s t → P s → P t) : ServiceKeeps P where
  same same := hP (.same same.toSameConfig same.ctx)
  report r s := (turns_takeBusReport r s).keeps hP
  status p src f s := (turns_handStatus p src f s).keeps hP
  request p kind payload s := (turns_actRequest p kind payload s).keeps hP
  freshness k s := (turns_takeFreshnessExpiry k s).keeps hP
  horizon i s := (turns_takeHorizonEntry i s).keeps hP
  age i s := (turns_takeAgeExpiry i s).keeps hP
  projection i s := (turns_takeProjectionExpiry i s).keeps hP
  refresh k s := (turns_takeRefreshExpiry k s).keeps hP

end Sys2Proof.Machine
end

section
/-! Service states, corridor mode and ALERT always have the values their rules give (R111, R112, R172, R182). -/

namespace Sys2Proof.Machine

/-! ## What a service state rests on (R111) -/

/-- Every service state and the corridor mode have the values their rules give (R111, R172). -/
def Derived (s : State) : Prop := StatesDerived s ∧ s.mode = corridorMode s

theorem state_congr {s t : State} {k : SignalId} (h : SameConfig s t) (ctx : t.ctx k = s.ctx k)
    (hs : (s.ctx k).state = serviceState k s) : (t.ctx k).state = serviceState k t := by
  rw [ctx, hs, serviceState_congr h (by rw [ctx])]

theorem corridorMode_kept {s t : State} (h : SameConfig s t) (hs : s.mode = corridorMode s) :
    t.mode = corridorMode t := by
  rw [h.mode, hs, corridorMode_congr h]

/-- A recomputed signal has its derived state, so only the others need theirs (R112). -/
theorem statesDerived_recompute {k : SignalId} {s : State}
    (others : ∀ j, j ≠ k → (s.ctx j).state = serviceState j s) : StatesDerived (recompute k s) := by
  intro j
  rw [serviceState_recompute, recompute_ctx]
  split
  · rfl
  · next hj => exact others j hj

theorem serviceState_setDisabled_ne {k j : SignalId} (h : j ≠ k) (b : Bool) (s : State) :
    serviceState j (s.setDisabled k b) = serviceState j s := by
  have flag : (s.setDisabled k b).isDisabled j = s.isDisabled j :=
    Vector.getElem_set_ne k.isLt j.isLt fun e => h (Fin.ext e.symm)
  unfold serviceState
  rw [flag]
  rfl

/-- A stored entry leaves the PLAN entries of the signals that it is not an entry of (R157). -/
theorem TableStore.planEntry_storeEntry_ne (t : TableStore) {id : TableId} {i : Nat} (bytes : List Byte) {k : SignalId}
    (h : ¬ (id = .plan ∧ i / 2 = k.val)) (p : PlanId) :
    (t.storeEntry id i bytes).planEntry k p = t.planEntry k p := by
  cases id
  case plan =>
    refine Vector.getElem_setIfInBounds_ne _ fun e => h ⟨rfl, ?_⟩
    cases p <;> simp only [planIndex] at e <;> omega
  case global =>
    unfold TableStore.storeEntry
    dsimp only
    split <;> rfl
  all_goals rfl

section
variable {l : LoadContext} {bytes : List Byte} {s t : State} (h : EntryStored l bytes s t)
include h

theorem EntryStored.signalEntry {k : SignalId} (hk : ¬ l.writesTo k) : t.signalEntry k = s.signalEntry k := by
  unfold State.signalEntry
  rw [h.config.tables]
  exact (TableStore.signal_storeEntry _ _ _ _ _).trans (if_neg fun e => hk (.inl e))

theorem EntryStored.planEntry {k : SignalId} (hk : ¬ l.writesTo k) (p : PlanId) :
    t.tables.planEntry k p = s.tables.planEntry k p := by
  rw [h.config.tables]
  exact TableStore.planEntry_storeEntry_ne _ _ (fun e => hk (.inr e)) p

theorem EntryStored.covered (k : SignalId) : t.covered k = s.covered k := by
  rw [State.covered, h.config.load]
  rfl

/-- A stored entry bears on the service state of its own signal alone. -/
theorem EntryStored.serviceState {k : SignalId} (hk : ¬ l.writesTo k) : serviceState k t = serviceState k s := by
  have flags : t.isDisabled k = s.isDisabled k := by rw [State.isDisabled, h.config.disabled]; rfl
  have validity : t.validity = s.validity := h.config.validity
  simp only [Machine.serviceState, State.planInEffect, h.ctx, h.signalEntry hk, h.planEntry hk, h.covered, flags, validity]
  rfl

theorem EntryStored.mode (hs : s.mode = corridorMode s) : t.mode = corridorMode t :=
  corridorMode_kept h.config hs

theorem EntryStored.state {k : SignalId} (hk : ¬ l.writesTo k) (hs : (s.ctx k).state = Machine.serviceState k s) :
    (t.ctx k).state = Machine.serviceState k t := by
  rw [h.ctx, hs, h.serviceState hk]

end

theorem LoadContext.writesTo_inj {l : LoadContext} {j k : SignalId} (hj : l.writesTo j) (hk : l.writesTo k) : j = k := by
  obtain ⟨tj, ej⟩ | ⟨tj, ej⟩ := hj <;> obtain ⟨tk, ek⟩ | ⟨tk, ek⟩ := hk
  · exact Fin.ext (ej.symm.trans ek)
  · cases tj.symm.trans tk
  · cases tj.symm.trans tk
  · exact Fin.ext (ej.symm.trans ek)

/-! ## A load is opened, goes on or ends -/

theorem anyInvalid_opened (v : Validities) (id : TableId) :
    (v.set id (openedValidity (v.get id))).anyInvalid = v.anyInvalid := by
  have same (x : Validity) : (openedValidity x == .invalid) = (x == .invalid) := by cases x <;> rfl
  cases id <;> simp only [Validities.set, Validities.get, Validities.anyInvalid, same]

/-- A TABLE OPEN bears on the service states of the signals it covers alone (R116, R161). -/
theorem serviceState_openLoad {id : TableId} {start expected : Nat} {p : PortId} {s : State} {k : SignalId}
    (hload : s.load = none) (hk : (openContext id start expected p).covers k = false) :
    serviceState k (openLoad id start expected p s) = serviceState k s := by
  have ctx : (suspendScope (loadOpened id start expected p s)).ctx k = (loadOpened id start expected p s).ctx k := by
    rw [suspendScope_ctx]
    exact if_neg fun e => Bool.false_ne_true (hk.symm.trans e)
  have covered : (loadOpened id start expected p s).covered k = s.covered k := by
    rw [State.covered.eq_def s, hload]
    exact hk
  refine (serviceState_congr (suspended_keeps id start expected p s) (by rw [ctx])).trans ?_
  unfold serviceState
  rw [covered]
  simp only [loadOpened, anyInvalid_opened]
  rfl

theorem statesDerived_openLoad {id : TableId} {start expected : Nat} {p : PortId} {s : State} (hload : s.load = none)
    (h : StatesDerived s) : StatesDerived (openLoad id start expected p s) := by
  intro k
  rw [openLoad_ctx]
  cases hk : (openContext id start expected p).covers k with
  | true => exact (serviceState_covered_congr (suspended_keeps id start expected p s) hk).symm
  | false => exact (h k).trans (serviceState_openLoad hload hk).symm

theorem covered_moved {s : State} {l m : LoadContext} (hl : s.load = some l) (goes : GoesOn l m) (k : SignalId) :
    ({ s with load := some m } : State).covered k = s.covered k := by
  rw [State.covered, State.covered, hl]
  exact goes.covers k

theorem derived_moved {s : State} {l m : LoadContext} (hl : s.load = some l) (goes : GoesOn l m) (h : Derived s) :
    Derived { s with load := some m } := by
  obtain ⟨states, mode⟩ := h
  refine ⟨fun k => (states k).trans ?_, mode.trans ?_⟩
  · unfold serviceState
    rw [covered_moved hl goes]
    rfl
  · simp only [corridorMode, State.corridorLoad, hl, goes.table]

theorem derived_loadEnded (v : Parity) (id : TableId) (w : Validity) (s : State) :
    Derived (recomputeAll allSignals (endLoad v id w s)) := by
  refine ⟨fun k => ?_, corridorMode_kept (works_recomputeAll allSignals _).toSameConfig rfl⟩
  rw [recomputeAll_all_ctx, serviceState_recomputeAll]

theorem mode_corridorReset {s : State} (h : s.mode = corridorMode s) :
    (corridorReset s).mode = corridorMode (corridorReset s) := by
  refine corridorMode_kept (corridorReset_keeps s) ?_
  cases hl : s.load with
  | none => rw [abandonOpenLoad_none hl, h]
  | some l => rw [abandonOpenLoad_some hl]; rfl

/-! ## Every turn and every step -/

theorem Turn.derived {s t : State} (turn : Turn s t) (h : Derived s) : Derived t := by
  obtain ⟨states, mode⟩ := h
  cases turn with
  | same config ctx => exact ⟨fun k => state_congr config (ctx k) (states k), corridorMode_kept config mode⟩
  | evaluated k s =>
    have serves := serves_evaluate k s
    exact ⟨fun j => by rw [serves.state, serves.serviceState, states j], corridorMode_kept serves.keeps mode⟩
  | released serves =>
    exact ⟨fun j => by rw [serves.state, serves.serviceState, states j], corridorMode_kept serves.keeps mode⟩
  | closed i reason s =>
    exact ⟨fun k => closeRecord_state (states k), corridorMode_kept (closeRecord_keeps i reason s) mode⟩
  | heard k p f s =>
    have keeps := statusTaken_keeps k p f s
    exact ⟨statesDerived_recompute fun j hj => state_congr keeps (statusTaken_ctx_ne hj p f s) (states j),
      corridorMode_kept (keeps.trans (recompute_keeps k _)) mode⟩
  | @expired k s _ _ =>
    have keeps := setCtx_keeps k { s.ctx k with freshness := .stale } s
    exact ⟨statesDerived_recompute fun j hj => state_congr keeps (State.ctx_setCtx_ne s _ hj) (states j),
      corridorMode_kept (keeps.trans (recompute_keeps k _)) mode⟩
  | flagged k b s =>
    exact ⟨statesDerived_recompute fun j hj => (states j).trans (serviceState_setDisabled_ne hj b s).symm,
      corridorMode_kept (recompute_keeps k _) mode⟩
  | observed b s => exact ⟨states, mode⟩
  | opened id start expected p none => exact ⟨statesDerived_openLoad none states, openLoad_mode id start expected p s⟩
  | moved load goes => exact derived_moved load goes ⟨states, mode⟩
  | storedFor stored writes =>
    exact ⟨statesDerived_recompute fun j hj => stored.state (fun hw => hj (LoadContext.writesTo_inj hw writes)) (states j),
      corridorMode_kept (recompute_keeps _ _) (stored.mode mode)⟩
  | storedElse stored others => exact ⟨fun k => stored.state (others k) (states k), stored.mode mode⟩
  | ended v w load ends => exact derived_loadEnded v _ w s
  | emptied s => exact ⟨fun k => by rw [corridorReset_ctx], mode_corridorReset mode⟩

theorem derived_kept : ServiceKeeps Derived := serviceKeeps_of_turn Turn.derived

theorem derived_afterReset (s : State) (held : Bool) (own : Option (BitVec 6)) : Derived (afterReset s held own) := by
  have silent := silent_afterReset s held own
  have invalid : (afterReset s held own).validity.anyInvalid = true := by rw [silent.validity]; rfl
  refine ⟨fun k => ?_, ?_⟩
  · rw [silent.ctx, serviceState_anyInvalid k invalid]
    rfl
  · simp [corridorMode, silent.validity, silent.mode, Validities.reset]

/-- ALERT takes its level at the end of every event and after every reset (R182). -/
theorem alert_kept {s t : State} (hs : s.alert = alertValue s) (ht : step s = .next t) : t.alert = alertValue t := by
  refine step_keeps (P := fun s => s.alert = alertValue s) (fun _ _ h => h) (fun _ _ h => h) (fun _ _ h => h)
    (fun c s t hs ht => ?_) hs ht
  exact exec_keeps (P := fun s => s.alert = alertValue s) (fun _ _ _ => rfl) (fun _ _ _ _ _ => rfl) hs ht

/-- Settles O47: every turn of an event leaves the derived values derived, and ALERT follows at the end of the event. -/
theorem derivedValuesStayDerived : Obligations.DerivedValuesStayDerived := by
  rintro s t ⟨states, mode, alert⟩ ht
  obtain ⟨states', mode'⟩ := derived_kept.step derived_afterReset (fun _ _ h => h) (fun _ _ h => h) (fun _ _ h => h)
    ⟨states, mode⟩ ht
  exact ⟨states', mode', alert_kept alert ht⟩

end Sys2Proof.Machine
end

section
/-! The holder's outcome: the cycle estimate it is placed by, and the bounds of the amount it asks for (R106, R126 to R135). -/

namespace Sys2Proof.Machine

/-! ## The cycle estimate (R106) -/

/-- A signal that has been heard, with its plan in effect in use, has an estimate. -/
theorem cycleEstimate_heard {k : SignalId} {s : State} {p : Half} {t : Time} (fresh : (s.ctx k).freshness ≠ .never)
    (taken : (s.ctx k).taken = some (p, t)) (used : flagSet (s.planInEffect k).inUse = true) :
    cycleEstimate k s = some (cycleMod (p.toNat + (s.clock - t).toNat) (s.planInEffect k).cycle.toNat) := by
  unfold cycleEstimate
  rw [taken]
  cases h : (s.ctx k).freshness with
  | never => exact absurd h fresh
  | fresh _ => exact if_pos used
  | stale => exact if_pos used

theorem cycleEstimate_never {k : SignalId} {s : State} (h : (s.ctx k).freshness = .never) : cycleEstimate k s = none := by
  unfold cycleEstimate
  rw [h]

theorem cycleEstimate_unused {k : SignalId} {s : State} (h : flagSet (s.planInEffect k).inUse = false) :
    cycleEstimate k s = none := by
  unfold cycleEstimate
  split
  · rfl
  · rfl
  · exact if_neg (by rw [h]; exact Bool.false_ne_true)

theorem cycleMod_of_pos {cycle : Nat} (h : 0 < cycle) (x : Nat) : cycleMod x cycle = x % cycle := if_neg h.ne'

/-! ## What an outcome asks for (R129 to R135) -/

/-- The largest amount of a plan for an action: Xmax or Emax. -/
def PlanEntry.limit (e : PlanEntry) : CallAction → Nat
  | .extend => e.xmax.toNat
  | .early => e.emax.toNat
  | .cancel => 0

theorem asks_extend_iff (o : ServiceOutcome) (n : Nat) : o.asks = some (.extend, n) ↔ o = .extend n := by
  cases o <;> simp [ServiceOutcome.asks]

theorem asks_early_iff (o : ServiceOutcome) (n : Nat) : o.asks = some (.early, n) ↔ o = .early n := by
  cases o <;> simp [ServiceOutcome.asks]

/-- Before the budget an amount is within the plan's largest. -/
theorem cycleOutcome_asks {plan : PlanEntry} {d : Direction} {c e : Nat} {action : CallAction} {n : Nat}
    (h : (cycleOutcome plan d c e).1.asks = some (action, n)) : n ≤ plan.limit action := by
  unfold cycleOutcome at h
  dsimp only at h
  split at h
  · cases h
  · split at h
    · next near =>
      cases h
      exact (ceilDiv_le_iff (by decide)).mpr near.2
    · split at h
      · split at h
        · next whole => cases h; exact whole
        · cases h; exact le_rfl
      · cases h

theorem projectedOutcome_asks {o : ServiceOutcome × Bool} {action : CallAction} {n : Nat}
    (h : (projectedOutcome o).1.asks = some (action, n)) : action = .early ∧ o.1.asks = some (action, n) := by
  obtain ⟨o, partialFlag⟩ := o
  cases o <;> cases h
  exact ⟨rfl, rfl⟩

/-- An amount that is left after the budget is above 0 and no larger than what is allowed. -/
theorem clip_asks {mk : Nat → ServiceOutcome} {action : CallAction} (hmk : ∀ m, (mk m).asks = some (action, m))
    {amount allowed : Nat} {wasPartial : Bool} {found : CallAction} {n : Nat}
    (h : (clip mk amount allowed wasPartial).1.asks = some (found, n)) :
    found = action ∧ 1 ≤ n ∧ n ≤ amount ∧ n ≤ allowed := by
  unfold clip at h
  split at h
  · cases h
  · next some =>
    obtain ⟨rfl, rfl⟩ := Prod.mk.inj (Option.some.inj ((hmk _).symm.trans h))
    exact ⟨rfl, Nat.one_le_iff_ne_zero.mpr some, Nat.min_le_left _ _, Nat.min_le_right _ _⟩

/-- The budget leaves an amount that the budget and what is committed allow (R134). -/
theorem budgeted_asks {budget spent committed : Nat} {o : ServiceOutcome × Bool} {action : CallAction} {n : Nat}
    (h : (budgeted budget spent committed o).1.asks = some (action, n)) :
    ∃ m, o.1.asks = some (action, m) ∧ 1 ≤ n ∧ n ≤ m ∧ n + spent ≤ budget + committed := by
  obtain ⟨o, partialFlag⟩ := o
  cases o with
  | clear => cases h
  | defer => cases h
  | extend m =>
    obtain ⟨rfl, pos, asked, allowed⟩ := clip_asks (action := .extend) (fun _ => rfl) h
    exact ⟨m, rfl, pos, asked, by omega⟩
  | early m =>
    obtain ⟨rfl, pos, asked, allowed⟩ := clip_asks (action := .early) (fun _ => rfl) h
    exact ⟨m, rfl, pos, asked, by omega⟩

/-- Only a READY signal's holder asks for a call, and a projected one for EARLY alone, within the limits of the plan in
effect and its budget (R126, R133, R134). -/
theorem holderOutcome_asks {k : SignalId} {r : RequestRecord} {s : State} {o : ServiceOutcome × Bool}
    {action : CallAction} {n : Nat} (h : holderOutcome k r s = some o) (asks : o.1.asks = some (action, n)) :
    (s.ctx k).state = .ready ∧ (r.state = .projected → action = .early) ∧ 1 ≤ n ∧
      n ≤ (s.planInEffect k).limit action ∧ n + (s.ctx k).spent ≤ (s.planInEffect k).budget.toNat + r.committed := by
  unfold holderOutcome at h
  cases hstate : (s.ctx k).state with
  | ready =>
    rw [hstate] at h
    obtain ⟨c, -, rfl⟩ := Option.map_eq_some_iff.mp h
    obtain ⟨m, asked, pos, le, allowed⟩ := budgeted_asks asks
    refine ⟨rfl, fun hp => ?_, pos, le.trans ?_, allowed⟩
    · rw [if_pos hp] at asked
      exact (projectedOutcome_asks asked).1
    · split at asked
      · exact cycleOutcome_asks (projectedOutcome_asks asked).2
      · exact cycleOutcome_asks asked
  | _ => rw [hstate] at h; cases h <;> cases asks

/-- Settles O42: the estimate places the arrival, and the budget bounds what is asked for. -/
theorem holderOutcomeByState : Obligations.HolderOutcomeByState := by
  refine ⟨fun k r p t e c o s fresh taken he used cycle hc ho => ?_, fun k s h => ?_, fun k r s pf => ⟨fun n h => ?_,
    fun n h => ?_, fun h => ?_, fun h => ?_, fun h => ?_, fun h => ?_⟩⟩
  · subst he
    have estimate : cycleEstimate k s = some c := by
      rw [cycleEstimate_heard fresh taken ((flagSet_iff _).mpr used), cycleMod_of_pos cycle, hc]
    refine ⟨estimate, fun ready => ?_⟩
    rw [holderOutcome, ready]
    dsimp only
    rw [readyOutcome, estimate, ho]
    rfl
  · obtain never | unused := h
    · exact cycleEstimate_never never
    · exact cycleEstimate_unused (by rw [unused]; rfl)
  · obtain ⟨ready, projected, pos, limit, allowed⟩ := holderOutcome_asks h ((asks_extend_iff _ n).mpr rfl)
    exact ⟨ready, fun hp => (by cases projected hp), pos, limit, allowed⟩
  · obtain ⟨ready, -, pos, limit, allowed⟩ := holderOutcome_asks h ((asks_early_iff _ n).mpr rfl)
    exact ⟨ready, pos, limit, allowed⟩
  all_goals rw [holderOutcome, h]

end Sys2Proof.Machine
end

section
/-! The seconds spent stay within the budget of the plan in effect, and the taken position is present from the first frame
taken (R99, R105, R107, R108, R134, R135). -/

namespace Sys2Proof.Machine

/-! ## The open load goes on within its range (R160) -/

/-- The write index of an open load has not fallen below its start. -/
def LoadStarted (s : State) : Prop := ∀ l, s.load = some l → l.start ≤ l.writeIndex

theorem LoadOk.started {s : State} (h : LoadOk s) : LoadStarted s := by
  intro l hl
  obtain ⟨-, started, -⟩ := h.1 l hl
  exact started

theorem LoadStarted.of_load {s t : State} (h : LoadStarted s) (e : t.load = s.load) : LoadStarted t :=
  fun l hl => h l (e ▸ hl)

theorem loadStarted_of_none {s : State} (h : s.load = none) : LoadStarted s :=
  fun l hl => by rw [h] at hl; cases hl

theorem EntryStored.loadStarted {l : LoadContext} {bytes : List Byte} {s t : State} (stored : EntryStored l bytes s t)
    (h : LoadStarted s) : LoadStarted t :=
  h.of_load stored.config.load

theorem Turn.loadStarted {s t : State} (turn : Turn s t) (h : LoadStarted s) : LoadStarted t := by
  cases turn with
  | same config => exact h.of_load config.load
  | evaluated k s => exact h.of_load (serves_evaluate k s).load
  | released serves => exact h.of_load serves.load
  | closed i reason s => exact h.of_load (closeRecord_keeps i reason s).load
  | heard k p f s => exact h.of_load ((statusTaken_keeps k p f s).trans (recompute_keeps k _)).load
  | expired => exact h.of_load (recompute_keeps _ _).load
  | flagged k b s => exact h.of_load (recompute_keeps k _).load
  | observed => exact h
  | opened id start expected p none =>
    intro l hl
    rw [openLoad_load] at hl
    cases hl
    exact le_rfl
  | moved load goes =>
    rintro _ ⟨⟩
    exact goes.started (h _ load)
  | storedFor stored writes => exact (stored.loadStarted h).of_load (recompute_keeps _ _).load
  | storedElse stored => exact stored.loadStarted h
  | ended v w load ends => exact loadStarted_of_none (works_recomputeAll allSignals _).load
  | emptied s => exact loadStarted_of_none ((corridorReset_keeps s).load.trans (abandonOpenLoad_load s))

/-- The open load covers the signal whose entry it stores (R162). -/
theorem EntryStored.covers {l : LoadContext} {bytes : List Byte} {s t : State} {k : SignalId}
    (h : EntryStored l bytes s t) (started : LoadStarted s) (hk : l.writesTo k) : l.covers k = true := by
  have low := started l h.load
  have high := h.inRange
  obtain ⟨table, index⟩ | ⟨table, index⟩ := hk
  · exact covers_signal table (by omega) (by omega)
  · exact covers_plan table index.symm low high

theorem EntryStored.coveredOwn {l : LoadContext} {bytes : List Byte} {s t : State} {k : SignalId}
    (h : EntryStored l bytes s t) (started : LoadStarted s) (hk : l.writesTo k) : s.covered k = true := by
  rw [State.covered, h.load]
  exact h.covers started hk

/-! ## What an evaluation spends (R134, R135) -/

theorem generateCall_spent (k : SignalId) (i : SlotId) (r : RequestRecord) (action : CallAction) (amount : Nat) (pf : Bool)
    (s : State) :
    ((generateCall k i r action amount pf s).ctx k).spent = (s.ctx k).spent + (amount - r.committed) := by
  rw [generateCall, placeCall_ctx, State.ctx_modRecord, State.ctx_setCtx_self]
  rfl

/-- What is spent stays as it is, or the signal is READY and what is spent is within its budget. -/
def SpendsWithin (k : SignalId) (s t : State) : Prop :=
  (t.ctx k).spent = (s.ctx k).spent ∨
    ((s.ctx k).state = .ready ∧ (t.ctx k).spent ≤ (s.planInEffect k).budget.toNat)

theorem spendsWithin_serveHolder (k : SignalId) (s : State) : SpendsWithin k s (serveHolder k s) := by
  unfold serveHolder
  split
  · exact .inl rfl
  · next i r _ =>
    split
    · exact .inl rfl
    · next o outcome =>
      unfold actOnOutcome
      split
      · exact .inl (generateCancel_spent k _)
      · next action amount asks =>
        split
        · exact .inl rfl
        · obtain ⟨ready, -, -, -, allowed⟩ := holderOutcome_asks outcome asks
          have spent := generateCall_spent k i r action amount o.2 (recordOutcome i o s)
          change _ = (s.ctx k).spent + (amount - r.committed) at spent
          by_cases paid : amount ≤ r.committed
          · exact .inl (by omega)
          · exact .inr ⟨ready, by omega⟩

/-- An evaluation spends what the budget of a READY signal allows, or nothing. -/
theorem spendsWithin_evaluate (k : SignalId) (s : State) : SpendsWithin k s (evaluate k s) := by
  have settled := serves_settleHolder k s
  obtain ⟨spent, -⟩ := sameLedger_settleHolder k s
  obtain same | ⟨ready, within⟩ := spendsWithin_serveHolder k (settleHolder k s)
  · exact .inl (same.trans spent)
  · exact .inr ⟨(settled.state k).symm.trans ready, settled.planInEffect k ▸ within⟩

/-- A READY signal is FRESH, and no open load covers it (R111). -/
theorem serviceState_ready {k : SignalId} {s : State} (h : serviceState k s = .ready) :
    (s.ctx k).freshness ≠ .never ∧ s.covered k = false := by
  unfold serviceState at h
  split_ifs at h with _ covered _ fresh
  refine ⟨fun never => fresh (by rw [never]; rfl), by simpa using covered⟩

/-! ## What a signal has spent and taken (R99, R108) -/

/-- What R99 and R108 say of one signal. -/
structure PurseOk (k : SignalId) (s : State) : Prop where
  taken : (s.ctx k).taken = none ↔ (s.ctx k).freshness = .never
  budget : (s.ctx k).spent ≤ (s.planInEffect k).budget.toNat
  never : (s.ctx k).freshness = .never → (s.ctx k).spent = 0
  covered : s.covered k = true → (s.ctx k).spent = 0

theorem purseOk_iff (s : State) : (∀ k, PurseOk k s) ↔ TakenOk s ∧ BudgetOk s :=
  ⟨fun h => ⟨fun k => (h k).taken, fun k => ⟨(h k).budget, (h k).never, (h k).covered⟩⟩,
    fun ⟨taken, budget⟩ k => ⟨taken k, (budget k).1, (budget k).2.1, (budget k).2.2⟩⟩

/-- A signal that has spent nothing is within any budget. -/
theorem purseOk_of_unspent {k : SignalId} {s : State} (taken : (s.ctx k).taken = none ↔ (s.ctx k).freshness = .never)
    (spent : (s.ctx k).spent = 0) : PurseOk k s :=
  ⟨taken, spent ▸ Nat.zero_le _, fun _ => spent, fun _ => spent⟩

/-- A purse goes by the values of the context, the budget of the plan in effect and the cover of the open load. -/
theorem PurseOk.congr {k : SignalId} {s t : State} (h : PurseOk k s) (taken : (t.ctx k).taken = (s.ctx k).taken)
    (freshness : (t.ctx k).freshness = .never ↔ (s.ctx k).freshness = .never)
    (spent : (t.ctx k).spent = (s.ctx k).spent)
    (plan : t.planInEffect k = s.planInEffect k) (covered : t.covered k = true → s.covered k = true) : PurseOk k t where
  taken := by rw [taken, freshness, h.taken]
  budget := by rw [spent, plan]; exact h.budget
  never never := by rw [spent, h.never (freshness.mp never)]
  covered hk := by rw [spent, h.covered (covered hk)]

/-- A purse of a context that stands as it was, in the same configuration. -/
theorem PurseOk.same {k : SignalId} {s t : State} (h : PurseOk k s) (config : SameConfig s t) (ctx : t.ctx k = s.ctx k) :
    PurseOk k t :=
  h.congr (by rw [ctx]) (by rw [ctx]) (by rw [ctx]) (by rw [State.planInEffect, config.tables, ctx]; rfl)
    fun covered => by rwa [State.covered, config.load] at covered

theorem recompute_purse {k j : SignalId} {s : State} (h : PurseOk j s) : PurseOk j (recompute k s) := by
  have ctx := recompute_ctx k j s
  have keeps := recompute_keeps k s
  have plan : ((recompute k s).ctx j).plan = (s.ctx j).plan := by rw [ctx]; split <;> rfl
  refine h.congr ?_ ?_ ?_ (by rw [State.planInEffect, keeps.tables, plan]; rfl) fun covered => ?_
  · rw [ctx]; split <;> rfl
  · rw [ctx]; split <;> rfl
  · rw [ctx]; split <;> rfl
  · rwa [State.covered, keeps.load] at covered

theorem PurseOk.served {k j : SignalId} {s t : State} (h : PurseOk j s) (serves : Serves k s t)
    (spent : (t.ctx j).spent = (s.ctx j).spent) : PurseOk j t := by
  have taken := congrArg SignalContext.taken (serves.ctxUnserved j)
  exact h.congr taken (by rw [serves.freshness]) spent (serves.planInEffect j) fun covered => serves.covered j ▸ covered

/-- A call that is charged keeps the purse of its READY signal. -/
theorem PurseOk.evaluated {k : SignalId} {s : State} (h : PurseOk k s) (state : (s.ctx k).state = serviceState k s) :
    PurseOk k (evaluate k s) := by
  have serves := serves_evaluate k s
  obtain same | ⟨ready, within⟩ := spendsWithin_evaluate k s
  · exact h.served serves same
  · obtain ⟨heard, uncovered⟩ := serviceState_ready (state.symm.trans ready)
    have taken := congrArg SignalContext.taken (serves.ctxUnserved k)
    refine ⟨?_, by rwa [serves.planInEffect], fun never => ?_, fun covered => ?_⟩
    · rw [serves.freshness]
      exact taken ▸ h.taken
    · exact absurd ((serves.freshness k).symm.trans never) heard
    · rw [serves.covered, uncovered] at covered
      cases covered

theorem closeRecord_spent (i : SlotId) (reason : ClosureReason) (s : State) (k : SignalId) :
    ((closeRecord i reason s).ctx k).spent = (s.ctx k).spent := by
  cases hr : s.record i with
  | none => rw [closeRecord_free i reason s hr]
  | some r =>
    by_cases hk : k = r.signal
    · subst hk
      rw [closeRecord_eq hr, recompute_ctx, if_pos rfl]
      unfold struckOut
      dsimp only
      rw [State.ctx_setCtx_self, ctx_writeReport, State.ctx_setRecord]
      dsimp only
      split
      · exact generateCancel_spent _ s
      · rfl
    · rw [closeRecord_ctx_ne i reason s r k hr hk]

theorem PurseOk.closed {k : SignalId} {s : State} (h : PurseOk k s) (i : SlotId) (reason : ClosureReason) :
    PurseOk k (closeRecord i reason s) := by
  have lasting := closeRecord_lasting i reason s k
  have keeps := closeRecord_keeps i reason s
  have taken := congrArg SignalContext.taken lasting
  have freshness : ((closeRecord i reason s).ctx k).freshness = (s.ctx k).freshness :=
    (congrArg SignalContext.freshness lasting :)
  refine h.congr taken (by rw [freshness]) (closeRecord_spent i reason s k) ?_ fun covered => ?_
  · rw [State.planInEffect, keeps.tables, closeRecord_plan]
    rfl
  · rwa [State.covered, keeps.load] at covered

/-! ## Status frames (R101, R105, R107) -/

/-- A status frame that leaves what is spent finds the plan in effect as it selects it (R105, R107). -/
theorem PurseOk.heard_spent {k : SignalId} {s : State} (h : PurseOk k s) (p : PlanId) (f : SignalStatus) (now : Time)
    (timeout : Nat) :
    ((s.ctx k).withStatus (statusChange (s.ctx k) p f.position) f p now timeout).spent = 0 ∨
      (((s.ctx k).withStatus (statusChange (s.ctx k) p f.position) f p now timeout).spent = (s.ctx k).spent ∧
        p = (s.ctx k).plan) := by
  by_cases hch : statusChange (s.ctx k) p f.position = .neither
  · rw [hch]
    by_cases never : (s.ctx k).freshness = .never
    · exact .inl (h.never never)
    · obtain ⟨⟨q, t⟩, taken⟩ := Option.ne_none_iff_exists'.mp (mt h.taken.mp never)
      refine .inr ⟨rfl, ?_⟩
      by_contra selected
      rw [statusChange_heard never taken, if_pos selected] at hch
      cases hch
  · exact .inl (withStatus_spent _ _ _ _ _ _ hch)

theorem PurseOk.heard {k : SignalId} {s : State} (h : PurseOk k s) (p : PlanId) (f : SignalStatus) :
    PurseOk k (statusTaken k p f s) := by
  have keeps := statusTaken_keeps k p f s
  have ctx := statusTaken_ctx_self k p f s
  have plan : (statusTaken k p f s).planInEffect k = s.tables.planEntry k p := by
    rw [State.planInEffect, ctx, keeps.tables]
    rfl
  have taken : ((statusTaken k p f s).ctx k).taken = none ↔ ((statusTaken k p f s).ctx k).freshness = .never := by
    rw [ctx]
    exact ⟨nofun, nofun⟩
  obtain zero | ⟨same, rfl⟩ := h.heard_spent p f s.clock (statusTimeout s)
  · exact purseOk_of_unspent taken (ctx ▸ zero)
  · refine ⟨taken, ?_, fun never => ?_, fun covered => ?_⟩
    · rw [plan, ctx, same]
      exact h.budget
    · rw [ctx] at never
      cases never
    · rw [State.covered, keeps.load] at covered
      rw [ctx, same, h.covered covered]

/-! ## Timers, flags and tables -/

/-- The freshness expiry of a signal that has been heard (R103). -/
theorem PurseOk.expired {k j : SignalId} {s : State} {t : Time} (h : PurseOk j s) (fresh : (s.ctx k).freshness = .fresh t) :
    PurseOk j (s.setCtx k { s.ctx k with freshness := .stale }) := by
  by_cases hj : j = k
  · subst hj
    have ctx := State.ctx_setCtx_self s j { s.ctx j with freshness := .stale }
    refine h.congr (by rw [ctx]) ?_ (by rw [ctx]) (by rw [State.planInEffect, ctx]; rfl) id
    rw [ctx, fresh]
    exact ⟨nofun, nofun⟩
  · exact h.same (setCtx_keeps k _ s) (State.ctx_setCtx_ne s _ hj)

/-- A TABLE OPEN clears what is spent at the signals it covers (R116). -/
theorem PurseOk.opened {k : SignalId} {s : State} (h : PurseOk k s) (id : TableId) (start expected : Nat) (p : PortId) :
    PurseOk k (openLoad id start expected p s) := by
  have ctx := openLoad_ctx id start expected p s k
  have tables := (suspended_keeps id start expected p s).tables
  cases hk : (openContext id start expected p).covers k with
  | true =>
    rw [hk, if_pos rfl] at ctx
    exact purseOk_of_unspent (by rw [ctx]; exact h.taken) (by rw [ctx]; rfl)
  | false =>
    rw [hk, if_neg Bool.false_ne_true] at ctx
    refine h.congr (by rw [ctx]) (by rw [ctx]) (by rw [ctx]) ?_ fun covered => ?_
    · rw [State.planInEffect, ctx]
      exact congrArg (fun t : TableStore => t.planEntry k (s.ctx k).plan) tables
    · rw [openLoad_covered, hk] at covered
      cases covered

/-- A stored entry is another signal's, or one of a covered signal that has spent nothing. -/
theorem PurseOk.stored {k : SignalId} {l : LoadContext} {bytes : List Byte} {s t : State} (h : PurseOk k s)
    (stored : EntryStored l bytes s t) (started : LoadStarted s) : PurseOk k t := by
  have ctx := stored.ctx k
  by_cases writes : l.writesTo k
  · have zero := h.covered (stored.coveredOwn started writes)
    exact purseOk_of_unspent (by rw [ctx]; exact h.taken) (by rw [ctx]; exact zero)
  · refine h.congr (by rw [ctx]) (by rw [ctx]) (by rw [ctx]) ?_ fun covered => stored.covered k ▸ covered
    rw [State.planInEffect, ctx, stored.planEntry writes]
    rfl

theorem PurseOk.loadEnded {k : SignalId} {s : State} (h : PurseOk k s) (v : Parity) (id : TableId) (w : Validity) :
    PurseOk k (recomputeAll allSignals (endLoad v id w s)) := by
  have ctx := (recomputeAll_all_ctx k (endLoad v id w s)).trans (by rw [endLoad_ctx])
  have keeps := (works_recomputeAll allSignals (endLoad v id w s)).toSameConfig
  refine h.congr (by rw [ctx]) (by rw [ctx]) (by rw [ctx]) ?_ fun covered => ?_
  · rw [State.planInEffect, keeps.tables, (endLoad_keeps v id w s).1, ctx]
    rfl
  · rw [State.covered, keeps.load] at covered
    cases covered

/-! ## Every turn and every step -/

/-- The derived values, an open load's index and every purse are as the rules give them. -/
structure PursesOk (s : State) : Prop where
  derived : Derived s
  started : LoadStarted s
  purse : ∀ k, PurseOk k s

theorem Turn.purseOk {s t : State} (turn : Turn s t) (h : PursesOk s) (j : SignalId) : PurseOk j t := by
  have purse := h.purse j
  cases turn with
  | same config ctx => exact purse.same config (ctx j)
  | evaluated k s =>
    by_cases hj : j = k
    · subst hj
      exact purse.evaluated (h.derived.1 j)
    · exact purse.same (serves_evaluate k s).keeps ((serves_evaluate k s).ctxOther j hj)
  | @released k _ _ serves spent =>
    refine purse.served serves ?_
    by_cases hj : j = k
    · rw [hj, spent]
    · rw [serves.ctxOther j hj]
  | closed i reason s => exact purse.closed i reason
  | heard k p f s =>
    refine recompute_purse ?_
    by_cases hj : j = k
    · subst hj
      exact purse.heard p f
    · exact purse.same (statusTaken_keeps k p f s) (statusTaken_ctx_ne hj p f s)
  | expired fresh => exact recompute_purse (purse.expired fresh)
  | flagged k b s => exact recompute_purse (purse.congr rfl Iff.rfl rfl rfl id)
  | observed => exact purse.congr rfl Iff.rfl rfl rfl id
  | opened id start expected p => exact purse.opened id start expected p
  | moved load goes => exact purse.congr rfl Iff.rfl rfl rfl fun covered => covered_moved load goes j ▸ covered
  | storedFor stored writes => exact recompute_purse (purse.stored stored h.started)
  | storedElse stored => exact purse.stored stored h.started
  | ended v w load ends => exact purse.loadEnded v _ w
  | emptied s =>
    have ctx := corridorReset_ctx s j
    exact purseOk_of_unspent (by rw [ctx]; exact ⟨fun _ => rfl, fun _ => rfl⟩) (by rw [ctx]; rfl)

theorem Turn.purses {s t : State} (turn : Turn s t) (h : PursesOk s) : PursesOk t where
  derived := turn.derived h.derived
  started := turn.loadStarted h.started
  purse := turn.purseOk h

theorem purses_kept : ServiceKeeps PursesOk := serviceKeeps_of_turn Turn.purses

theorem purses_afterReset (s : State) (held : Bool) (own : Option (BitVec 6)) : PursesOk (afterReset s held own) := by
  have silent := silent_afterReset s held own
  refine ⟨derived_afterReset s held own, loadStarted_of_none silent.load, fun k => ?_⟩
  refine purseOk_of_unspent ?_ ?_ <;> rw [silent.ctx]
  · exact ⟨fun _ => rfl, fun _ => rfl⟩
  · rfl

/-- Settles O51: a charge keeps within the budget, every change of the plan in effect finds nothing spent or sets it to 0, and
an entry of the plan changes only while the open load has nothing spent at its signal. -/
theorem spentStaysWithinBudget : Obligations.SpentStaysWithinBudget := by
  rintro s t ⟨states, mode, -⟩ load taken budget ht
  have kept := purses_kept.step purses_afterReset
    (fun _ _ h => ⟨h.derived, h.started, fun k => (h.purse k).congr rfl Iff.rfl rfl rfl id⟩)
    (fun _ _ h => ⟨h.derived, h.started, fun k => (h.purse k).congr rfl Iff.rfl rfl rfl id⟩)
    (fun _ _ h => ⟨h.derived, h.started, fun k => (h.purse k).congr rfl Iff.rfl rfl rfl id⟩)
    ⟨⟨states, mode⟩, load.started, (purseOk_iff s).mpr ⟨taken, budget⟩⟩ ht
  exact (purseOk_iff t).mp kept.purse

end Sys2Proof.Machine
end

section
/-! The PLAN entries in force stay in their ranges, and with them every lockout count that a passage begins (R109, R142,
R169). -/

namespace Sys2Proof.Machine

/-! ## PLAN entries in their ranges (R142, R169) -/

/-- A signal's PLAN entries are being loaded. -/
def PlanLoading (s : State) (k : SignalId) : Prop := ∃ l, s.load = some l ∧ l.table = .plan ∧ l.covers k = true

/-- While the PLAN table is not INVALID, an in-use PLAN entry out of its ranges is one that is being loaded. -/
def PlansSound (s : State) : Prop :=
  s.validity.plan ≠ .invalid → ∀ (k : SignalId) (p : PlanId), flagSet (s.tables.planEntry k p).inUse = true →
    (s.tables.planEntry k p).rangesOk = true ∨ PlanLoading s k

theorem PlanLoading.covered {s : State} {k : SignalId} (h : PlanLoading s k) : s.covered k = true := by
  obtain ⟨l, load, -, covers⟩ := h
  rw [State.covered, load]
  exact covers

theorem PlanLoading.congr {s t : State} {k : SignalId} (h : PlanLoading s k) (load : t.load = s.load) :
    PlanLoading t k := by
  obtain ⟨l, hl, rest⟩ := h
  exact ⟨l, load.trans hl, rest⟩

theorem PlansSound.congr {s t : State} (h : PlansSound s) (tables : t.tables = s.tables)
    (validity : t.validity = s.validity) (load : t.load = s.load) : PlansSound t := by
  intro valid k p used
  rw [tables] at used ⊢
  exact (h (validity ▸ valid) k p used).imp_right fun loading => loading.congr load

theorem PlansSound.same {s t : State} (h : PlansSound s) (config : SameConfig s t) : PlansSound t :=
  h.congr config.tables config.validity config.load

/-- A check of the PLAN table that fails nowhere puts every in-use entry in its ranges (row 4 of R169). -/
theorem rangesOk_of_check {t : TableStore} (h : checkPlanRanges t = none) (k : SignalId) (p : PlanId)
    (used : flagSet (t.planEntry k p).inUse = true) : (t.planEntry k p).rangesOk = true :=
  (planRangesOk_iff _).mpr
    ((checkPlanRanges_reports none t).1.mp h (planIndex k p).val (planIndex k p) rfl ((flagSet_iff _).mp used))

/-- The CLOSE of the PLAN table makes the check of its ranges. -/
theorem checkPlanRanges_of_closed {s : State} (h : firstFailedCheck .plan s = none) : checkPlanRanges s.tables = none := by
  have row := List.findSome?_eq_none_iff.mp h ⟨[.plan], .plan, checkPlanRanges s.tables⟩ (by simp [checkRows])
  simpa [CheckRow.applies] using row

theorem ValidTablesPass.planRanges {s : State} (h : ValidTablesPass s) (valid : s.validity.plan = .valid) :
    checkPlanRanges s.tables = none :=
  h ⟨[.plan], .plan, checkPlanRanges s.tables⟩ (by simp [checkRows]) (by simpa [Validities.get] using valid)

/-- A VALID table has passed its check, and a RELOADING one is being loaded. -/
theorem plansSound_of_inForce {s : State} (load : LoadOk s) (pass : ValidTablesPass s) (h : PlansInForceOk s) :
    PlansSound s := by
  intro invalid k p used
  cases hv : s.validity.plan with
  | invalid => exact absurd hv invalid
  | valid => exact .inl (rangesOk_of_check (pass.planRanges hv) k p used)
  | reloading =>
    obtain ⟨l, hl, table⟩ := Option.map_eq_some_iff.mp (load.2 .plan hv)
    cases hk : s.covered k with
    | false => exact .inl (h invalid k p hk used)
    | true =>
      rw [State.covered, hl] at hk
      exact .inr ⟨l, hl, table, hk⟩

theorem PlansSound.inForce {s : State} (h : PlansSound s) : PlansInForceOk s := by
  intro valid k p uncovered used
  refine (h valid k p used).resolve_right fun loading => ?_
  rw [loading.covered] at uncovered
  cases uncovered

/-- A stored entry out of its ranges is one of the PLAN load that stores it. -/
theorem PlansSound.stored {l : LoadContext} {bytes : List Byte} {s t : State} (h : PlansSound s)
    (stored : EntryStored l bytes s t) (started : LoadStarted s) : PlansSound t := by
  intro valid k p used
  have load : t.load = s.load := stored.config.load
  by_cases own : l.table = .plan ∧ l.writeIndex / 2 = k.val
  · exact .inr ⟨l, load.trans stored.load, own.1, stored.covers started (.inr own)⟩
  · rw [stored.config.tables] at used ⊢
    rw [TableStore.planEntry_storeEntry_ne _ _ own] at used ⊢
    exact (h (stored.config.validity ▸ valid) k p used).imp_right fun loading => loading.congr load

theorem PlansSound.opened {s : State} (h : PlansSound s) (none : s.load = none) (id : TableId) (start expected : Nat)
    (p : PortId) : PlansSound (openLoad id start expected p s) := by
  have keeps := suspended_keeps id start expected p s
  intro valid k q used
  have before : s.validity.plan ≠ .invalid := by
    intro invalid
    refine valid ((congrArg Validities.plan keeps.validity).trans ?_)
    cases id <;> simp only [loadOpened, Validities.set, Validities.get, invalid, openedValidity]
  have tables : (openLoad id start expected p s).tables = s.tables := keeps.tables
  rw [tables] at used ⊢
  refine (h before k q used).imp_right fun ⟨l, load, _⟩ => ?_
  rw [none] at load
  cases load

/-- The end of a load leaves the PLAN table INVALID, checked, or as it was (R159, R168, R170). -/
theorem PlansSound.loadEnded {s : State} (h : PlansSound s) {l : LoadContext} (load : s.load = some l) {w : Validity}
    (ends : EndsAs l.table w s) (v : Parity) : PlansSound (endLoad v l.table w s) := by
  have validity : (endLoad v l.table w s).validity = s.validity.set l.table w := rfl
  intro valid k p used
  rw [(endLoad_keeps v l.table w s).1] at used ⊢
  refine .inl ?_
  rw [validity] at valid
  by_cases table : l.table = .plan
  · rw [table] at valid ends
    obtain rfl | ⟨-, passed⟩ := ends
    · exact absurd rfl valid
    · exact rangesOk_of_check (checkPlanRanges_of_closed passed) k p used
  · have same : (s.validity.set l.table w).plan = s.validity.plan :=
      Validities.get_set_ne s.validity (other := .plan) w (Ne.symm table)
    refine (h (same ▸ valid) k p used).resolve_right fun ⟨m, hm, loading, _⟩ => table ?_
    rw [load] at hm
    cases hm
    exact loading

theorem PlansSound.emptied {s : State} (h : PlansSound s) : PlansSound (corridorReset s) := by
  refine PlansSound.same ?_ (corridorReset_keeps s)
  cases load : s.load with
  | none => rwa [abandonOpenLoad_none load]
  | some l =>
    rw [abandonOpenLoad_some load]
    exact h.loadEnded load (.inl rfl) _

theorem Turn.plansSound {s t : State} (turn : Turn s t) (started : LoadStarted s) (h : PlansSound s) : PlansSound t := by
  cases turn with
  | same config => exact h.same config
  | evaluated k s => exact h.same (serves_evaluate k s).keeps
  | released serves => exact h.same serves.keeps
  | closed i reason s => exact h.same (closeRecord_keeps i reason s)
  | heard k p f s => exact h.same ((statusTaken_keeps k p f s).trans (recompute_keeps k _))
  | expired => exact h.same ((setCtx_keeps _ _ _).trans (recompute_keeps _ _))
  | flagged k b s => exact (h.congr (t := s.setDisabled k b) rfl rfl rfl).same (recompute_keeps k _)
  | observed => exact h.congr rfl rfl rfl
  | opened id start expected p none => exact h.opened none id start expected p
  | moved load goes =>
    refine fun valid k p used => (h valid k p used).imp_right fun ⟨l, hl, table, covers⟩ => ?_
    rw [load] at hl
    cases hl
    exact ⟨_, rfl, goes.table.trans table, (goes.covers k).trans covers⟩
  | storedFor stored writes => exact (h.stored stored started).same (recompute_keeps _ _)
  | storedElse stored => exact h.stored stored started
  | ended v w load ends => exact (h.loadEnded load ends v).same (works_recomputeAll allSignals _).toSameConfig
  | emptied => exact h.emptied

/-! ## The lockout of a holder's passage (R109) -/

/-- A signal's PLAN entries are in force: no open load covers it, plan A is in use, and its in-use entries are in their
ranges (R142). -/
structure PlansHold (k : SignalId) (s : State) : Prop where
  uncovered : s.covered k = false
  planA : flagSet (s.tables.planEntry k .a).inUse = true
  ranges : ∀ p, flagSet (s.tables.planEntry k p).inUse = true → (s.tables.planEntry k p).rangesOk = true

theorem PlansHold.congr {k : SignalId} {s t : State} (h : PlansHold k s) (covered : t.covered k = s.covered k)
    (plans : ∀ p, t.tables.planEntry k p = s.tables.planEntry k p) : PlansHold k t where
  uncovered := covered.trans h.uncovered
  planA := by rw [plans]; exact h.planA
  ranges p used := by
    rw [plans] at used ⊢
    exact h.ranges p used

theorem PlansHold.same {k : SignalId} {s t : State} (h : PlansHold k s) (config : SameConfig s t) : PlansHold k t :=
  h.congr (by simp only [State.covered, config.load]) fun p => by rw [config.tables]

/-- A signal that takes service has its PLAN entries in force (R111). -/
theorem PlansSound.hold {s : State} (h : PlansSound s) {k : SignalId} (served : ¬ (serviceState k s).unserved) :
    PlansHold k s := by
  unfold serviceState ServiceState.unserved at served
  split_ifs at served with configured covered
  · exact absurd (.inl rfl) served
  · exact absurd (.inr rfl) served
  all_goals
    simp only [Bool.or_eq_true, Bool.not_eq_true', not_or, Bool.not_eq_false, Bool.not_eq_true] at configured covered
    obtain ⟨⟨-, planA⟩, valid⟩ := configured
    have loaded : s.validity.plan ≠ .invalid := fun invalid => by simp [Validities.anyInvalid, invalid] at valid
    refine ⟨covered, planA, fun p used => (h loaded k p used).resolve_right fun loading => ?_⟩
    rw [loading.covered] at covered
    cases covered

/-- The plan whose lockout cycles apply is one in force. -/
theorem PlansHold.lockoutCycles {k : SignalId} {s : State} (h : PlansHold k s) :
    (s.fallbackPlan k).lockoutCycles.toNat ≤ 7 := by
  have bound (p : PlanId) (used : flagSet (s.tables.planEntry k p).inUse = true) :
      (s.tables.planEntry k p).lockoutCycles.toNat ≤ 7 := by
    obtain ⟨-, -, -, -, -, -, -, cycles, -⟩ := (planRangesOk_iff _).mp (h.ranges p used)
    exact cycles
  unfold State.fallbackPlan
  split
  · next used => exact bound _ used
  · exact bound _ h.planA

/-- A signal that takes no service takes no holder when it evaluates (R122). -/
theorem evaluate_holder_unserved {k : SignalId} {s : State} (h : (s.ctx k).state.unserved)
    (after : ((evaluate k s).ctx k).holder ≠ none) : (s.ctx k).holder ≠ none := by
  have serve : ((evaluate k s).ctx k).holder = ((settleHolder k s).ctx k).holder :=
    (accounts_serveHolder k _).holder k
  rw [serve] at after
  obtain ⟨-, e⟩ | ⟨i, r, -, ⟨-, e⟩ | ⟨-, e⟩ | ⟨j, q, taken, -⟩⟩ := settleHolder_cases k s
  · rw [e, candidate_unserved h] at after
    exact after
  · rwa [e] at after
  · rw [e] at after
    exact absurd (giveUp_holder k s).1 after
  · rw [candidate_unserved h] at taken
    cases taken

/-- A signal's lockout count is in its range, and so is the count that its holder's passage would begin (R109). -/
structure LockoutSound (k : SignalId) (s : State) : Prop where
  held : (s.ctx k).holder ≠ none → PlansHold k s
  count : (s.ctx k).lockout ≤ 7

theorem LockoutSound.congr {k : SignalId} {s t : State} (h : LockoutSound k s)
    (holder : (t.ctx k).holder ≠ none → (s.ctx k).holder ≠ none) (count : (t.ctx k).lockout ≤ (s.ctx k).lockout)
    (plans : PlansHold k s → PlansHold k t) : LockoutSound k t where
  held ht := plans (h.held (holder ht))
  count := count.trans h.count

theorem LockoutSound.same {k : SignalId} {s t : State} (h : LockoutSound k s) (config : SameConfig s t)
    (holder : (t.ctx k).holder = (s.ctx k).holder) (count : (t.ctx k).lockout ≤ (s.ctx k).lockout) : LockoutSound k t :=
  h.congr (by rw [holder]; exact id) count fun plans => plans.same config

theorem lockoutSound_of_free {k : SignalId} {s : State} (holder : (s.ctx k).holder = none) (count : (s.ctx k).lockout = 0) :
    LockoutSound k s :=
  ⟨fun held => absurd holder held, count ▸ Nat.zero_le _⟩

theorem recompute_lockoutSound {k j : SignalId} {s : State} (h : LockoutSound j s) : LockoutSound j (recompute k s) := by
  refine h.same (recompute_keeps k s) (recompute_holder k j s) ?_
  rw [recompute_ctx]
  split <;> exact le_rfl

theorem LockoutSound.evaluated {k : SignalId} {s : State} (h : LockoutSound k s) (plans : PlansSound s)
    (state : (s.ctx k).state = serviceState k s) : LockoutSound k (evaluate k s) where
  held after := by
    refine PlansHold.same ?_ (serves_evaluate k s).keeps
    by_cases unserved : (serviceState k s).unserved
    · exact h.held (evaluate_holder_unserved (state ▸ unserved) after)
    · exact plans.hold unserved
  count := (serves_evaluate k s).evaluated.lockout k ▸ h.count

theorem LockoutSound.closed {k : SignalId} {s : State} (h : LockoutSound k s) (i : SlotId) (reason : ClosureReason) :
    LockoutSound k (closeRecord i reason s) := by
  cases hr : s.record i with
  | none => rwa [closeRecord_free i reason s hr]
  | some r =>
    constructor
    · rw [closeRecord_holder hr]
      intro held
      split at held
      · exact absurd rfl held
      · exact (h.held held).same (closeRecord_keeps i reason s)
    · rw [closeRecord_lockout hr]
      unfold lockoutAfter
      split
      · split
        · next begins =>
          simp only [Bool.and_eq_true, decide_eq_true_eq] at begins
          obtain ⟨⟨⟨holder, -⟩, -⟩, -⟩ := begins
          exact (h.held (by rw [holder]; exact Option.some_ne_none i)).lockoutCycles
        · exact h.count
      · exact h.count

theorem LockoutSound.heard {k j : SignalId} {s : State} (h : LockoutSound j s) (p : PlanId) (f : SignalStatus) :
    LockoutSound j (statusTaken k p f s) := by
  have keeps := statusTaken_keeps k p f s
  by_cases hj : j = k
  · subst hj
    have ctx := statusTaken_ctx_self j p f s
    refine h.same keeps (by rw [ctx, withStatus_holder]) ?_
    rw [ctx, withStatus_lockout]
    split
    · exact Nat.sub_le _ _
    · exact le_rfl
  · have ctx := statusTaken_ctx_ne hj p f s
    exact h.same keeps (by rw [ctx]) (by rw [ctx])

theorem LockoutSound.stored {k : SignalId} {l : LoadContext} {bytes : List Byte} {s t : State} (h : LockoutSound k s)
    (stored : EntryStored l bytes s t) (started : LoadStarted s) : LockoutSound k t := by
  have ctx := stored.ctx k
  refine h.congr (by rw [ctx]; exact id) (by rw [ctx]) fun plans => plans.congr (stored.covered k) (stored.planEntry ?_)
  intro writes
  have covered := stored.coveredOwn started writes
  rw [plans.uncovered] at covered
  cases covered

theorem LockoutSound.opened {k : SignalId} {s : State} (h : LockoutSound k s) (id : TableId) (start expected : Nat)
    (p : PortId) : LockoutSound k (openLoad id start expected p s) := by
  have ctx := openLoad_ctx id start expected p s k
  have tables := (suspended_keeps id start expected p s).tables
  cases hk : (openContext id start expected p).covers k with
  | true =>
    rw [hk, if_pos rfl] at ctx
    exact lockoutSound_of_free (by rw [ctx]; rfl) (by rw [ctx]; rfl)
  | false =>
    rw [hk, if_neg Bool.false_ne_true] at ctx
    refine h.congr (by rw [ctx]; exact fun held => held) (by rw [ctx]) fun plans => ?_
    refine plans.congr ?_ fun q => congrArg (fun t : TableStore => t.planEntry k q) tables
    rw [openLoad_covered, hk, plans.uncovered]

/-- The end of a load covers no signal any more, and changes no holder and no lockout count. -/
theorem LockoutSound.loadEnded {k : SignalId} {s : State} (h : LockoutSound k s) (v : Parity) (id : TableId) (w : Validity) :
    LockoutSound k (recomputeAll allSignals (endLoad v id w s)) := by
  have ctx := (recomputeAll_all_ctx k (endLoad v id w s)).trans (by rw [endLoad_ctx])
  have keeps := (works_recomputeAll allSignals (endLoad v id w s)).toSameConfig
  refine h.congr (by rw [ctx]; exact fun held => held) (by rw [ctx]) fun plans => plans.congr ?_ fun p => ?_
  · rw [State.covered, keeps.load, plans.uncovered]
    rfl
  · rw [keeps.tables, (endLoad_keeps v id w s).1]

/-! ## Every turn and every step -/

/-- The derived values, the open load's index, the PLAN entries and the lockouts are as the rules give them. -/
structure LockoutsOk (s : State) : Prop where
  derived : Derived s
  started : LoadStarted s
  plans : PlansSound s
  lockout : ∀ k, LockoutSound k s

theorem Turn.lockoutSound {s t : State} (turn : Turn s t) (h : LockoutsOk s) (j : SignalId) : LockoutSound j t := by
  have sound := h.lockout j
  cases turn with
  | same config ctx => exact sound.same config (by rw [ctx]) (by rw [ctx])
  | evaluated k s =>
    by_cases hj : j = k
    · subst hj
      exact sound.evaluated h.plans (h.derived.1 j)
    · have ctx := (serves_evaluate k s).ctxOther j hj
      exact sound.same (serves_evaluate k s).keeps (by rw [ctx]) (by rw [ctx])
  | @released k _ _ serves _ holder =>
    refine sound.congr (fun held => ?_) (serves.evaluated.lockout j).le fun plans => plans.same serves.keeps
    by_cases hj : j = k
    · subst hj
      exact holder.elim (fun none => absurd none held) fun same => same ▸ held
    · rwa [serves.ctxOther j hj] at held
  | closed i reason s => exact sound.closed i reason
  | heard k p f s => exact recompute_lockoutSound (sound.heard p f)
  | @expired k s t fresh =>
    refine recompute_lockoutSound ?_
    by_cases hj : j = k
    · subst hj
      have ctx := State.ctx_setCtx_self s j { s.ctx j with freshness := .stale }
      exact sound.same (setCtx_keeps j _ s) (by rw [ctx]) (by rw [ctx])
    · have ctx := State.ctx_setCtx_ne s { s.ctx k with freshness := .stale } hj
      exact sound.same (setCtx_keeps k _ s) (by rw [ctx]) (by rw [ctx])
  | flagged k b s =>
    exact recompute_lockoutSound (sound.congr id le_rfl fun plans => plans.congr rfl fun _ => rfl)
  | observed => exact sound.congr id le_rfl fun plans => plans.congr rfl fun _ => rfl
  | opened id start expected p => exact sound.opened id start expected p
  | moved load goes =>
    exact sound.congr id le_rfl fun plans => plans.congr (covered_moved load goes j) fun _ => rfl
  | storedFor stored writes => exact recompute_lockoutSound (sound.stored stored h.started)
  | storedElse stored => exact sound.stored stored h.started
  | ended v w load ends => exact sound.loadEnded v _ w
  | emptied s =>
    have ctx := corridorReset_ctx s j
    exact lockoutSound_of_free (by rw [ctx]; rfl) (by rw [ctx]; rfl)

theorem Turn.lockouts {s t : State} (turn : Turn s t) (h : LockoutsOk s) : LockoutsOk t where
  derived := turn.derived h.derived
  started := turn.loadStarted h.started
  plans := turn.plansSound h.started h.plans
  lockout := turn.lockoutSound h

theorem LockoutsOk.congr {s t : State} (h : LockoutsOk s) (derived : Derived s → Derived t) (config : t.tables = s.tables ∧
    t.validity = s.validity ∧ t.load = s.load) (ctx : t.ctxs = s.ctxs) : LockoutsOk t := by
  obtain ⟨tables, validity, load⟩ := config
  refine ⟨derived h.derived, h.started.of_load load, h.plans.congr tables validity load, fun k => ?_⟩
  have same : t.ctx k = s.ctx k := by simp only [State.ctx, ctx]
  refine (h.lockout k).congr (by rw [same]; exact id) (by rw [same]) fun plans => ?_
  exact plans.congr (by simp only [State.covered, load]) fun p => by rw [tables]

theorem lockouts_kept : ServiceKeeps LockoutsOk := serviceKeeps_of_turn Turn.lockouts

theorem lockouts_afterReset (s : State) (held : Bool) (own : Option (BitVec 6)) : LockoutsOk (afterReset s held own) := by
  have silent := silent_afterReset s held own
  refine ⟨derived_afterReset s held own, loadStarted_of_none silent.load, fun valid => ?_, fun k => ?_⟩
  · exact absurd (congrArg Validities.plan silent.validity) valid
  · refine lockoutSound_of_free ?_ ?_ <;> rw [silent.ctx] <;> rfl

/-- Settles O56: a holder's signal takes service, so the plan that its passage is measured by is in force and in range. -/
theorem lockoutNeverExceedsSeven : Obligations.LockoutNeverExceedsSeven := by
  rintro s t ⟨states, mode, -⟩ load pass - holders inForce lockout ht
  have plans := plansSound_of_inForce load pass inForce
  have held (k : SignalId) (hk : (s.ctx k).holder ≠ none) : PlansHold k s :=
    plans.hold fun unserved => hk (holders k (states k ▸ unserved))
  have kept := lockouts_kept.step lockouts_afterReset (fun _ _ h => h.congr id ⟨rfl, rfl, rfl⟩ rfl)
    (fun _ _ h => h.congr id ⟨rfl, rfl, rfl⟩ rfl) (fun _ _ h => h.congr id ⟨rfl, rfl, rfl⟩ rfl)
    ⟨⟨states, mode⟩, load.started, plans, fun k => ⟨held k, lockout k⟩⟩ ht
  exact ⟨kept.plans.inForce, fun k => (kept.lockout k).count⟩

end Sys2Proof.Machine
end

section
/-! QUERY STATUS and QUERY SIGNAL: the fields of their replies (R118, R175, R176, R184, R186). -/

namespace Sys2Proof.Machine

/-! ## QUERY STATUS -/

section
variable (s : State)

theorem statusData_ports :
    halfAt (0x60 :: statusData s) 9 = BitVec.ofNat 16 s.west.badFrames ∧
      halfAt (0x60 :: statusData s) 11 = BitVec.ofNat 16 s.west.repeatDrops ∧
      halfAt (0x60 :: statusData s) 15 = BitVec.ofNat 16 s.east.badFrames ∧
      halfAt (0x60 :: statusData s) 17 = BitVec.ofNat 16 s.east.repeatDrops :=
  ⟨halfBytes_high _, halfBytes_high _, halfBytes_high _, halfBytes_high _⟩

theorem statusData_disabled : halfAt (0x60 :: statusData s) 27 = signalMask s.isDisabled := halfBytes_high _

end

theorem actQueryStatus_eq (s : State) : actQueryStatus [] s = (s, acceptWith 0x60 (statusData s)) := by
  rw [actQueryStatus, needLength_right 0x60 0 [] _ _ rfl]

/-! ## QUERY SIGNAL -/

/-- A present estimate is below its absence code, whatever the cycle length. -/
theorem cycleEstimate_lt {k : SignalId} {s : State} {n : Nat} (h : cycleEstimate k s = some n) : n < 0xFFFF := by
  have below (x : Nat) (cycle : Half) : cycleMod x cycle.toNat < 0xFFFF := by
    unfold cycleMod
    split
    · exact Fin.isLt _
    · have small := Nat.mod_lt x (Nat.pos_of_ne_zero ‹_›)
      have wide := cycle.isLt
      omega
  unfold cycleEstimate at h
  split at h
  · cases h
  · cases h
  · split at h
    · cases h
      exact below _ _
    · cases h

/-- The number that two bytes carry for an estimate. -/
def estimateField : Option Nat → Half
  | none => 0xFFFF
  | some c => BitVec.ofNat 16 c

theorem estimateBytes_eq (o : Option Nat) : estimateBytes o = halfBytes (estimateField o) := by
  cases o <;> rfl

theorem holderBytes_eq (o : Option (SlotId × RequestRecord)) :
    holderBytes o = [outcomeCode (o.bind fun x => x.2.lastOutcome), flagByte (o.any fun x => x.2.partialFlag)] := by
  cases o <;> rfl

theorem callBytes_length (o : Option CallContent) : (callBytes o).length = 9 := by
  cases o <;> rfl

/-- The bytes of a QUERY SIGNAL reply before its call content. -/
def signalFront (k : SignalId) (s : State) : List Byte :=
  0x61 :: timeBytes s.clock ++
    [byteOf k.val, (s.ctx k).state.code, (s.ctx k).freshness.code,
      byteOf (freshnessLeft s.clock (s.ctx k).freshness), (s.ctx k).plan.code] ++
    halfBytes (estimateField (cycleEstimate k s)) ++
    [flagByte (s.ctx k).accepting, (s.ctx k).service.code, byteOf (s.ctx k).lockout, byteOf (s.ctx k).spent,
      flagByte (s.isDisabled k), optByte (fun i => byteOf i.val) (s.ctx k).holder,
      outcomeCode ((s.holderOf k).bind fun x => x.2.lastOutcome), flagByte ((s.holderOf k).any fun x => x.2.partialFlag),
      flagByte (s.ctx k).call.isSome]

theorem signalData_eq (k : SignalId) (s : State) :
    0x61 :: signalData k s =
      signalFront k s ++ callBytes (s.ctx k).call ++ [byteOf (s.ctx k).refreshCount] := by
  rw [signalData, estimateBytes_eq, holderBytes_eq]
  simp only [signalFront, List.cons_append, List.nil_append, List.append_assoc]

section
variable (k : SignalId) (s : State)

theorem signalData_length : (0x61 :: signalData k s).length = 31 := by
  rw [signalData_eq, List.length_append, List.length_append, callBytes_length]
  rfl

/-- A byte before the call content. -/
theorem signalData_front {i : Nat} (h : i < 21) : byteAt (0x61 :: signalData k s) i = byteAt (signalFront k s) i := by
  rw [signalData_eq, List.append_assoc]
  exact List.getD_append _ _ _ _ h

theorem signalData_take : (0x61 :: signalData k s).take 5 = 0x61 :: timeBytes s.clock := by
  rw [signalData_eq, List.append_assoc]
  rfl

theorem signalData_estimate : halfAt (0x61 :: signalData k s) 10 = estimateField (cycleEstimate k s) := by
  rw [halfAt, signalData_front k s (by decide), signalData_front k s (by decide)]
  exact halfBytes_high _

theorem signalData_holder :
    byteAt (0x61 :: signalData k s) 17 = optByte (fun i => byteOf i.val) (s.ctx k).holder ∧
      byteAt (0x61 :: signalData k s) 18 = outcomeCode ((s.holderOf k).bind fun x => x.2.lastOutcome) ∧
      byteAt (0x61 :: signalData k s) 19 = flagByte ((s.holderOf k).any fun x => x.2.partialFlag) :=
  ⟨signalData_front k s (by decide), signalData_front k s (by decide), signalData_front k s (by decide)⟩

theorem signalData_call : ((0x61 :: signalData k s).drop 21).take 9 = callBytes (s.ctx k).call := by
  have front : (signalFront k s).length = 21 := rfl
  rw [signalData_eq, List.append_assoc, List.drop_left' front, List.take_left' (callBytes_length _)]

theorem signalData_count : byteAt (0x61 :: signalData k s) 30 = byteOf (s.ctx k).refreshCount := by
  have front : (signalFront k s ++ callBytes (s.ctx k).call).length = 30 := by
    rw [List.length_append, callBytes_length]
    rfl
  rw [signalData_eq, byteAt, List.getD_append_right _ _ _ _ front.le, front]
  rfl

end

theorem actQuerySignal_eq {b : Byte} {k : SignalId} (h : b.toNat = k.val) (s : State) :
    actQuerySignal [b] s = (s, acceptWith 0x61 (signalData k s)) := by
  rw [actQuerySignal, needLength_right 0x61 1 [b] _ _ rfl]
  show (match indexBelow 16 b.toNat with | none => _ | some k => _) = _
  rw [h, indexBelow_lt k.isLt]

theorem indexBelow_of_le {n i : Nat} (h : n ≤ i) : indexBelow n i = none := dif_neg (Nat.not_lt.mpr h)

theorem actQuerySignal_refused {b : Byte} (h : 15 < b.toNat) (s : State) :
    actQuerySignal [b] s = (s, refuseWith 0x61 .badValue) := by
  rw [actQuerySignal, needLength_right 0x61 1 [b] _ _ rfl]
  show (match indexBelow 16 b.toNat with | none => _ | some k => _) = _
  rw [indexBelow_of_le h]

/-- Settles O15: each field is read off the reply's layout. -/
theorem statusAndSignalQueries : Obligations.StatusAndSignalQueries := by
  refine ⟨fun p src s h => ?_, fun p src b s k h hb => ?_, fun p src b s h hb => ?_⟩
  · obtain ⟨westBad, westDrops, eastBad, eastDrops⟩ := statusData_ports s
    refine ⟨0x60 :: statusData s, exec_answered (r := ⟨p, src, 0x60, []⟩) rfl h (actQueryStatus_eq s), rfl, rfl, rfl,
      rfl, rfl, rfl, westBad, westDrops, rfl, rfl, eastBad, eastDrops, rfl, rfl, rfl, rfl, rfl, rfl, fun hl => ?_,
      fun l hl => ?_, fun k => ?_, rfl, rfl⟩
    · exact ⟨congrArg (optByte _) hl, congrArg (optByte _) hl⟩
    · exact ⟨congrArg (optByte _) hl, congrArg (optByte _) hl⟩
    · rw [statusData_disabled, signalMask_getLsbD]
  · have front {i : Nat} (hi : i < 21) := signalData_front k s hi
    have call := signalData_call k s
    have holder := signalData_holder k s
    have place : byteOf k.val = b := by rw [← hb, byteOf, BitVec.ofNat_toNat, BitVec.setWidth_eq]
    refine ⟨0x61 :: signalData k s, exec_answered (r := ⟨p, src, 0x61, [b]⟩) rfl h (actQuerySignal_eq hb s),
      signalData_length k s, signalData_take k s, (front (by decide)).trans place, front (by decide), front (by decide),
      fun t ht => ?_, fun ht => ?_, front (by decide), fun hn => ?_, fun n hn => ?_, front (by decide),
      front (by decide), front (by decide), front (by decide), front (by decide), fun hh => ?_, fun i r hi hr => ?_,
      front (by decide), fun hc => ?_, fun c hc => ?_, signalData_count k s⟩
    · rw [front (by decide)]
      exact congrArg (fun f => byteOf (freshnessLeft s.clock f)) ht
    · rw [front (by decide)]
      show byteOf (freshnessLeft s.clock (s.ctx k).freshness) = 0
      cases hf : (s.ctx k).freshness with
      | fresh t => exact absurd hf (ht t)
      | never => rfl
      | stale => rfl
    · rw [signalData_estimate, hn]
      rfl
    · have small := cycleEstimate_lt hn
      rw [signalData_estimate, hn, estimateField, BitVec.toNat_ofNat, Nat.mod_eq_of_lt (by omega)]
      exact ⟨rfl, small⟩
    · rw [hh, holderOf_none hh] at holder
      exact holder
    · rw [hi, holderOf_some hi hr] at holder
      exact holder
    · rw [call, hc]
      rfl
    · rw [call, hc]
      rfl
  · exact exec_answered (r := ⟨p, src, 0x61, [b]⟩) rfl h (actQuerySignal_refused hb s)

end Sys2Proof.Machine
end

section
/-! FRESHNESS_EXPIRY (R102, R103, R113), and what a signal that is not READY asks for (R126). -/

namespace Sys2Proof.Machine

/-! ## A signal that is not READY has no call after its evaluation -/

/-- Once its holder is settled, a signal without a holder has no call. -/
theorem settleHolder_callHeld {k : SignalId} {s : State} (hs : HoldersOk s)
    (held : (s.ctx k).holder = none → (s.ctx k).call = none) (free : ((settleHolder k s).ctx k).holder = none) :
    ((settleHolder k s).ctx k).call = none := by
  obtain ⟨hk, e⟩ | ⟨i, r, -, ⟨-, e⟩ | ⟨-, e⟩ | ⟨j, q, -, -, e⟩⟩ := settleHolder_cases k s <;> rw [e] at free ⊢
  · have before := hs.holderOf_none hk
    rw [takeCandidate_holder before, Option.map_eq_none_iff] at free
    rw [free]
    exact held before
  · exact held free
  · exact (giveUp_holder k s).2
  · rw [takeHolding_holder] at free
    cases free

/-- An outcome that asks for nothing withdraws the call. -/
theorem serveHolder_withdraws {k : SignalId} {s : State} (held : s.holderOf k = none → (s.ctx k).call = none)
    (asks : ∀ r, ∃ o, holderOutcome k r s = some o ∧ o.1.asks = none) : ((serveHolder k s).ctx k).call = none := by
  unfold serveHolder
  split
  · next none => exact held none
  · next i r _ =>
    obtain ⟨o, outcome, nothing⟩ := asks r
    rw [outcome]
    dsimp only
    rw [actOnOutcome, nothing]
    exact generateCancel_call k _

/-- A signal that takes service and is not READY defers (R126). -/
theorem holderOutcome_defers {k : SignalId} {s : State} (unready : (s.ctx k).state ≠ .ready)
    (served : ¬ (s.ctx k).state.unserved) (r : RequestRecord) :
    ∃ o, holderOutcome k r s = some o ∧ o.1.asks = none := by
  unfold holderOutcome
  cases h : (s.ctx k).state with
  | ready => exact absurd h unready
  | unconfigured => exact absurd (.inl h) served
  | suspended => exact absurd (.inr h) served
  | _ => exact ⟨_, rfl, rfl⟩

theorem evaluate_unready {k : SignalId} {s : State} (hs : HoldersOk s) (unready : (s.ctx k).state ≠ .ready)
    (held : (s.ctx k).holder = none → (s.ctx k).call = none) : ((evaluate k s).ctx k).call = none := by
  by_cases served : (s.ctx k).state.unserved
  · refine (evaluate_releases served (fun i hi => ?_) fun hcall => ?_).2
    · obtain ⟨r, hr, -⟩ := hs.holder hi
      rw [hr]
      rfl
    · by_contra none
      rw [held (Option.not_isSome_iff_eq_none.mp none)] at hcall
      cases hcall
  · have settled := (serves_settleHolder k s).state k
    have holders : HoldersOk (settleHolder k s) := holdersOk_settleHolder hs k
    refine serveHolder_withdraws (fun none => settleHolder_callHeld hs held (holders.holderOf_none none)) ?_
    exact holderOutcome_defers (settled ▸ unready) (settled ▸ served)

/-! ## A context that grows stale -/

/-- The context of a signal at its freshness expiry (R103). -/
def madeStale (k : SignalId) (s : State) : State := s.setCtx k { s.ctx k with freshness := .stale }

theorem madeStale_ctx (k : SignalId) (s : State) :
    (madeStale k s).ctx k = { s.ctx k with freshness := .stale } := State.ctx_setCtx_self s k _

/-- The service state of a signal whose status is no longer FRESH (R111). -/
def ServiceState.withoutStatus : ServiceState → ServiceState
  | .inhibited | .lockout | .ready => .noStatus
  | x => x

/-- The rows of R111 from NO_STATUS on give NO_STATUS without a FRESH status. -/
theorem withoutStatus_rows (unused covered disabled fresh barred locked : Bool) :
    (if unused then .unconfigured else if covered then .suspended else if disabled then .disabled
      else if !fresh then .noStatus else if barred then .inhibited else if locked then .lockout
      else .ready : ServiceState).withoutStatus =
    if unused then .unconfigured else if covered then .suspended else if disabled then .disabled else .noStatus := by
  cases unused with
  | true => rfl
  | false =>
    cases covered with
    | true => rfl
    | false =>
      cases disabled with
      | true => rfl
      | false => cases fresh <;> cases barred <;> cases locked <;> rfl

theorem serviceState_madeStale (k : SignalId) (s : State) :
    serviceState k (madeStale k s) = (serviceState k s).withoutStatus := by
  have keeps : SameConfig s (madeStale k s) := setCtx_keeps k _ s
  have stale : (!Freshness.stale.isFresh) = true := rfl
  have rows := withoutStatus_rows (!flagSet (s.signalEntry k).inUse || !flagSet (s.tables.planEntry k .a).inUse ||
    s.validity.anyInvalid) (s.covered k) (s.isDisabled k) (s.ctx k).freshness.isFresh
    (!(s.ctx k).accepting || !flagSet (s.planInEffect k).inUse) (decide (0 < (s.ctx k).lockout))
  simp only [decide_eq_true_eq] at rows
  rw [serviceState, serviceState, rows, madeStale_ctx, State.signalEntry, State.covered, State.isDisabled, keeps.tables,
    keeps.validity, keeps.load, keeps.disabled, stale, if_pos rfl]
  rfl

theorem withoutStatus_ne_ready (x : ServiceState) : x.withoutStatus ≠ .ready := by
  cases x <;> decide

/-- The end of a FRESH status, up to the evaluation that follows. -/
def expired (k : SignalId) (s : State) : State := recompute k (madeStale k s)

theorem takeFreshnessExpiry_due {k : SignalId} {s : State} (h : Due s (.freshnessExpiry k)) :
    takeFreshnessExpiry k s = evaluate k (expired k s) := if_pos ((freshnessDue_iff s k).mpr h)

theorem takeFreshnessExpiry_early {k : SignalId} {s : State} (h : ¬ Due s (.freshnessExpiry k)) :
    takeFreshnessExpiry k s = s := if_neg fun due => h ((freshnessDue_iff s k).mp due)

theorem exec_freshnessExpiry (k : SignalId) (s : State) :
    exec (.freshnessExpiry k) s = .next (event (takeFreshnessExpiry k) s) := rfl

theorem expired_ctx (k : SignalId) (s : State) :
    (expired k s).ctx k =
      { s.ctx k with freshness := .stale, state := (serviceState k s).withoutStatus } := by
  rw [expired, recompute_ctx_self, serviceState_madeStale, madeStale_ctx]

theorem works_expired (k : SignalId) (s : State) : Works s (expired k s) :=
  (works_setCtx k _ s).trans (works_recompute k _)

theorem holdersOk_expired {s : State} (h : HoldersOk s) (k : SignalId) : HoldersOk (expired k s) :=
  holdersOk_recompute (holdersOk_setCtx (c := { s.ctx k with freshness := .stale }) h rfl) k

theorem sameBeyond_expired (k : SignalId) (s : State) : SameBeyond k s (expired k s) := by
  refine ⟨fun j hj => ?_, fun i r _ => ?_⟩
  · rw [expired, recompute_ctx_ne _ hj, madeStale, State.ctx_setCtx_ne s _ hj]
  · rw [expired, recompute_record]
    rfl

theorem expired_reports {k : SignalId} {s : State} (hs : (s.ctx k).state = serviceState k s) :
    (expired k s).reports =
      if reportsStateChange (s.ctx k).state (s.ctx k).state.withoutStatus then
        storeReport s.clock (.signalState k (s.ctx k).state (s.ctx k).state.withoutStatus) s.reports
      else s.reports := by
  rw [expired, recompute_eq, serviceState_madeStale, madeStale_ctx, hs]
  rfl

/-- Settles O33: the recomputed state is one that asks for no call. -/
theorem freshnessExpiryMakesStale : Obligations.FreshnessExpiryMakesStale := by
  refine ⟨fun k t s hheld derived holders calls fresh due => ?_, fun k s hheld early => ?_⟩
  · have state := derived.1 k
    have ctx := expired_ctx k s
    have reports := expired_reports state
    rw [← state] at ctx
    have unready : ((expired k s).ctx k).state ≠ .ready := by
      rw [ctx]
      exact withoutStatus_ne_ready _
    have serves := serves_evaluate k (expired k s)
    have works := (works_expired k s).trans (works_evaluate k (expired k s))
    have own : ((evaluate k (expired k s)).ctx k).unserved = ((expired k s).ctx k).unserved := serves.ctxOwn
    have spent : ((evaluate k (expired k s)).ctx k).spent = ((expired k s).ctx k).spent :=
      (spendsWithin_evaluate k (expired k s)).resolve_right fun within => unready within.1
    have call : ((evaluate k (expired k s)).ctx k).call = none := by
      refine evaluate_unready (holdersOk_expired holders k) unready ?_
      rw [ctx]
      intro unheld
      by_contra called
      have held := ((calls k).1 (Option.isSome_iff_ne_none.mpr called)).1
      rw [unheld] at held
      cases held
    have beyond := (sameBeyond_expired k s).trans (sameBeyond_evaluate (holdersOk_expired holders k) k)
    have evaluated : (evaluate k (expired k s)).reports = (expired k s).reports := serves.reports
    have hexec : exec (.freshnessExpiry k) s = .next (finish (evaluate k (expired k s))) := by
      rw [exec_freshnessExpiry, event_run _ s hheld, takeFreshnessExpiry_due ⟨t, fresh, due⟩]
    generalize evaluate k (expired k s) = u at *
    rw [ctx] at own spent
    rw [reports] at evaluated
    simp only [SignalContext.unserved, SignalContext.mk.injEq] at own
    obtain ⟨freshness, plan, taken, accepting, service, became, lockout, -⟩ := own
    refine ⟨finish u, hexec, freshness, taken, plan, accepting, service, lockout, spent, call, fun served => ?_,
      fun barred => ?_, works.toSameConfig.trans (finish_keeps u), beyond, works.finish_sameReceiver⟩
    all_goals rw [finish_ctx, finish_reports, became, evaluated]
    · obtain h | h | h := served <;> rw [h] <;> exact ⟨rfl, rfl⟩
    · obtain h | h | h := barred <;> rw [h] <;> exact ⟨rfl, rfl⟩
  · rw [exec_freshnessExpiry, event_run _ s hheld, takeFreshnessExpiry_early early]

end Sys2Proof.Machine
end

section
/-! The CONTROL subcommands that write a flag: DISABLE, ENABLE, OBSERVE ON and OBSERVE OFF (R114, R115, R138, R178). -/

namespace Sys2Proof.Machine

/-! ## Under OBSERVE a signal without a call sends nothing (R138) -/

theorem generateCancel_idle {k : SignalId} {s : State} (h : (s.ctx k).call = none) : generateCancel k s = s := by
  rw [generateCancel, h]

/-- From s to t a signal without a call still has none, spends nothing and places nothing in a queue. -/
structure Mute (k : SignalId) (s t : State) : Prop where
  call : (t.ctx k).call = none
  spent : (t.ctx k).spent = (s.ctx k).spent
  port : ∀ p, t.port p = s.port p

theorem Mute.trans {k : SignalId} {s t u : State} (h : Mute k s t) (g : Mute k t u) : Mute k s u :=
  ⟨g.call, g.spent.trans h.spent, fun p => (g.port p).trans (h.port p)⟩

section
variable {k : SignalId} {s : State} (h : (s.ctx k).call = none)
include h

theorem mute_refl : Mute k s s := ⟨h, rfl, fun _ => rfl⟩

theorem mute_giveUp : Mute k s (giveUp k s) := by
  refine ⟨(giveUp_holder k s).2, giveUp_spent k s, fun p => ?_⟩
  unfold giveUp
  dsimp only
  rw [generateCancel_idle h]
  split <;> simp

theorem mute_takeHolding (i : SlotId) : Mute k s (takeHolding k i s) := by
  refine ⟨?_, ?_, fun p => ?_⟩ <;> simp [takeHolding, h]

theorem mute_settleHolder : Mute k s (settleHolder k s) := by
  obtain ⟨-, e⟩ | ⟨i, r, -, ⟨-, e⟩ | ⟨-, e⟩ | ⟨j, q, -, -, e⟩⟩ := settleHolder_cases k s <;> rw [e]
  · cases candidate k s with
    | none => exact mute_refl h
    | some x => exact mute_takeHolding h x.1
  · exact mute_refl h
  · exact mute_giveUp h
  · exact (mute_giveUp h).trans (mute_takeHolding (mute_giveUp h).call j)

theorem mute_serveHolder (observe : s.observe = true) : Mute k s (serveHolder k s) := by
  unfold serveHolder
  split
  · exact mute_refl h
  · next i r _ =>
    split
    · exact mute_refl h
    · next o _ =>
      have recorded : Mute k s (recordOutcome i o s) := ⟨h, rfl, fun _ => rfl⟩
      have watched : (recordOutcome i o s).observe = true := observe
      unfold actOnOutcome
      split
      · rw [generateCancel_idle recorded.call]
        exact recorded
      · rw [watched, Bool.true_or, if_pos rfl]
        exact recorded

theorem mute_evaluate (observe : s.observe = true) : Mute k s (evaluate k s) := by
  have settled := mute_settleHolder h
  exact settled.trans (mute_serveHolder settled.call ((serves_settleHolder k s).observe.trans observe))

end

/-- Evaluations under OBSERVE of a part without calls. -/
theorem mute_evaluateAll (l : List SignalId) {s : State} (observe : s.observe = true)
    (h : ∀ k, (s.ctx k).call = none) (k : SignalId) : Mute k s (evaluateAll l s) := by
  induction l generalizing s with
  | nil => exact mute_refl (h k)
  | cons j l ih =>
    have serves := serves_evaluate j s
    have muted (k : SignalId) : Mute k s (evaluate j s) := by
      have own := mute_evaluate (h j) observe
      by_cases hk : k = j
      · exact hk ▸ own
      · have other := serves.ctxOther k hk
        exact ⟨other ▸ h k, by rw [other], own.port⟩
    exact (muted k).trans (ih (serves.observe.trans observe) fun k => (muted k).call)

/-! ## The CANCELs of OBSERVE ON (R115, R146) -/

/-- CANCELs for several signals, one after another. -/
def cancelEach (l : List SignalId) (s : State) : State := l.foldl (fun t k => generateCancel k t) s

theorem cancelAll_eq (s : State) : cancelAll s = cancelEach allSignals s := rfl

theorem generateCancel_spent_any (k j : SignalId) (s : State) :
    ((generateCancel j s).ctx k).spent = (s.ctx k).spent := by
  by_cases hk : k = j
  · rw [hk, generateCancel_spent]
  · rw [(serves_generateCancel j s).ctxOther k hk]

theorem cancelEach_spent (l : List SignalId) (s : State) (k : SignalId) :
    ((cancelEach l s).ctx k).spent = (s.ctx k).spent := by
  induction l generalizing s with
  | nil => rfl
  | cons j l ih => exact (ih _).trans (generateCancel_spent_any k j s)

theorem cancelEach_call (l : List SignalId) {s : State} {k : SignalId} (h : k ∈ l ∨ (s.ctx k).call = none) :
    ((cancelEach l s).ctx k).call = none := by
  induction l generalizing s with
  | nil => exact h.resolve_left List.not_mem_nil
  | cons j l ih =>
    refine ih (s := generateCancel j s) ?_
    by_cases hk : k = j
    · exact .inr (hk ▸ generateCancel_call j s)
    · rw [(serves_generateCancel j s).ctxOther k hk]
      exact h.imp_left fun hmem => (List.mem_cons.mp hmem).resolve_left hk

/-- A slot of a signal without a call stands in a port's queue. -/
def StandsQueued (x : CallSlot) (q : PortId) (s : State) : Prop :=
  (s.ctx x.signal).call = none ∧ x ∈ (s.port q).callQueue

/-- A CANCEL of another signal leaves a queued slot, and the slot's own signal has none to send. -/
theorem StandsQueued.generateCancel {x : CallSlot} {q : PortId} {s : State} (h : StandsQueued x q s) (j : SignalId) :
    StandsQueued x q (generateCancel j s) := by
  obtain ⟨call, queued⟩ := h
  by_cases hx : x.signal = j
  · rw [← hx, generateCancel_idle call]
    exact ⟨call, queued⟩
  · have serves := serves_generateCancel j s
    have beside : ((Machine.generateCancel j s).port q).callQueue.filter (fun c => c.signal != j) =
        (s.port q).callQueue.filter (fun c => c.signal != j) := congrArg Prod.snd (serves.port q)
    have kept : x ∈ (s.port q).callQueue.filter fun c => c.signal != j := List.mem_filter.mpr ⟨queued, bne_iff_ne.mpr hx⟩
    rw [← beside] at kept
    exact ⟨(serves.ctxOther _ hx).symm ▸ call, (List.mem_filter.mp kept).1⟩

theorem StandsQueued.cancelEach {x : CallSlot} {q : PortId} {s : State} (h : StandsQueued x q s) (l : List SignalId) :
    StandsQueued x q (cancelEach l s) := by
  induction l generalizing s with
  | nil => exact h
  | cons j l ih => exact ih (h.generateCancel j)

/-- The CANCEL of a call in force stands in its queue after the CANCELs of several signals, its own among them. -/
theorem cancelEach_queued (l : List SignalId) {s : State} {k : SignalId} {c : CallContent} {q : PortId} (hmem : k ∈ l)
    (hc : (s.ctx k).call = some c) (hq : (s.signalEntry k).configuredPort = some q) :
    StandsQueued ⟨k, (s.signalEntry k).cabinet, c.cancelled⟩ q (cancelEach l s) := by
  induction l generalizing s with
  | nil => cases hmem
  | cons j l ih =>
    have serves := serves_generateCancel j s
    by_cases hk : k = j
    · subst hk
      refine StandsQueued.cancelEach (s := generateCancel k s) ⟨generateCancel_call k s, ?_⟩ l
      rw [generateCancel_eq hc]
      exact placeCall_mem k c.cancelled (s.setCtx k (s.ctx k).withoutCall) q hq
    · have queued := ih (s := generateCancel j s) ((List.mem_cons.mp hmem).resolve_left hk)
        ((serves.ctxOther k hk).symm ▸ hc) (serves.signalEntry k ▸ hq)
      rwa [serves.signalEntry k] at queued

/-- What OBSERVE ON makes of a part that does not observe. -/
def observed (s : State) : State := evaluateAll allSignals { cancelAll s with observe := true }

theorem observed_observe (s : State) : (observed s).observe = true := by
  rw [observed, (evaluated_evaluateAll allSignals _).observe]

theorem mute_observed (s : State) (k : SignalId) : Mute k (cancelAll s) (observed s) := by
  have idle (k : SignalId) : ((cancelAll s).ctx k).call = none := by
    rw [cancelAll_eq]
    exact cancelEach_call allSignals (.inl (List.mem_finRange k))
  rw [observed]
  generalize cancelAll s = t at idle ⊢
  have muted := mute_evaluateAll allSignals (s := { t with observe := true }) rfl idle k
  exact ⟨muted.call, muted.spent, muted.port⟩

/-! ## DISABLE and ENABLE (R114) -/

theorem actDisable_eq (code : Byte) (f : Bool) {b : Byte} {k : SignalId} (h : b.toNat = k.val) (s : State) :
    actDisable code f b s =
      (if s.isDisabled k = f then s else writeDisable k f s, acceptWith 0x64 [code, b, flagByte f]) := by
  rw [actDisable, h, indexBelow_lt k.isLt]

theorem actDisable_refused (code : Byte) (f : Bool) {b : Byte} (h : 15 < b.toNat) (s : State) :
    actDisable code f b s = (s, refuseWith 0x64 .badValue) := by
  rw [actDisable, indexBelow_of_le h]

/-- Settles O18: each subcommand writes its flag through one update, and after OBSERVE ON nothing is left to send but the
CANCELs. -/
theorem flagSubcommands : Obligations.FlagSubcommands := by
  refine ⟨fun p src b s k h hb => ⟨?_, ?_⟩, fun p src b s h hb => ⟨?_, ?_⟩, fun p src s h => ?_, fun p src s h => ?_⟩
  · refine exec_answered (r := ⟨p, src, 0x64, [1, b]⟩) rfl h ?_
    exact (congrFun (actControl_disable b) s).trans (actDisable_eq 1 true hb s)
  · refine exec_answered (r := ⟨p, src, 0x64, [2, b]⟩) rfl h ?_
    refine (congrFun (actControl_enable b) s).trans ((actDisable_eq 2 false hb s).trans ?_)
    cases s.isDisabled k <;> rfl
  · refine exec_answered (r := ⟨p, src, 0x64, [1, b]⟩) rfl h ?_
    exact (congrFun (actControl_disable b) s).trans (actDisable_refused 1 true hb s)
  · refine exec_answered (r := ⟨p, src, 0x64, [2, b]⟩) rfl h ?_
    exact (congrFun (actControl_enable b) s).trans (actDisable_refused 2 false hb s)
  · refine ⟨if s.observe then s else observed s, exec_answered (r := ⟨p, src, 0x64, [3, 0]⟩) rfl h
      (congrFun (actControl_observeOn 0) s), fun on => if_pos on, fun off => ?_⟩
    rw [off, if_neg Bool.false_ne_true]
    have muted := mute_observed s
    refine ⟨observed_observe s, fun k => ⟨(muted k).call, (muted k).spent.trans (cancelEach_spent allSignals s k)⟩,
      fun k c q hc hq => ?_⟩
    rw [(muted k).port q]
    exact (cancelEach_queued allSignals (List.mem_finRange k) hc hq).2
  · exact exec_answered (r := ⟨p, src, 0x64, [4, 0]⟩) rfl h (congrFun (actControl_observeOff 0) s)

end Sys2Proof.Machine
end

section
/-! The outcome of the service decision: the place of an arrival in the green window, the budget, and what the holder's
outcome generates (R127 to R138). -/

namespace Sys2Proof.Machine

/-! ## The place in the cycle (R127 to R132) -/

theorem greenWindow_eq (e : PlanEntry) (d : Direction) :
    e.greenWindow d = if e.shared ≠ 0 ∨ d = .a then (e.greenStartA.toNat, e.greenLengthA.toNat)
      else (e.greenStartB.toNat, e.greenLengthB.toNat) := by
  unfold PlanEntry.greenWindow
  cases hs : flagSet e.shared with
  | true => rw [if_pos (.inl ((flagSet_iff _).mp hs))]
  | false =>
    have shared : ¬ e.shared ≠ 0 := fun h => Bool.false_ne_true (hs.symm.trans ((flagSet_iff _).mpr h))
    cases d with
    | a => rw [if_pos (.inr rfl)]
    | b => rw [if_neg (not_or.mpr ⟨shared, nofun⟩)]

/-- The place u of an arrival is the one below the cycle that the green start leads on to (R128). -/
theorem windowPlace_eq {cycle start c e u : Nat} (below : u < cycle) (place : (start + u) % cycle = (c + e) % cycle) :
    windowPlace cycle start c e = u := by
  have moved : ((((start + u) % cycle : Nat) : Int) - start).emod cycle = u := by
    show ((((start + u) % cycle : Nat) : Int) - start) % cycle = u
    rw [Int.natCast_mod, Int.emod_sub_emod, Int.natCast_add, add_sub_cancel_left]
    exact Int.emod_eq_of_lt (Int.natCast_nonneg u) (Int.ofNat_lt.mpr below)
  rw [windowPlace, ← place, moved]
  rfl

/-- The seconds of a number of 0.1 s units, rounded up, reach it, and no fewer do. -/
theorem ceilDiv_ten (x : Nat) : 10 * (ceilDiv x 10 - 1) ≤ x - 1 ∧ x ≤ 10 * ceilDiv x 10 := by
  unfold ceilDiv
  omega

/-- What the outcome is by the place u of the arrival: the branches of R129 to R132 in their order. -/
theorem cycleOutcome_at {plan : PlanEntry} {d : Direction} {c e u gs g : Nat} (window : plan.greenWindow d = (gs, g))
    (place : windowPlace plan.cycle.toNat gs c e = u) :
    cycleOutcome plan d c e =
      if u + plan.margin.toNat ≤ g then (.clear, false)
      else if u < g + e ∧ u + plan.margin.toNat - g ≤ 10 * plan.xmax.toNat then
        (.extend (ceilDiv (u + plan.margin.toNat - g) 10), false)
      else if g ≤ u ∧ 0 < plan.emax.toNat then
        if ceilDiv (plan.cycle.toNat - u) 10 ≤ plan.emax.toNat then (.early (ceilDiv (plan.cycle.toNat - u) 10), false)
        else (.early plan.emax.toNat, true)
      else (.defer .outOfReach, false) := by
  have near : ((u : Int) - g < e) = (u < g + e) := propext (by omega)
  simp only [cycleOutcome, window, place, near]

/-- Settles O40: the place is the one that R128 gives, and the amounts are the least whole seconds that reach. -/
theorem outcomeByArrivalInCycle : Obligations.OutcomeByArrivalInCycle := by
  refine ⟨fun plan d c e u gs g m X E C hC hm hX hE window below place => ?_, fun o b => ⟨?_, fun held => ?_⟩⟩
  · subst hC hm hX hE
    have outcome := cycleOutcome_at ((greenWindow_eq plan d).trans window.symm) (windowPlace_eq below place)
    refine ⟨fun within => ?_, fun late near => ?_, fun late far red asked => ?_, fun late far unasked => ?_⟩
    · rw [outcome, if_pos within]
    · rw [if_neg (Nat.not_le.mpr late), if_pos near] at outcome
      have amount := ceilDiv_ten (u + plan.margin.toNat - g)
      exact ⟨_, outcome, by omega, (ceilDiv_le_iff (by decide)).mpr near.2, by omega, amount.2⟩
    · rw [if_neg (Nat.not_le.mpr late), if_neg far, if_pos ⟨red, asked⟩] at outcome
      have amount := ceilDiv_ten (plan.cycle.toNat - u)
      refine ⟨ceilDiv (plan.cycle.toNat - u) 10, by omega, by omega, amount.2, fun whole => ?_, fun clipped => ?_⟩
      · rw [outcome, if_pos whole]
      · rw [outcome, if_neg (Nat.not_le.mpr clipped)]
    · rw [outcome, if_neg (Nat.not_le.mpr late), if_neg far, if_neg (by omega)]
  · rintro ⟨n, rfl⟩
    rfl
  · cases o with
    | extend n => exact absurd rfl (held n)
    | _ => rfl

/-! ## The budget (R134) -/

/-- The budget on an outcome that asks for an amount. -/
theorem budgeted_amount {mk : Nat → ServiceOutcome} (h : mk = .extend ∨ mk = .early) (budget spent committed n : Nat)
    (pf : Bool) : budgeted budget spent committed (mk n, pf) = clip mk n (budget + committed - spent) pf := by
  obtain rfl | rfl := h <;> rfl

/-- Settles O41: what is allowed is the budget less what is spent, with the holder's commitment. -/
theorem budgetClipsAmount : Obligations.BudgetClipsAmount := by
  intro bc spent committed n pf mk within hmk
  rw [budgeted_amount hmk, clip, ← Nat.sub_add_comm within]
  refine ⟨fun zero => if_pos zero, fun some less => ?_, fun some whole => ?_, rfl, fun _ => rfl⟩
  · have clipped : bc + committed - spent < n := by omega
    rw [if_neg (Nat.ne_of_gt some), decide_eq_true clipped, Bool.or_true]
  · have fits : ¬ bc + committed - spent < n := by omega
    rw [whole, if_neg (Nat.ne_of_gt some), decide_eq_false fits, Bool.or_false]

/-! ## The outcome acted on (R136 to R138) -/

/-- An evaluation of a signal whose holder has an outcome records it and acts on it. -/
theorem evaluate_outcome {k : SignalId} {s : State} {i : SlotId} {r : RequestRecord} {o : ServiceOutcome × Bool}
    (holder : (settleHolder k s).holderOf k = some (i, r)) (outcome : holderOutcome k r (settleHolder k s) = some o) :
    evaluate k s = actOnOutcome k i r o
      ((settleHolder k s).setRecord i (some { r with lastOutcome := some o.1, partialFlag := o.2 })) := by
  obtain ⟨-, hr⟩ := holderOf_eq_some holder
  rw [evaluate, serveHolder, holder]
  dsimp only
  rw [outcome]
  dsimp only
  rw [recordOutcome, State.modRecord, hr]
  rfl

theorem evaluate_unheld {k : SignalId} {s : State} (h : (settleHolder k s).holderOf k = none) :
    evaluate k s = settleHolder k s := by
  rw [evaluate, serveHolder, h]

theorem callCarries_iff {x : Option CallContent} {action : CallAction} {n : Nat} :
    callCarries x action n = true ↔ ∃ c, x = some c ∧ c.action = action ∧ c.amount = n := by
  cases x <;> simp [callCarries]

/-- An outcome that asks for a call generates it, unless OBSERVE is set or the call in force is that one (R137, R138). -/
theorem actOnOutcome_asks {k : SignalId} {i : SlotId} {r : RequestRecord} {o : ServiceOutcome × Bool} {action : CallAction}
    {n : Nat} (asks : o.1.asks = some (action, n)) (s : State) :
    actOnOutcome k i r o s =
      if s.observe || callCarries (s.ctx k).call action n then s else generateCall k i r action n o.2 s := by
  rw [actOnOutcome, asks]

/-- An outcome that asks for no call withdraws the call in force (R137). -/
theorem actOnOutcome_withdraws {k : SignalId} {i : SlotId} {r : RequestRecord} {o : ServiceOutcome × Bool}
    (asks : o.1.asks = none) (s : State) : actOnOutcome k i r o s = generateCancel k s := by
  rw [actOnOutcome, asks]

/-- Settles O43: the outcome is one change of the holder's record, and then a call, a CANCEL or nothing. -/
theorem outcomeIsActedOn : Obligations.OutcomeIsActedOn := by
  rintro k s t rfl
  refine ⟨evaluate_unheld, fun i r o pf w holder outcome hw => ?_⟩
  have acted := evaluate_outcome holder outcome
  subst hw
  refine ⟨fun action n asked => ?_, fun unasked => ?_⟩
  · have asks : o.asks = some (action, n) := by obtain ⟨rfl, rfl⟩ | ⟨rfl, rfl⟩ := asked <;> rfl
    rw [acted, actOnOutcome_asks asks]
    refine ⟨fun watched => if_pos ?_, fun c call same amount => if_pos ?_, fun unwatched new => if_neg ?_⟩
    · rw [State.setRecord_observe, watched, Bool.true_or]
    · rw [State.ctx_setRecord, callCarries_iff.mpr ⟨c, call, same, amount⟩, Bool.or_true]
    · rw [State.setRecord_observe, unwatched, Bool.false_or, State.ctx_setRecord, callCarries_iff]
      rintro ⟨c, call, same, amount⟩
      exact (new c call).elim (· same) (· amount)
  · have asks : o.asks = none := by obtain rfl | ⟨reason, rfl⟩ := unasked <;> rfl
    rw [acted, actOnOutcome_withdraws asks]
    exact ⟨fun uncalled => generateCancel_idle uncalled, fun _ _ => rfl⟩

end Sys2Proof.Machine
end

section
/-! A signal's call: none is in force and no slot of it waits that asks for service, or one is in force with its holder and its
refresh timer (R14, R16, R137, R138, R146, R149). -/

namespace Sys2Proof.Machine

/-! ## The two conditions of a call -/

/-- The values of a context that stand and fall with its call (R146, R149). -/
def SignalContext.called (c : SignalContext) : Option CallContent × Option Time := (c.call, c.refreshTimer)

/-- No call is in force: no refresh timer runs, and a slot of the signal that waits is a CANCEL (R146). -/
structure CalledOff (k : SignalId) (s : State) : Prop where
  called : (s.ctx k).called = (none, none)
  queued : ∀ p, ∀ c ∈ (s.port p).callQueue, c.signal = k → c.content.action = .cancel

/-- A call is in force: without OBSERVE, for a holder, and with the refresh timer running (R137, R138, R149). -/
structure CalledFor (k : SignalId) (s : State) : Prop where
  call : (s.ctx k).call.isSome = true
  timer : (s.ctx k).refreshTimer.isSome = true
  holder : (s.ctx k).holder.isSome = true
  observe : s.observe = false

theorem CalledOff.call {k : SignalId} {s : State} (h : CalledOff k s) : (s.ctx k).call = none :=
  congrArg Prod.fst h.called

theorem CalledOff.timer {k : SignalId} {s : State} (h : CalledOff k s) : (s.ctx k).refreshTimer = none :=
  congrArg Prod.snd h.called

theorem CalledOff.congr {k : SignalId} {s t : State} (h : CalledOff k s) (called : (t.ctx k).called = (s.ctx k).called)
    (queued : ∀ p, ∀ c ∈ (t.port p).callQueue, c.signal = k → c ∈ (s.port p).callQueue) : CalledOff k t where
  called := called.trans h.called
  queued p c hc hk := h.queued p c (queued p c hc hk) hk

theorem CalledFor.congr {k : SignalId} {s t : State} (h : CalledFor k s) (called : (t.ctx k).called = (s.ctx k).called)
    (holder : (t.ctx k).holder = (s.ctx k).holder) (observe : t.observe = s.observe) : CalledFor k t where
  call := (congrArg (fun c => c.1.isSome) called).trans h.call
  timer := (congrArg (fun c => c.2.isSome) called).trans h.timer
  holder := holder ▸ h.holder
  observe := observe.trans h.observe

/-- The calls of the other signals are left by what serves one signal (R120). -/
theorem CalledOff.beside {j k : SignalId} {s t : State} (h : CalledOff j s) (serves : Serves k s t) (hj : j ≠ k) :
    CalledOff j t := by
  refine h.congr (by rw [serves.ctxOther j hj]) fun p c hc hcj => ?_
  have beside : (t.port p).callQueue.filter (fun d => d.signal != k) =
      (s.port p).callQueue.filter (fun d => d.signal != k) := congrArg Prod.snd (serves.port p)
  have kept : c ∈ (t.port p).callQueue.filter fun d => d.signal != k :=
    List.mem_filter.mpr ⟨hc, bne_iff_ne.mpr (hcj ▸ hj)⟩
  rw [beside] at kept
  exact (List.mem_filter.mp kept).1

theorem CalledFor.beside {j k : SignalId} {s t : State} (h : CalledFor j s) (serves : Serves k s t) (hj : j ≠ k) :
    CalledFor j t := by
  have ctx := serves.ctxOther j hj
  exact h.congr (by rw [ctx]) (by rw [ctx]) serves.observe

/-- A signal's call stands or it does not. -/
def CallSound (k : SignalId) (s : State) : Prop := CalledOff k s ∨ CalledFor k s

theorem CallSound.congr {k : SignalId} {s t : State} (h : CallSound k s) (called : (t.ctx k).called = (s.ctx k).called)
    (holder : (t.ctx k).holder = (s.ctx k).holder) (observe : t.observe = s.observe)
    (queued : ∀ p, (t.port p).callQueue ⊆ (s.port p).callQueue) : CallSound k t :=
  h.imp (fun off => off.congr called fun p _ hc _ => queued p hc) fun on => on.congr called holder observe

/-- A signal without a holder has no call. -/
theorem CallSound.unheld {k : SignalId} {s : State} (h : CallSound k s) (free : (s.ctx k).holder = none) :
    CalledOff k s := by
  refine h.resolve_right fun on => ?_
  have held := on.holder
  rw [free] at held
  cases held

theorem CallSound.off {k : SignalId} {s : State} (h : CallSound k s) (none : (s.ctx k).call = none) : CalledOff k s := by
  refine h.resolve_right fun on => ?_
  have called := on.call
  rw [none] at called
  cases called

/-! ## CANCEL, giving up and taking holding (R14, R63, R124, R146) -/

/-- A call that is placed leaves no other slot of its signal (R14). -/
theorem mem_placeInQueue_signal {c d : CallSlot} {l : List CallSlot} (h : d ∈ placeInQueue c l)
    (signal : d.signal = c.signal) : d = c := by
  unfold placeInQueue replaceCall at h
  split at h
  · obtain ⟨x, -, rfl⟩ := List.mem_map.mp h
    by_cases own : x.signal = c.signal
    · rw [if_pos own]
    · rw [if_neg own] at signal
      exact absurd signal own
  · next absent =>
    obtain old | rfl := (List.mem_append.mp h).imp_right List.mem_singleton.mp
    · exact (absent (List.any_eq_true.mpr ⟨d, old, beq_iff_eq.mpr signal⟩)).elim
    · rfl

/-- A slot of the signal that waits after its call is placed is that call: a queue of another port has none (R14, R15). -/
theorem placeCall_slot {k : SignalId} {c : CallContent} {s : State} (configured : CallsConfigured s) {p : PortId}
    {d : CallSlot} (hd : d ∈ ((placeCall k c s).port p).callQueue) (hk : d.signal = k) : d.content = c := by
  rw [placeCall_port] at hd
  split at hd
  · rw [mem_placeInQueue_signal hd hk]
  · next elsewhere => exact absurd (hk ▸ configured p d hd) elsewhere

/-- A CANCEL calls off whatever was in force (R146). -/
theorem calledOff_generateCancel {k : SignalId} {s : State} (h : CallSound k s) (queues : QueuesOk s) :
    CalledOff k (generateCancel k s) := by
  cases hc : (s.ctx k).call with
  | none =>
    rw [generateCancel_idle hc]
    exact h.off hc
  | some c =>
    rw [generateCancel_eq hc]
    refine ⟨?_, fun p d hd hk => ?_⟩
    · rw [placeCall_ctx, State.ctx_setCtx_self]
      rfl
    · rw [placeCall_slot ((works_setCtx k _ s).queuesOk queues).configured hd hk]
      rfl

theorem giveUp_port (k : SignalId) (s : State) (p : PortId) : (giveUp k s).port p = (generateCancel k s).port p := by
  unfold giveUp
  dsimp only
  split
  · rfl
  · rw [State.port_setCtx, State.port_modRecord]

theorem giveUp_called (k : SignalId) (s : State) :
    ((giveUp k s).ctx k).called = ((generateCancel k s).ctx k).called := by
  unfold giveUp
  dsimp only
  split
  · rfl
  · rw [State.ctx_setCtx_self]
    rfl

theorem calledOff_giveUp {k : SignalId} {s : State} (h : CallSound k s) (queues : QueuesOk s) :
    CalledOff k (giveUp k s) :=
  (calledOff_generateCancel h queues).congr (giveUp_called k s) fun p _ hc _ => giveUp_port k s p ▸ hc

/-- A record that takes holding keeps the signal's call as it is (R63). -/
theorem CallSound.takeHolding {k : SignalId} {s : State} (h : CallSound k s) (i : SlotId) :
    CallSound k (takeHolding k i s) := by
  have ctx : (Machine.takeHolding k i s).ctx k = { s.ctx k with holder := some i } := State.ctx_setCtx_self _ k _
  refine h.imp (fun off => ?_) fun on => ?_
  · refine off.congr (by rw [ctx]; rfl) fun p _ hc _ => ?_
    rwa [Machine.takeHolding, State.port_setCtx, State.port_modRecord] at hc
  · exact ⟨by rw [ctx]; exact on.call, by rw [ctx]; exact on.timer, by rw [ctx]; rfl, on.observe⟩

/-! ## An evaluation, a refresh copy and a lapse (R137, R148 to R152) -/

theorem CallSound.settleHolder {k : SignalId} {s : State} (h : CallSound k s) (queues : QueuesOk s) :
    CallSound k (settleHolder k s) := by
  obtain ⟨-, e⟩ | ⟨i, r, -, ⟨-, e⟩ | ⟨-, e⟩ | ⟨j, q, -, -, e⟩⟩ := settleHolder_cases k s <;> rw [e]
  · cases candidate k s with
    | none => exact h
    | some x => exact h.takeHolding x.1
  · exact h
  · exact .inl (calledOff_giveUp h queues)
  · exact CallSound.takeHolding (.inl (calledOff_giveUp h queues)) j

/-- A call that is generated for the holder is in force (R143, R149). -/
theorem calledFor_generateCall {k : SignalId} {s : State} {i : SlotId} (held : (s.ctx k).holder = some i)
    (unwatched : s.observe = false) (r : RequestRecord) (action : CallAction) (n : Nat) (pf : Bool) :
    CalledFor k (generateCall k i r action n pf s) := by
  have ctx : (generateCall k i r action n pf s).ctx k = (s.ctx k).withCall (callContent (s.planInEffect k) r action n pf)
      (n - r.committed) (later s.clock (s.planInEffect k).refreshDelay) := by
    rw [generateCall_eq, placeCall_ctx, charged_ctx]
  exact ⟨by rw [ctx]; rfl, by rw [ctx]; rfl, by rw [ctx]; exact Option.isSome_iff_exists.mpr ⟨i, held⟩,
    (serves_generateCall k i r action n pf s).observe.trans unwatched⟩

theorem CallSound.serveHolder {k : SignalId} {s : State} (h : CallSound k s) (queues : QueuesOk s) :
    CallSound k (serveHolder k s) := by
  unfold Machine.serveHolder
  split
  · exact h
  · next i r held =>
    split
    · exact h
    · next o _ =>
      have recorded : CallSound k (recordOutcome i o s) := h.congr rfl rfl rfl fun _ => List.Subset.refl _
      cases asks : o.1.asks with
      | none =>
        rw [actOnOutcome_withdraws asks]
        exact .inl (calledOff_generateCancel recorded ((works_modRecord i _ s).queuesOk queues))
      | some x =>
        rw [actOnOutcome_asks asks]
        split
        · exact recorded
        · next new =>
          rw [Bool.or_eq_true, not_or, Bool.not_eq_true] at new
          exact .inr (calledFor_generateCall (s := recordOutcome i o s) (holderOf_eq_some held).1 new.1 r _ _ _)

/-- After its evaluation a signal with a call in force is READY (R126, R148). -/
theorem callSound_evaluate {k : SignalId} {s : State} (h : CallSound k s) (holders : HoldersOk s)
    (queues : QueuesOk s) :
    CallSound k (evaluate k s) ∧ (CalledFor k (evaluate k s) → ((evaluate k s).ctx k).state = .ready) := by
  refine ⟨(h.settleHolder queues).serveHolder ((works_settleHolder k s).queuesOk queues), fun on => ?_⟩
  by_contra unready
  rw [(serves_evaluate k s).state] at unready
  have called := on.call
  rw [evaluate_unready holders unready fun free => (h.unheld free).call] at called
  cases called

theorem calledFor_refreshCopy {k : SignalId} {s : State} (h : CalledFor k s) : CalledFor k (refreshCopy k s) := by
  have holder := (accounts_refreshCopy k s).holder k
  have observe := (serves_refreshCopy k s).observe
  obtain ⟨c, hc⟩ := Option.isSome_iff_exists.mp h.call
  have called : ((refreshCopy k s).ctx k).call = some c ∧ ((refreshCopy k s).ctx k).refreshTimer.isSome = true := by
    rw [refreshCopy, hc]
    dsimp only
    split <;> rw [placeCall_ctx] <;> simp [hc]
  exact ⟨by rw [called.1]; rfl, called.2, holder ▸ h.holder, observe.trans h.observe⟩

theorem refreshCopy_idle {k : SignalId} {s : State} (h : (s.ctx k).call = none) : refreshCopy k s = s := by
  rw [refreshCopy, h]

theorem CallSound.refreshCopy {k : SignalId} {s : State} (h : CallSound k s) : CallSound k (refreshCopy k s) := by
  obtain off | on := h
  · rw [refreshCopy_idle off.call]
    exact .inl off
  · exact .inr (calledFor_refreshCopy on)

end Sys2Proof.Machine
end

section
/-! Calls through the operations of the blocks: each leaves every signal's call as it must stand, but for signals that are
yet to evaluate (R120, R148). -/

namespace Sys2Proof.Machine

/-! ## Calls but for the signals that are yet to evaluate -/

/-- Holders and queues are as R63 and R14 have them, every signal's call stands or it does not, and a signal with a call in
force is READY or listed as yet to evaluate (R148). -/
structure CallsBeyond (l : List SignalId) (s : State) : Prop where
  holders : HoldersOk s
  queues : QueuesOk s
  sound : ∀ k, CallSound k s
  ready : ∀ k, k ∉ l → CalledFor k s → (s.ctx k).state = .ready

theorem CallsBeyond.mono {l m : List SignalId} {s : State} (h : CallsBeyond l s) (hlm : l ⊆ m) : CallsBeyond m s :=
  ⟨h.holders, h.queues, h.sound, fun k hk => h.ready k fun hl => hk (hlm hl)⟩

theorem CallsBeyond.calledFor {l : List SignalId} {s : State} (h : CallsBeyond l s) {k : SignalId}
    (call : (s.ctx k).call.isSome = true) : CalledFor k s := by
  refine (h.sound k).resolve_left fun off => ?_
  rw [off.call] at call
  cases call

/-- Where no signal is yet to evaluate, the calls are as R137, R138, R148 and R149 say. -/
theorem CallsBeyond.callsOk {s : State} (h : CallsBeyond [] s) : CallsOk s := by
  refine fun k => ⟨fun call => ?_, ?_⟩
  · have on := h.calledFor call
    exact ⟨on.holder, h.ready k List.not_mem_nil on, on.observe⟩
  · obtain off | on := h.sound k
    · rw [off.call, off.timer]
      exact iff_of_false nofun nofun
    · exact iff_of_true on.timer on.call

theorem CallsBeyond.queuedCallsOk {s : State} (h : CallsBeyond [] s) : QueuedCallsOk s := by
  intro p c hc asks
  have on : CalledFor c.signal s := (h.sound c.signal).resolve_left fun off => asks (off.queued p c hc rfl)
  exact ⟨on.call, h.ready c.signal List.not_mem_nil on⟩

theorem callsBeyond_of_ok {s : State} (holders : HoldersOk s) (queues : QueuesOk s) (calls : CallsOk s)
    (queued : QueuedCallsOk s) : CallsBeyond [] s := by
  refine ⟨holders, queues, fun k => ?_, fun k _ on => ((calls k).1 on.call).2.1⟩
  obtain ⟨called, timer⟩ := calls k
  cases call : (s.ctx k).call.isSome with
  | true =>
    obtain ⟨holder, -, observe⟩ := called call
    exact .inr ⟨call, timer.mpr call, holder, observe⟩
  | false =>
    have idle : (s.ctx k).refreshTimer.isSome ≠ true := fun on => Bool.false_ne_true (call.symm.trans (timer.mp on))
    rw [ne_eq, Bool.not_eq_true, Option.isSome_eq_false_iff, Option.isNone_iff_eq_none] at idle
    refine .inl ⟨Prod.ext ?_ idle, fun p c hc hk => ?_⟩
    · rwa [Option.isSome_eq_false_iff, Option.isNone_iff_eq_none] at call
    · by_contra asks
      have inForce := (queued p c hc asks).1
      rw [hk, call] at inForce
      cases inForce

/-- From s to t the calls and their timers are as they were and no slot of a call queue is new; a signal with a call in force
keeps its holder, and its service state unless it is listed. -/
structure Steady (l : List SignalId) (s t : State) : Prop where
  called : ∀ k, (t.ctx k).called = (s.ctx k).called
  queued : ∀ p, (t.port p).callQueue ⊆ (s.port p).callQueue
  stands : ∀ k, CalledFor k s →
    (t.ctx k).holder = (s.ctx k).holder ∧ t.observe = s.observe ∧ (k ∉ l → (t.ctx k).state = (s.ctx k).state)

theorem steady_of_ctx (l : List SignalId) {s t : State} (ctx : ∀ k, t.ctx k = s.ctx k) (observe : t.observe = s.observe)
    (queued : ∀ p, (t.port p).callQueue ⊆ (s.port p).callQueue) : Steady l s t :=
  ⟨fun k => by rw [ctx], queued, fun k _ => by rw [ctx]; exact ⟨rfl, observe, fun _ => rfl⟩⟩

theorem CallsBeyond.steady {l : List SignalId} {s t : State} (h : CallsBeyond l s) (steady : Steady l s t)
    (holders : HoldersOk t) (queues : QueuesOk t) : CallsBeyond l t := by
  have on {k : SignalId} (on : CalledFor k s) : CalledFor k t :=
    have ⟨holder, observe, _⟩ := steady.stands k on
    on.congr (steady.called k) holder observe
  refine ⟨holders, queues, fun k => ?_, fun k hk onAfter => ?_⟩
  · exact (h.sound k).imp (fun off => off.congr (steady.called k) fun p _ hc _ => steady.queued p hc) on
  · have before := h.calledFor ((congrArg (fun c => c.1.isSome) (steady.called k)).symm.trans onAfter.call)
    obtain ⟨-, -, state⟩ := steady.stands k before
    exact (state hk).trans (h.ready k hk before)

/-- A change of the records, of the ports beside their call queues or of the configuration. -/
theorem CallsBeyond.ofCtx {l : List SignalId} {s t : State} (h : CallsBeyond l s) (ctx : ∀ k, t.ctx k = s.ctx k)
    (observe : t.observe = s.observe) (queued : ∀ p, (t.port p).callQueue ⊆ (s.port p).callQueue)
    (holders : HoldersOk t) (queues : QueuesOk t) : CallsBeyond l t :=
  h.steady (steady_of_ctx l ctx observe queued) holders queues

/-- What serves one signal leaves its call sound, and the signal READY if it is no longer listed. -/
theorem CallsBeyond.served {l m : List SignalId} {s t : State} {k : SignalId} (h : CallsBeyond l s)
    (serves : Serves k s t) (holders : HoldersOk t) (queues : QueuesOk t) (hlm : ∀ j ∈ l, j = k ∨ j ∈ m)
    (own : CallSound k t ∧ (k ∉ m → CalledFor k t → (t.ctx k).state = .ready)) : CallsBeyond m t := by
  refine ⟨holders, queues, fun j => ?_, fun j hj on => ?_⟩
  · by_cases hk : j = k
    · exact hk ▸ own.1
    · exact (h.sound j).imp (fun off => off.beside serves hk) fun on => on.beside serves hk
  · by_cases hk : j = k
    · subst hk
      exact own.2 hj on
    · have ctx := serves.ctxOther j hk
      have before : CalledFor j s := h.calledFor (ctx ▸ on.call)
      rw [ctx]
      exact h.ready j (fun hl => (hlm j hl).elim hk hj) before

/-- What serves one signal and leaves it without a call. -/
theorem CallsBeyond.calledOff {l : List SignalId} {s t : State} {k : SignalId} (h : CallsBeyond l s)
    (serviced : Serviced k s t) (queues : QueuesOk t) (off : CalledOff k t) : CallsBeyond l t := by
  refine h.served serviced.toServes (serviced.holders h.holders) queues (fun j hj => .inr hj) ⟨.inl off, fun _ on => ?_⟩
  have call := on.call
  rw [off.call] at call
  cases call

/-! ## Service of one signal (R119 to R152) -/

section
variable {l : List SignalId} {s : State} (k : SignalId)

/-- A signal that evaluates is no longer listed. -/
theorem CallsBeyond.evaluate {m : List SignalId} (h : CallsBeyond l s) (hlm : ∀ j ∈ l, j = k ∨ j ∈ m) :
    CallsBeyond m (evaluate k s) := by
  obtain ⟨sound, ready⟩ := callSound_evaluate (h.sound k) h.holders h.queues
  exact h.served (serves_evaluate k s) (holdersOk_evaluate h.holders k) ((works_evaluate k s).queuesOk h.queues) hlm
    ⟨sound, fun _ => ready⟩

theorem CallsBeyond.evaluated (h : CallsBeyond l s) : CallsBeyond l (Machine.evaluate k s) :=
  h.evaluate k fun _ => .inr

theorem CallsBeyond.evaluateOne (h : CallsBeyond [k] s) : CallsBeyond [] (Machine.evaluate k s) :=
  h.evaluate k fun _ hj => .inl (List.mem_singleton.mp hj)

theorem CallsBeyond.generateCancel (h : CallsBeyond l s) : CallsBeyond l (generateCancel k s) :=
  h.calledOff (serviced_generateCancel k s) ((works_generateCancel k s).queuesOk h.queues)
    (calledOff_generateCancel (h.sound k) h.queues)

theorem CallsBeyond.giveUp (h : CallsBeyond l s) : CallsBeyond l (giveUp k s) :=
  h.calledOff (serviced_giveUp k s) ((works_giveUp k s).queuesOk h.queues) (calledOff_giveUp (h.sound k) h.queues)

theorem CallsBeyond.markLapsed (h : CallsBeyond l s) : CallsBeyond l (markLapsed k s) := by
  have serviced := serviced_markLapsed k s
  unfold Machine.markLapsed at serviced ⊢
  split at serviced
  · exact h
  · exact h.ofCtx (fun _ => rfl) rfl (fun _ => List.Subset.refl _) (serviced.holders h.holders) h.queues

theorem CallsBeyond.lapse (h : CallsBeyond l s) : CallsBeyond l (lapse k s) := by
  rw [lapse_eq]
  exact (((h.generateCancel k).markLapsed k).giveUp k).evaluated k

theorem CallsBeyond.refreshCopy (h : CallsBeyond l s) : CallsBeyond l (refreshCopy k s) := by
  have serves := serves_refreshCopy k s
  refine h.served serves (h.holders.accounts serves (accounts_refreshCopy k s))
    ((works_refreshCopy k s).queuesOk h.queues) (fun j => .inr) ⟨(h.sound k).refreshCopy, fun hk on => ?_⟩
  rw [serves.state]
  refine h.ready k hk ((h.sound k).resolve_left fun off => ?_)
  have call := on.call
  rw [refreshCopy_idle off.call, off.call] at call
  cases call

theorem CallsBeyond.refreshOrLapse (h : CallsBeyond l s) : CallsBeyond l (refreshOrLapse k s) := by
  have evaluated := h.evaluated k
  unfold Machine.refreshOrLapse
  dsimp only
  split
  · split
    · exact evaluated.refreshCopy k
    · exact evaluated.lapse k
  · exact evaluated

theorem CallsBeyond.takeRefreshExpiry (h : CallsBeyond l s) : CallsBeyond l (takeRefreshExpiry k s) := by
  unfold Machine.takeRefreshExpiry
  split
  · exact h.refreshOrLapse k
  · exact h

end

/-- Every listed signal evaluates. -/
theorem CallsBeyond.evaluateAll {l : List SignalId} {s : State} (h : CallsBeyond l s) :
    CallsBeyond [] (Machine.evaluateAll l s) := by
  induction l generalizing s with
  | nil => exact h
  | cons k l ih => exact ih (h.evaluate k fun _ => List.mem_cons.mp)

end Sys2Proof.Machine
end

section
/-! Calls through a status frame, a timer and the closure of records. -/

namespace Sys2Proof.Machine

/-! ## The service state and the values of a context -/

theorem recompute_called (k j : SignalId) (s : State) :
    ((recompute k s).ctx j).called = (s.ctx j).called ∧ ((recompute k s).ctx j).holder = (s.ctx j).holder := by
  rw [recompute_ctx]
  split <;> exact ⟨rfl, rfl⟩

theorem CallsBeyond.recompute {l : List SignalId} {s : State} {k : SignalId} (h : CallsBeyond l s) (hk : k ∈ l) :
    CallsBeyond l (recompute k s) := by
  refine h.steady ⟨fun j => (recompute_called k j s).1, fun p => ?_, fun j _ => ?_⟩ (holdersOk_recompute h.holders k)
    ((works_recompute k s).queuesOk h.queues)
  · rw [recompute_port]
    exact List.Subset.refl _
  · refine ⟨(recompute_called k j s).2, (works_recompute k s).observe, fun hj => ?_⟩
    rw [recompute_ctx_ne s fun e => hj (by rw [e]; exact hk)]

theorem CallsBeyond.setCtx {l : List SignalId} {s : State} {k : SignalId} (h : CallsBeyond l s) {c : SignalContext}
    (called : c.called = (s.ctx k).called) (holder : c.holder = (s.ctx k).holder) (state : c.state = (s.ctx k).state) :
    CallsBeyond l (s.setCtx k c) := by
  have kept (j : SignalId) : ((s.setCtx k c).ctx j).called = (s.ctx j).called ∧
      ((s.setCtx k c).ctx j).holder = (s.ctx j).holder ∧ ((s.setCtx k c).ctx j).state = (s.ctx j).state := by
    by_cases hj : j = k
    · rw [hj, State.ctx_setCtx_self]
      exact ⟨called, holder, state⟩
    · rw [State.ctx_setCtx_ne s c hj]
      exact ⟨rfl, rfl, rfl⟩
  refine h.steady ⟨fun j => (kept j).1, fun p => ?_, fun j _ => ⟨(kept j).2.1, rfl, fun _ => (kept j).2.2⟩⟩
    (holdersOk_setCtx h.holders holder) ((works_setCtx k c s).queuesOk h.queues)
  rw [State.port_setCtx]
  exact List.Subset.refl _

/-- A change of the records alone, when the holders are as R63 says after it. -/
theorem CallsBeyond.onlyRecords {l : List SignalId} {s t : State} (h : CallsBeyond l s) (only : OnlyRecords s t)
    (holders : HoldersOk t) : CallsBeyond l t := by
  obtain ⟨v, rfl⟩ := only
  exact h.ofCtx (fun _ => rfl) rfl (fun _ => List.Subset.refl _) holders h.queues

/-! ## Status frames and freshness (R101, R103, R113) -/

theorem CallsBeyond.statusTaken {l : List SignalId} {s : State} (h : CallsBeyond l s) (k : SignalId) (p : PlanId)
    (f : SignalStatus) : CallsBeyond l (statusTaken k p f s) := by
  obtain ⟨state, call⟩ := withStatus_kept (s.ctx k) (statusChange (s.ctx k) p f.position) f p s.clock (statusTimeout s)
  have timer : ((s.ctx k).withStatus (statusChange (s.ctx k) p f.position) f p s.clock (statusTimeout s)).refreshTimer =
      (s.ctx k).refreshTimer := by
    cases statusChange (s.ctx k) p f.position <;> rfl
  have heard : CallsBeyond l (statusHeard k p f s) :=
    h.setCtx (Prod.ext call timer) (withStatus_holder _ _ f p _ _) state
  exact heard.onlyRecords (onlyRecords_statusTaken k p f s) ((holdsAt_statusTaken k p f s).2 h.holders)

theorem CallsBeyond.takeStatus {s : State} (h : CallsBeyond [] s) (k : SignalId) (p : PlanId) (f : SignalStatus) :
    CallsBeyond [] (takeStatus k p f s) := by
  have listed : CallsBeyond [k] (Machine.statusTaken k p f s) := (h.statusTaken k p f).mono (List.nil_subset _)
  have evaluated := (listed.recompute List.mem_cons_self).evaluateOne
  rw [takeStatus_eq]
  obtain e | ⟨-, e⟩ := lapseAboveLimit_cases k (statusChange (s.ctx k) p f.position)
    (Machine.recompute k (Machine.statusTaken k p f s))
    (Machine.evaluate k (Machine.recompute k (Machine.statusTaken k p f s))) <;> rw [e]
  · exact evaluated
  · exact evaluated.lapse k

theorem CallsBeyond.handStatus {s : State} (h : CallsBeyond [] s) (p : PortId) (src : Byte) (f : SignalStatus) :
    CallsBeyond [] (handStatus p src f s) := by
  refine List.foldlRecOn (motive := CallsBeyond []) _ _ h fun u hu k _ => ?_
  unfold offerStatus
  split
  · exact hu
  · exact hu.takeStatus k _ f

theorem CallsBeyond.takeFreshnessExpiry {s : State} (h : CallsBeyond [] s) (k : SignalId) :
    CallsBeyond [] (takeFreshnessExpiry k s) := by
  unfold Machine.takeFreshnessExpiry
  split
  · have stale : CallsBeyond [] (madeStale k s) :=
      h.setCtx (c := { s.ctx k with freshness := .stale }) rfl rfl rfl
    have listed : CallsBeyond [k] (madeStale k s) := stale.mono (List.nil_subset _)
    exact (listed.recompute List.mem_cons_self).evaluateOne
  · exact h

/-! ## Closures (R78) -/

/-- The state in which the call of a closing holder has been withdrawn: step 1 of R78. -/
def heldCancelled (i : SlotId) (r : RequestRecord) (s : State) : State :=
  if decide ((s.ctx r.signal).holder = some i) then generateCancel r.signal s else s

theorem CallsBeyond.heldCancelled {l : List SignalId} {s : State} (h : CallsBeyond l s) (i : SlotId) (r : RequestRecord) :
    CallsBeyond l (heldCancelled i r s) := by
  unfold Machine.heldCancelled
  split
  · exact h.generateCancel r.signal
  · exact h

/-- The holder that closes has no call after step 1 of R78. -/
theorem CallsBeyond.not_calledFor_heldCancelled {l : List SignalId} {s : State} (h : CallsBeyond l s) {i : SlotId}
    {r : RequestRecord} (held : (s.ctx r.signal).holder = some i) : ¬ CalledFor r.signal (Machine.heldCancelled i r s) := by
  rw [Machine.heldCancelled, decide_eq_true held, if_pos rfl]
  intro on
  have call := on.call
  rw [(calledOff_generateCancel (h.sound r.signal) h.queues).call] at call
  cases call

theorem struckOut_called (i : SlotId) (r : RequestRecord) (reason : ClosureReason) (s : State) (k : SignalId) :
    ((struckOut i r reason s).ctx k).called = ((heldCancelled i r s).ctx k).called := by
  by_cases hk : k = r.signal
  · subst hk
    rw [struckOut, State.ctx_setCtx_self]
    rfl
  · rw [struckOut, State.ctx_setCtx_ne _ _ hk]
    rfl

theorem struckOut_port (i : SlotId) (r : RequestRecord) (reason : ClosureReason) (s : State) (p : PortId) :
    (struckOut i r reason s).port p = (heldCancelled i r s).port p := by
  rw [struckOut, State.port_setCtx]
  rfl

theorem heldCancelled_holder (i : SlotId) (r : RequestRecord) (s : State) (k : SignalId) :
    ((heldCancelled i r s).ctx k).holder = (s.ctx k).holder := by
  unfold heldCancelled
  split
  · exact (accounts_generateCancel r.signal s).holder k
  · rfl

/-- Steps 2 to 5 of R78 leave the calls as step 1 has left them. -/
theorem steady_closeRecord {i : SlotId} {r : RequestRecord} {s : State} {l m : List SignalId} (h : CallsBeyond m s)
    (hr : s.record i = some r) (hl : r.signal ∈ l) (reason : ClosureReason) :
    Steady l (heldCancelled i r s) (closeRecord i reason s) := by
  have serves : Serves r.signal s (heldCancelled i r s) := serves_cancelWhen r.signal _ s
  refine ⟨fun k => ?_, fun p => ?_, fun k on => ⟨?_, ?_, fun hk => ?_⟩⟩
  · rw [closeRecord_eq hr, (recompute_called _ k _).1, struckOut_called]
  · rw [closeRecord_eq hr, recompute_port, struckOut_port]
    exact List.Subset.refl _
  · rw [closeRecord_holder hr, heldCancelled_holder, if_neg]
    rintro ⟨rfl, held⟩
    exact h.not_calledFor_heldCancelled held on
  · rw [(works_closeRecord i reason s).observe, serves.observe]
  · rw [closeRecord_ctx_ne i reason s r k hr fun e => hk (e ▸ hl), serves.state]

theorem CallsBeyond.closeRecord {l : List SignalId} {s : State} (h : CallsBeyond l s) {i : SlotId} (reason : ClosureReason)
    (hl : ∀ r, s.record i = some r → r.signal ∈ l) : CallsBeyond l (closeRecord i reason s) := by
  cases hr : s.record i with
  | none => rwa [closeRecord_free i reason s hr]
  | some r =>
    exact (h.heldCancelled i r).steady (steady_closeRecord h hr (hl r hr) reason)
      ((matched_closeRecord i reason s).holders h.holders) ((works_closeRecord i reason s).queuesOk h.queues)

theorem CallsBeyond.closeAll {l : List SignalId} {slots : List SlotId} {s : State} (h : CallsBeyond l s)
    (reason : ClosureReason) (hl : ∀ i ∈ slots, ∀ r, s.record i = some r → r.signal ∈ l) :
    CallsBeyond l (closeAll slots reason s) := by
  induction slots generalizing s with
  | nil => exact h
  | cons i slots ih =>
    refine ih (h.closeRecord reason (hl i List.mem_cons_self)) fun j hj r hr => ?_
    by_cases hji : j = i
    · rw [hji, closeRecord_slot] at hr
      cases hr
    · rw [closeRecord_other i j reason s hji] at hr
      exact hl j (List.mem_cons_of_mem i hj) r hr

/-- The signals that a closure of records has touched are yet to evaluate. -/
theorem CallsBeyond.closeTouching {s : State} (h : CallsBeyond [] s) (slots : List SlotId) (reason : ClosureReason) :
    CallsBeyond (closeTouching slots reason s).2 (closeTouching slots reason s).1 :=
  (h.mono (List.nil_subset _)).closeAll reason fun _ hi _ hr => mem_signalsOf hi hr

/-! ## The timers of a record (R62, R75, R47) -/

theorem CallsBeyond.takeHorizonEntry {s : State} (h : CallsBeyond [] s) (i : SlotId) :
    CallsBeyond [] (takeHorizonEntry i s) := by
  unfold Machine.takeHorizonEntry
  split
  · exact h
  · next r hr =>
    split
    · next due =>
      have unheld := h.holders.holder_ne hr (by rw [due.1]; nofun) (by rw [due.1]; nofun) r.signal
      have only := (OnlyRecords.refl s).setRecord i (some { r with state := .waiting, horizonEntry := none })
      exact (h.onlyRecords only (holdersOk_setRecord_same h.holders hr rfl (iff_of_false nofun unheld))).evaluated _
    · exact h

theorem CallsBeyond.closeAndEvaluate {s : State} (h : CallsBeyond [] s) {i : SlotId} {r : RequestRecord}
    (hr : s.record i = some r) (reason : ClosureReason) :
    CallsBeyond [] (Machine.evaluate r.signal (Machine.closeRecord i reason s)) := by
  refine CallsBeyond.evaluateOne r.signal (CallsBeyond.closeRecord (h.mono (List.nil_subset _)) reason fun q hq => ?_)
  rw [Option.some.inj (hr.symm.trans hq)]
  exact List.mem_cons_self

theorem CallsBeyond.takeAgeExpiry {s : State} (h : CallsBeyond [] s) (i : SlotId) :
    CallsBeyond [] (takeAgeExpiry i s) := by
  unfold Machine.takeAgeExpiry
  split
  · exact h
  · next r hr =>
    split
    · exact h.closeAndEvaluate hr _
    · exact h

theorem CallsBeyond.takeProjectionExpiry {s : State} (h : CallsBeyond [] s) (i : SlotId) :
    CallsBeyond [] (takeProjectionExpiry i s) := by
  unfold Machine.takeProjectionExpiry
  split
  · exact h
  · next r hr =>
    split
    · exact h.closeAndEvaluate hr _
    · exact h

end Sys2Proof.Machine
end

section
/-! Calls through a bus report: its closures and check-in, the update, and the evaluations after it (R29 to R37, R44). -/

namespace Sys2Proof.Machine

/-! ## The check-in (R35, R64 to R68) -/

theorem onlyRecords_attemptProjection (i : SlotId) (doors : Bool) (s : State) :
    OnlyRecords s (attemptProjection i doors s).1 := by
  obtain e | ⟨r, next, k, d, j, -, -, -, e⟩ := attemptProjection_cases i doors s <;> rw [e]
  · exact OnlyRecords.refl s
  · exact (OnlyRecords.refl s).setRecord j _

/-- A check-in changes the records alone, but for the closure of a record that it displaces and for a report. -/
theorem CallsBeyond.checkIn {s : State} (h : CallsBeyond [] s) (t : TakenReport) (k : SignalId) (z : ZoneEntry)
    (route : Fin 32) : CallsBeyond (checkIn t k z route s).2 (checkIn t k z route s).1 := by
  have holders := (matched_checkIn t k z route s).holders h.holders
  have made {u : State} (i : SlotId) (r : Option RequestRecord) :
      OnlyRecords u (attemptProjection i t.doorsOpen (u.setRecord i r)).1 :=
    ((OnlyRecords.refl u).setRecord i r).trans (onlyRecords_attemptProjection i t.doorsOpen _)
  have listed (l : List SignalId) : CallsBeyond l s := h.mono (List.nil_subset l)
  cases hfound : s.findRecord t.bus k with
  | some x =>
    obtain ⟨i, r⟩ := x
    by_cases hp : r.state = .projected
    · rw [checkIn_projected hfound hp] at holders ⊢
      exact (listed _).onlyRecords (made i _) holders
    · rw [checkIn_present hfound hp]
      exact h
  | none =>
    cases hi : s.freeSlot with
    | some i =>
      rw [checkIn_new hfound hi] at holders ⊢
      exact (listed _).onlyRecords (made i _) holders
    | none =>
      rw [checkIn_full hfound hi] at holders ⊢
      obtain ⟨x, hx, e⟩ | e | ⟨b, e⟩ := checkInFull_cases t k z route s <;> rw [e] at holders ⊢
      · refine CallsBeyond.onlyRecords (CallsBeyond.closeRecord (listed _) .displaced fun q hq => ?_) (made x.1 _) holders
        rw [← Option.some.inj (hx.symm.trans hq)]
        exact List.mem_cons_self
      · exact h
      · exact h.ofCtx (fun _ => rfl) rfl (fun _ => List.Subset.refl _) holders h.queues

/-! ## The zone a report lies in (R30 to R33) -/

theorem CallsBeyond.matchZone {s : State} (h : CallsBeyond [] s) (t : TakenReport) (route : Fin 32) :
    CallsBeyond (matchZone t route s).2 (matchZone t route s).1 := by
  cases hz : zoneAt s.tables t.heading t.position with
  | none =>
    rw [matchZone_outside hz]
    exact h.closeTouching _ _
  | some z =>
    by_cases hk : z.signal.toNat < 16
    · rw [matchZone_zone (k := ⟨_, hk⟩) hz rfl]
      by_cases hkind : z.kind = 1
      · cases hfound : s.findRecord t.bus ⟨_, hk⟩ with
        | none =>
          rw [inZone, if_pos hkind, hfound]
          exact h
        | some x =>
          rw [inZone_checkOut hkind hfound]
          exact h.closeTouching _ _
      · cases hadmits : (s.ctx ⟨_, hk⟩).state.admits with
        | true =>
          rw [inZone_checkIn hkind hadmits]
          exact h.checkIn t _ z route
        | false =>
          rw [inZone_closed hkind hadmits]
          exact h
    · rw [matchZone_nowhere hz (Nat.not_lt.mp hk)]
      exact h

/-! ## The evaluations of a report (R37) -/

theorem reorderNew_subset (key : SignalId → Nat) (before : State) (p q : PortId) (s : State) :
    ((reorderNew key before p s).port q).callQueue ⊆ (s.port q).callQueue := by
  obtain ⟨l, perm, e⟩ := reorderNew_port key before p q s
  rw [e]
  exact perm.subset

/-- The order of a port's new calls is not part of what the calls must be. -/
theorem CallsBeyond.reorderNew {l : List SignalId} {s : State} (h : CallsBeyond l s) (key : SignalId → Nat)
    (before : State) (p : PortId) : CallsBeyond l (reorderNew key before p s) := by
  have ctx (k : SignalId) : (Machine.reorderNew key before p s).ctx k = s.ctx k := State.ctx_setPort s p _ k
  exact h.ofCtx ctx (works_reorderNew key before p s).observe (fun q => reorderNew_subset key before p q s)
    (h.holders.congr (fun k => by rw [ctx]) fun i => by rw [Machine.reorderNew, State.record_setPort])
    ((works_reorderNew key before p s).queuesOk h.queues)

theorem CallsBeyond.setFreeCount {l : List SignalId} {s : State} (h : CallsBeyond l s) (n : Nat) :
    CallsBeyond l { s with freeCount := n } :=
  h.ofCtx (fun _ => rfl) rfl (fun _ => List.Subset.refl _) h.holders h.queues

theorem CallsBeyond.evaluateTouched {l : List SignalId} {s : State} (h : CallsBeyond l s) :
    CallsBeyond [] (evaluateTouched l s) := by
  have listed : CallsBeyond (touchedSignals l) s := h.mono fun _ => mem_touchedSignals.mpr
  exact ((listed.evaluateAll.reorderNew _ s .west).reorderNew _ s .east).setFreeCount _

/-! ## The report -/

theorem CallsBeyond.takeBusReport {s : State} (h : CallsBeyond [] s) (r : BusReport) :
    CallsBeyond [] (takeBusReport r s) := by
  obtain e | ⟨t, route, -, -, e⟩ := takeBusReport_cases r s <;> rw [e]
  · exact h
  · cases hcancel : t.cancel with
    | true =>
      rw [actOnReport_cancel hcancel]
      exact (h.closeTouching (slotsOf t.bus s) .canceled).evaluateTouched
    | false =>
      have matched := h.matchZone t route
      rw [actOnReport_update hcancel]
      refine CallsBeyond.evaluateTouched (CallsBeyond.onlyRecords ?_ (onlyRecords_updateRecords t _)
        (holdersOk_updateRecords matched.holders t))
      exact matched.mono fun _ => List.mem_append_left _

end Sys2Proof.Machine
end

section
/-! Calls through a load: the suspension of its scope, the entries stored, and its end (R116, R159 to R170). -/

namespace Sys2Proof.Machine

/-- A change of what the calls do not depend on: the contexts, the records and OBSERVE stay, and no call is queued. -/
theorem CallsBeyond.ofSame {l : List SignalId} {s t : State} (h : CallsBeyond l s) (ctx : ∀ k, t.ctx k = s.ctx k)
    (record : ∀ i, t.record i = s.record i) (observe : t.observe = s.observe)
    (queued : ∀ p, (t.port p).callQueue ⊆ (s.port p).callQueue) (queues : QueuesOk t) : CallsBeyond l t :=
  h.ofCtx ctx observe queued (h.holders.congr (fun k => by rw [ctx]) fun i => by rw [record]) queues

/-! ## Every service state recomputed (R112) -/

theorem recomputeAll_port (l : List SignalId) (s : State) (p : PortId) : (recomputeAll l s).port p = s.port p := by
  induction l generalizing s with
  | nil => rfl
  | cons k l ih =>
    rw [recomputeAll, List.foldl_cons]
    exact (ih (recompute k s)).trans (recompute_port k s p)

/-- Service states recomputed, each as it was unless its signal is listed. -/
theorem CallsBeyond.recomputeAll {l m : List SignalId} {s : State} (h : CallsBeyond m s)
    (state : ∀ k, k ∉ m → ((recomputeAll l s).ctx k).state = (s.ctx k).state) : CallsBeyond m (recomputeAll l s) := by
  have works := works_recomputeAll l s
  have kept (k : SignalId) : ((Machine.recomputeAll l s).ctx k).called = (s.ctx k).called ∧
      ((Machine.recomputeAll l s).ctx k).holder = (s.ctx k).holder := by
    rw [recomputeAll_ctx]
    split <;> exact ⟨rfl, rfl⟩
  refine h.steady ⟨fun k => (kept k).1, fun p => ?_, fun k _ => ⟨(kept k).2, works.observe, state k⟩⟩
    (holdersOk_recomputeAll h.holders l) (works.queuesOk h.queues)
  rw [recomputeAll_port]
  exact List.Subset.refl _

theorem CallsBeyond.recomputeAndEvaluate {s : State} (h : CallsBeyond [] s) :
    CallsBeyond [] (recomputeAndEvaluate s) := by
  rw [recomputeAndEvaluate_eq]
  refine ((h.mono (List.nil_subset _)).recomputeAll fun k hk => ?_).evaluateAll
  by_contra changed
  exact hk (List.mem_filter.mpr ⟨mem_allSignals k, bne_iff_ne.mpr changed⟩)

theorem CallsBeyond.recomputeOne {s : State} (h : CallsBeyond [] s) (k : SignalId) :
    CallsBeyond [] (recomputeOne k s) := by
  unfold Machine.recomputeOne
  dsimp only
  split
  · next same =>
    refine h.recomputeAll (l := [k]) fun j _ => ?_
    by_cases hj : j = k
    · rw [hj]
      exact same
    · rw [recomputeAll_ctx, if_neg fun mem => hj (List.mem_singleton.mp mem)]
  · have listed : CallsBeyond [k] s := h.mono (List.nil_subset _)
    exact (listed.recompute List.mem_cons_self).evaluateOne

/-! ## Entries stored (R16, R112, R165) -/

/-- A stored SIGNAL entry drops the call of a signal that it moves from its port (R16). -/
theorem CallsBeyond.storeSignalEntry {s : State} (h : CallsBeyond [] s) {i : Nat} {k : SignalId}
    (hk : indexBelow 16 i = some k) (bytes : List Byte) :
    CallsBeyond [] (dropMovedCall k (s.signalEntry k).configuredPort
      { s with tables := s.tables.storeEntry .signal i bytes }) := by
  refine h.ofSame (dropMovedCall_ctx k _ _) (fun j => ?_) (dropMovedCall_keeps k _ _).observe (fun p => ?_)
    (queuesOk_dropMovedCall k s _ (port_setTables s _) (fun j hj => ?_) h.queues)
  · unfold dropMovedCall
    split
    · rfl
    · split
      · rfl
      · exact State.record_setPort _ _ _ _
  · rw [dropMovedCall_port, port_setTables]
    split
    · exact fun c hc => (List.mem_filter.mp hc).1
    · exact List.Subset.refl _
  · exact signalEntry_storeEntry_ne s .signal i bytes fun e => hj (Fin.ext (e.2.symm.trans (indexBelow_some hk).symm))

/-- A stored entry that leaves the SIGNAL table. -/
theorem CallsBeyond.storeOtherEntry {l : List SignalId} {s : State} (h : CallsBeyond l s) {id : TableId} {i : Nat}
    (other : id ≠ .signal ∨ 16 ≤ i) (bytes : List Byte) :
    CallsBeyond l { s with tables := s.tables.storeEntry id i bytes } := by
  refine h.ofSame (fun _ => rfl) (fun _ => rfl) rfl (fun p => ?_)
    ((quiet_setTables s _ (s.tables.signal_storeEntry_other id i bytes other)).queuesOk h.queues)
  rw [port_setTables]
  exact List.Subset.refl _

theorem CallsBeyond.storeEntry {s : State} (h : CallsBeyond [] s) (id : TableId) (i : Nat) (bytes : List Byte) :
    CallsBeyond [] (storeEntry id i bytes s) := by
  have stored (other : id ≠ .signal ∨ 16 ≤ i) := h.storeOtherEntry other bytes
  cases id
  case signal =>
    unfold Machine.storeEntry
    dsimp only
    split
    · next beyond => exact stored (.inr (indexBelow_none beyond))
    · next k hk => exact (h.storeSignalEntry hk bytes).recomputeOne k
  case plan =>
    unfold Machine.storeEntry
    dsimp only
    split
    · exact stored (.inl (by decide))
    · exact (stored (.inl (by decide))).recomputeOne _
  all_goals exact stored (.inl (by decide))

/-- The load, the validities, the mode and the disabled signals are not what a call depends on. -/
theorem CallsBeyond.configure {l : List SignalId} {s : State} (h : CallsBeyond l s) (load : Option LoadContext)
    (v : Validities) (m : CorridorMode) (d : Vector Bool 16) :
    CallsBeyond l { s with load := load, validity := v, mode := m, disabled := d } :=
  h.ofSame (fun _ => rfl) (fun _ => rfl) rfl (fun _ => List.Subset.refl _)
    ((quiet_configure s load v m d s.observe).queuesOk h.queues)

theorem CallsBeyond.assemble {s : State} (h : CallsBeyond [] s) (fuel : Nat) (l : LoadContext) :
    CallsBeyond [] (assemble fuel l s) := by
  have opened {u : State} (hu : CallsBeyond [] u) (l : LoadContext) : CallsBeyond [] { u with load := some l } :=
    hu.configure (some l) u.validity u.mode u.disabled
  induction fuel generalizing l s with
  | zero => exact opened h l
  | succ fuel ih =>
    unfold Machine.assemble
    split
    · exact opened h l
    · exact ih ((opened h l).storeEntry _ _ _) l.advanced

/-! ## The suspension and the end of a load (R116, R163, R168, R170) -/

theorem CallsBeyond.scopeClosed {s : State} (h : CallsBeyond [] s) : CallsBeyond s.scope (scopeClosed s) := by
  have listed : CallsBeyond s.scope s := h.mono (List.nil_subset _)
  refine (listed.recomputeAll (l := s.scope) fun k hk => ?_).closeAll .suspended fun i hi r hr => ?_
  · rw [recomputeAll_ctx, if_neg hk]
  · obtain ⟨q, hq, covered⟩ := mem_slots_filter.mp hi
    obtain rfl : r = q := Option.some.inj (hr.symm.trans hq)
    exact mem_scope.mpr ((recomputeAll_covered s.scope s r.signal).symm.trans covered)

/-- A signal of the scope has lost its holder to the closures (R116). -/
theorem scopeClosed_holder {s : State} (holders : HoldersOk (scopeClosed s)) {k : SignalId} (hk : k ∈ s.scope) :
    ((scopeClosed s).ctx k).holder = none := by
  rw [Option.eq_none_iff_forall_ne_some]
  intro i hi
  obtain ⟨r, hr, rfl, -⟩ := holders.holder hi
  rw [scopeClosed_record, Option.filter_eq_some_iff] at hr
  rw [mem_scope.mp hk] at hr
  exact Bool.false_ne_true hr.2

theorem foldl_setCtx_port (f : State → SignalId → SignalContext) (l : List SignalId) (s : State) (p : PortId) :
    (l.foldl (fun t k => t.setCtx k (f t k)) s).port p = s.port p := by
  induction l generalizing s with
  | nil => rfl
  | cons k l ih => exact (ih (s.setCtx k (f s k))).trans (State.port_setCtx ..)

/-- The state in which the contexts of the scope have lost their values: step 3 of R163. -/
def scopeSuspended (s : State) : State :=
  s.scope.foldl (fun t k => t.setCtx k (t.ctx k).suspendedValues) (scopeClosed s)

theorem scopeSuspended_ctx (s : State) (k : SignalId) :
    (scopeSuspended s).ctx k =
      if k ∈ s.scope then ((scopeClosed s).ctx k).suspendedValues else (scopeClosed s).ctx k :=
  foldl_suspendedValues_ctx s.scope (scopeClosed s) k

theorem scopeSuspended_record (s : State) (i : SlotId) : (scopeSuspended s).record i = (scopeClosed s).record i :=
  foldl_setCtx_record _ s.scope (scopeClosed s) i

theorem works_scopeSuspended (s : State) : Works (scopeClosed s) (scopeSuspended s) :=
  works_foldl (fun t k => t.setCtx k (t.ctx k).suspendedValues) (fun u k => works_setCtx k _ u) s.scope (scopeClosed s)

theorem scopeSuspended_port (s : State) (p : PortId) : (scopeSuspended s).port p = (scopeClosed s).port p :=
  foldl_setCtx_port _ s.scope (scopeClosed s) p

/-- The contexts of the scope, without holders, have no calls to lose. -/
theorem CallsBeyond.scopeSuspended {s : State} (h : CallsBeyond [] s) : CallsBeyond s.scope (scopeSuspended s) := by
  have closed := h.scopeClosed
  have free {k : SignalId} (hk : k ∈ s.scope) := scopeClosed_holder closed.holders hk
  have works := works_scopeSuspended s
  refine closed.steady ⟨fun k => ?_, fun p => ?_, fun k on => ?_⟩ ?_ (works.queuesOk closed.queues)
  · rw [scopeSuspended_ctx]
    split
    · next hk => exact ((closed.sound k).unheld (free hk)).called.symm
    · rfl
  · rw [scopeSuspended_port]
    exact List.Subset.refl _
  · have hk : k ∉ s.scope := fun hk => by
      have held := on.holder
      rw [free hk] at held
      cases held
    rw [scopeSuspended_ctx, if_neg hk]
    exact ⟨rfl, works.observe, fun _ => rfl⟩
  · refine closed.holders.congr (fun k => ?_) fun i => by rw [scopeSuspended_record]
    rw [scopeSuspended_ctx]
    split
    · next hk => exact (free hk).symm
    · rfl

theorem CallsBeyond.suspendScope {s : State} (h : CallsBeyond [] s) : CallsBeyond [] (suspendScope s) :=
  h.scopeSuspended.evaluateAll

theorem CallsBeyond.openLoad {s : State} (h : CallsBeyond [] s) (id : TableId) (start expected : Nat) (p : PortId) :
    CallsBeyond [] (openLoad id start expected p s) := by
  have opened : CallsBeyond [] (loadOpened id start expected p s) := h.configure _ _ s.mode s.disabled
  have suspended := opened.suspendScope
  rw [openLoad_eq]
  exact suspended.configure _ _ _ _

theorem CallsBeyond.endLoad {s : State} (h : CallsBeyond [] s) (v : Parity) (id : TableId) (w : Validity) :
    CallsBeyond [] (endLoad v id w s) := by
  obtain ⟨-, -, -, -, observe, -⟩ := endLoad_keeps v id w s
  obtain ⟨-, -, queues, -⟩ := (acted_endLoad v id w s).rest
  refine h.ofSame (endLoad_ctx v id w s) (endLoad_record v id w s) observe (fun p => ?_) (queues h.queues)
  rw [endLoad_port, setParity_port_rest]
  exact List.Subset.refl _

end Sys2Proof.Machine
end

section
/-! Calls through the management requests and through every step. -/

namespace Sys2Proof.Machine

/-! ## Management requests (chapters 9 and 10) -/

/-- Without a call, a queued call or a record nothing is in force. -/
theorem callsBeyond_of_empty {s : State} (called : ∀ k, (s.ctx k).called = (none, none))
    (holder : ∀ k, (s.ctx k).holder = none) (record : ∀ i, s.record i = none) (queues : QueuesOk s)
    (queued : ∀ p, (s.port p).callQueue = []) : CallsBeyond [] s := by
  have off (k : SignalId) : CalledOff k s := ⟨called k, fun p c hc _ => by rw [queued p] at hc; cases hc⟩
  refine ⟨(holdersTrue_of_none holder record).1, queues, fun k => .inl (off k), fun k _ on => ?_⟩
  have call := on.call
  rw [(off k).call] at call
  cases call

theorem CallsBeyond.corridorReset {s : State} (h : CallsBeyond [] s) : CallsBeyond [] (corridorReset s) := by
  obtain ⟨-, -, queues, -⟩ := (acted_corridorReset s).rest
  refine callsBeyond_of_empty (fun k => ?_) (fun k => ?_) (fun i => ?_) (queues h.queues) fun p => ?_
  · rw [corridorReset_ctx]
    rfl
  · rw [corridorReset_ctx]
    rfl
  · rw [corridorReset_eq, withoutWaiting_record, recomputeAllSilently_record, emptied_record]
  · rw [corridorReset_port]

theorem CallsBeyond.actDisable {s : State} (h : CallsBeyond [] s) (code : Byte) (b : Bool) (signal : Byte) :
    CallsBeyond [] (actDisable code b signal s).1 := by
  unfold Machine.actDisable
  split
  · exact h
  · next k _ =>
    dsimp only
    split
    · exact h
    · have flagged : CallsBeyond [] (s.setDisabled k b) := h.configure s.load s.validity s.mode _
      have listed : CallsBeyond [k] (s.setDisabled k b) := flagged.mono (List.nil_subset _)
      exact (listed.recompute List.mem_cons_self).evaluateOne

/-- OBSERVE changes while no call is in force (R138, R178). -/
theorem CallsBeyond.observed {s : State} (h : CallsBeyond [] s) (idle : ∀ k, (s.ctx k).call = none) (b : Bool) :
    CallsBeyond [] (Machine.evaluateAll allSignals { s with observe := b }) := by
  have listed : CallsBeyond allSignals s := h.mono (List.nil_subset _)
  have steady : Steady allSignals s { s with observe := b } := by
    refine ⟨fun _ => rfl, fun _ => List.Subset.refl _, fun k on => ?_⟩
    have call := on.call
    rw [idle] at call
    cases call
  exact (listed.steady steady h.holders ((quiet_setObserve s b).queuesOk h.queues)).evaluateAll

theorem CallsBeyond.actObserveOn {s : State} (h : CallsBeyond [] s) : CallsBeyond [] (actObserveOn s).1 := by
  unfold Machine.actObserveOn
  dsimp only
  split
  · exact h
  · have cancelled : CallsBeyond [] (cancelAll s) :=
      List.foldlRecOn (motive := CallsBeyond []) _ _ h fun u hu k _ => hu.generateCancel k
    refine cancelled.observed (fun k => ?_) true
    rw [cancelAll_eq]
    exact cancelEach_call allSignals (.inl (mem_allSignals k))

theorem CallsBeyond.actObserveOff {s : State} (h : CallsBeyond [] s) : CallsBeyond [] (actObserveOff s).1 := by
  unfold Machine.actObserveOff
  dsimp only
  split
  · next observes =>
    refine h.observed (fun k => CalledOff.call ((h.sound k).resolve_right fun on => ?_)) false
    rw [on.observe] at observes
    cases observes
  · exact h

theorem CallsBeyond.needLength {s : State} (h : CallsBeyond [] s) (kind : Byte) (n : Nat) (payload : List Byte)
    {act : State → State × Answer} (hact : CallsBeyond [] (act s).1) :
    CallsBeyond [] (needLength kind n payload act s).1 :=
  needLength_cases (P := fun x => CallsBeyond [] x.1) kind n payload act s h hact

theorem CallsBeyond.actControl {s : State} (h : CallsBeyond [] s) (payload : List Byte) :
    CallsBeyond [] (actControl payload s).1 := by
  refine h.needLength _ _ _ ?_
  dsimp only
  split
  · exact h.actDisable _ _ _
  split
  · exact h.actDisable _ _ _
  split
  · exact h.actObserveOn
  split
  · exact h.actObserveOff
  split
  · exact h.corridorReset
  · exact h

theorem CallsBeyond.actTableOpen {s : State} (h : CallsBeyond [] s) (p : PortId) (payload : List Byte) :
    CallsBeyond [] (actTableOpen p payload s).1 := by
  refine h.needLength _ _ _ ?_
  dsimp only
  split
  · exact h
  split
  · exact h
  split
  · exact h
  · exact h.openLoad _ _ _ p

theorem CallsBeyond.actTableWrite {s : State} (h : CallsBeyond [] s) (p : PortId) (payload : List Byte) :
    CallsBeyond [] (actTableWrite p payload s).1 := by
  unfold Machine.actTableWrite
  split
  · exact h
  split
  · exact h
  split
  · exact h
  · exact h.assemble _ _

theorem CallsBeyond.actTableSeek {s : State} (h : CallsBeyond [] s) (p : PortId) (payload : List Byte) :
    CallsBeyond [] (actTableSeek p payload s).1 := by
  refine h.needLength _ _ _ ?_
  split
  · exact h
  dsimp only
  split
  · exact h
  · exact h.configure _ s.validity s.mode s.disabled

theorem CallsBeyond.actTableClose {s : State} (h : CallsBeyond [] s) (p : PortId) (payload : List Byte) :
    CallsBeyond [] (actTableClose p payload s).1 := by
  refine h.needLength _ _ _ ?_
  split
  · exact h
  split
  · exact h
  split
  · exact h
  split
  · exact h
  · dsimp only
    rw [closeLoad_eq]
    exact (h.endLoad _ _ _).recomputeAndEvaluate

theorem CallsBeyond.actTableAbandon {s : State} (h : CallsBeyond [] s) (payload : List Byte) :
    CallsBeyond [] (actTableAbandon payload s).1 := by
  refine h.needLength _ _ _ ?_
  split
  · exact h
  · dsimp only
    rw [abandonLoad_eq]
    exact (h.endLoad _ _ _).recomputeAndEvaluate

theorem CallsBeyond.setReports {l : List SignalId} {s : State} (h : CallsBeyond l s) (r : List Report) :
    CallsBeyond l (s.setReports r) :=
  h.ofSame (fun _ => rfl) (fun _ => rfl) rfl (fun _ => List.Subset.refl _) h.queues

theorem CallsBeyond.actReadReports {s : State} (h : CallsBeyond [] s) (payload : List Byte) :
    CallsBeyond [] (actReadReports payload s).1 := by
  refine h.needLength _ _ _ ?_
  dsimp only
  split
  · exact h
  · exact h.setReports _

theorem CallsBeyond.actRequest {s : State} (h : CallsBeyond [] s) (p : PortId) (kind : Byte) (payload : List Byte) :
    CallsBeyond [] (actRequest p kind payload s).1 := by
  have unchanged {t : State} (e : t = s) : CallsBeyond [] t := e ▸ h
  exact actRequest_cases (P := fun _ x => CallsBeyond [] x.1) p kind payload s
    (unchanged (actQueryStatus_state payload s)) (unchanged (actQuerySignal_state payload s))
    (unchanged (actQueryRequests_state payload s)) (h.actReadReports payload) (h.actControl payload)
    (h.actTableOpen p payload) (h.actTableWrite p payload) (h.actTableSeek p payload) (h.actTableClose p payload)
    (h.actTableAbandon payload) (unchanged (actTableRead_state payload s)) fun _ => h

/-! ## The line (chapter 1) -/

/-- A change of one port that queues no call. -/
theorem CallsBeyond.setPort {l : List SignalId} {s : State} (h : CallsBeyond l s) {p : PortId} {q : Port}
    (calls : q.callQueue = (s.port p).callQueue) (queues : QueuesOk (s.setPort p q)) : CallsBeyond l (s.setPort p q) := by
  refine h.ofSame (State.ctx_setPort s p q) (State.record_setPort s p q) (setPort_keeps p q s).observe (fun r => ?_) queues
  by_cases e : r = p
  · subst e
    rw [State.port_setPort_self, calls]
    exact List.Subset.refl _
  · rw [State.port_setPort_ne _ _ e]
    exact List.Subset.refl _

/-- A change of one port beside its queues. -/
theorem CallsBeyond.setReceiver {l : List SignalId} {s : State} (h : CallsBeyond l s) {p : PortId} {q : Port}
    (repeats : q.repeatQueue = (s.port p).repeatQueue) (calls : q.callQueue = (s.port p).callQueue) :
    CallsBeyond l (s.setPort p q) := by
  refine h.setPort calls (h.queues.congr (fun r => ?_) (setPort_keeps p q s).tables)
  by_cases e : r = p
  · subst e
    rw [State.port_setPort_self]
    exact ⟨repeats, calls⟩
  · rw [State.port_setPort_ne _ _ e]
    exact ⟨rfl, rfl⟩

theorem CallsBeyond.repeatFrame {l : List SignalId} {s : State} (h : CallsBeyond l s) (p : PortId) (frame : List Byte) :
    CallsBeyond l (repeatFrame p frame s) :=
  h.setPort (by rw [offerRepeat_rest]) ((quiet_repeatFrame p frame s).queuesOk h.queues)

theorem CallsBeyond.answerRequest {s : State} (h : CallsBeyond [] s) (p : PortId) (src kind : Byte)
    (payload : List Byte) : CallsBeyond [] (answerRequest p src (Machine.actRequest p kind payload) s) := by
  unfold Machine.answerRequest
  split
  · exact h
  · exact CallsBeyond.setReceiver (h.actRequest p kind payload) rfl rfl

theorem CallsBeyond.handToBlock {s : State} (h : CallsBeyond [] s) (p : PortId) (f : Frame) :
    CallsBeyond [] (handToBlock p f s) := by
  unfold Machine.handToBlock
  split
  · split
    · exact h.takeBusReport _
    · exact h
  · split
    · split
      · exact h.handStatus p _ _
      · exact h
    · exact h.answerRequest p _ _ _

theorem CallsBeyond.dispatchFrame {s : State} (h : CallsBeyond [] s) (p : PortId) (f : Frame) :
    CallsBeyond [] (dispatchFrame p f s) := by
  have repeated := h.repeatFrame p f.raw
  unfold Machine.dispatchFrame
  split
  · exact repeated
  · split
    · exact repeated
    · exact repeated.handToBlock p f
    · exact h.handToBlock p f

theorem CallsBeyond.returnToLearning {s : State} (h : CallsBeyond [] s) (p : PortId) :
    CallsBeyond [] (returnToLearning p s) := by
  unfold Machine.returnToLearning
  split
  · have learning : CallsBeyond [] (s.setPort p (s.port p).enterLearning) := h.setReceiver rfl rfl
    exact learning.setReports _
  · exact h

theorem CallsBeyond.takeCleanSync {s : State} (h : CallsBeyond [] s) (p : PortId) (seen : List (Rate × LineChar)) :
    CallsBeyond [] (takeCleanSync p seen s) := by
  unfold Machine.takeCleanSync
  split
  · split
    · exact h
    · next r _ =>
      have running : CallsBeyond [] (s.setPort p ((s.port p).enterRunning r)) := h.setReceiver rfl rfl
      exact running.setReports _
  · exact h

theorem CallsBeyond.takeEndingGap {s : State} (h : CallsBeyond [] s) (p : PortId) (idleBefore : Bool)
    (chars : List LineChar) : CallsBeyond [] (takeEndingGap p idleBefore chars s) := by
  have received {q : Port} (repeats : q.repeatQueue = (s.port p).repeatQueue)
      (calls : q.callQueue = (s.port p).callQueue) : CallsBeyond [] (s.setPort p q) := h.setReceiver repeats calls
  unfold Machine.takeEndingGap
  dsimp only
  split
  · exact h
  · split
    · exact received rfl rfl
    · split
      · exact received rfl rfl
      · unfold judgeFrame
        dsimp only
        split
        · refine CallsBeyond.dispatchFrame (received ?_ ?_) p _ <;> rfl
        · refine CallsBeyond.returnToLearning (received ?_ ?_) p <;> rfl

theorem CallsBeyond.takeGapEnd {s : State} (h : CallsBeyond [] s) (p : PortId) : CallsBeyond [] (takeGapEnd p s) := by
  refine h.setReceiver ?_ ?_ <;> rw [Port.endFrame_rest]

/-! ## Every step -/

theorem CallsBeyond.effect {s : State} (h : CallsBeyond [] s) (c : Instr) : CallsBeyond [] (effect c s) := by
  cases hr : requestOf c with
  | some r =>
    rw [effect_request hr]
    exact handedOver_of (P := CallsBeyond []) _ h (h.answerRequest _ _ _ _)
  | none =>
    rw [effect_own hr]
    cases c
    case cleanSyncLearned p seen => exact h.takeCleanSync p seen
    case frameEndingGap p b l => exact h.takeEndingGap p b l
    case returnToLearning p => exact h.returnToLearning p
    case busReport p r => exact handedOver_of (P := CallsBeyond []) p h (h.takeBusReport r)
    case signalStatus p src f => exact handedOver_of (P := CallsBeyond []) p h (h.handStatus p src f)
    case freshnessExpiry k => exact h.takeFreshnessExpiry k
    case horizonEntry i => exact h.takeHorizonEntry i
    case ageExpiry i => exact h.takeAgeExpiry i
    case projectionExpiry i => exact h.takeProjectionExpiry i
    case refreshExpiry k => exact h.takeRefreshExpiry k
    case transmitGapEnd p => exact h.takeGapEnd p
    all_goals exact h

/-- The input sequence, the clock and the count of free choices are not what a call depends on. -/
theorem CallsBeyond.setCourse {l : List SignalId} {s : State} (h : CallsBeyond l s) (pending : List Instr)
    (clock : Time) (freeCount : Nat) :
    CallsBeyond l { s with pending := pending, clock := clock, freeCount := freeCount } :=
  h.ofSame (fun _ => rfl) (fun _ => rfl) rfl (fun _ => List.Subset.refl _) h.queues

/-- The arbiters take calls from the heads of the queues (R18). -/
theorem CallsBeyond.finish {s : State} (h : CallsBeyond [] s) : CallsBeyond [] (finish s) := by
  refine h.ofSame (finish_ctx s) (finish_record s) (finish_keeps s).observe (fun p => ?_) (queuesOk_finish s h.queues)
  rw [finish_port]
  exact (transmit_queues _ _ _).1.subset

theorem callsBeyond_afterReset (s : State) (held : Bool) (own : Option (BitVec 6)) :
    CallsBeyond [] (afterReset s held own) := by
  have silent := silent_afterReset s held own
  have queued (p : PortId) := (silent.port p).1
  refine callsBeyond_of_empty (fun k => ?_) (fun k => ?_) silent.record ((queuesOk_iff _).mpr fun p => ?_) queued
  · rw [silent.ctx]
    rfl
  · rw [silent.ctx]
    rfl
  · unfold PortQueuesOk
    rw [afterReset_port]
    exact ⟨Nat.zero_le _, List.nodup_nil, nofun⟩

/-- Settles O52: a signal evaluates in every event that changes its service state or its holder, an evaluation leaves a call
in force at a READY signal only, and a call that ends leaves a CANCEL in place of its slot. -/
theorem callsStayInForceRightly : Obligations.CallsStayInForceRightly := by
  intro s t _ queues holders calls queued ht
  have after : CallsBeyond [] t := by
    refine step_keeps (fun s l h => h.setCourse l s.clock s.freeCount) (fun s x h => h.setCourse s.pending x s.freeCount)
      (fun s n h => h.setCourse s.pending s.clock n) (fun c s t h ht => ?_)
      (callsBeyond_of_ok holders queues calls queued) ht
    exact exec_keeps callsBeyond_afterReset (fun c s _ _ h => (h.effect c).finish) h ht
  exact ⟨after.callsOk, after.queuedCallsOk⟩

end Sys2Proof.Machine
end

section
/-! The refresh of a call and its lapse: what each leaves of the context, of the holder's record and of the call queues, and
the refresh expiry as one or the other after its evaluation (R149 to R152). -/

namespace Sys2Proof.Machine

/-! ## A refresh copy (R151) -/

/-- The state in which a refresh copy has been counted and its timer set, before the copy is placed. -/
def recounted (k : SignalId) (i : SlotId) (s : State) : State :=
  (s.setCtx k { s.ctx k with
    refreshCount := (s.ctx k).refreshCount + 1
    refreshTimer := some (later s.clock (s.planInEffect k).refreshPeriod) }).modRecord i
      fun r => { r with refreshCount := r.refreshCount + 1 }

theorem refreshCopy_eq {k : SignalId} {s : State} {c : CallContent} {i : SlotId} (call : (s.ctx k).call = some c)
    (holder : (s.ctx k).holder = some i) : refreshCopy k s = placeCall k c (recounted k i s) := by
  rw [refreshCopy, call, holder]
  rfl

theorem refreshCopy_ctx {k : SignalId} {s : State} {c : CallContent} {i : SlotId} (call : (s.ctx k).call = some c)
    (holder : (s.ctx k).holder = some i) :
    (refreshCopy k s).ctx k = { s.ctx k with
      refreshCount := (s.ctx k).refreshCount + 1
      refreshTimer := some (later s.clock (s.planInEffect k).refreshPeriod) } := by
  rw [refreshCopy_eq call holder, placeCall_ctx]
  exact State.ctx_setCtx_self s k _

theorem refreshCopy_record {k : SignalId} {s : State} {c : CallContent} {i : SlotId} (call : (s.ctx k).call = some c)
    (holder : (s.ctx k).holder = some i) (j : SlotId) :
    (refreshCopy k s).record j =
      if j = i then (s.record j).map fun r => { r with refreshCount := r.refreshCount + 1 } else s.record j := by
  rw [refreshCopy_eq call holder, placeCall_record, recounted, State.record_modRecord]
  rfl

/-- A generated call changes a port in its call queue alone (R14). -/
theorem placeCall_port_rest (k : SignalId) (c : CallContent) (s : State) (p : PortId) :
    { (placeCall k c s).port p with callQueue := [] } = { s.port p with callQueue := [] } := by
  rw [placeCall_port]
  split <;> rfl

/-- The copy carries the content of the call in force, and only the call queues change of the ports (R15, R151). -/
theorem refreshCopy_port_rest {k : SignalId} {s : State} {c : CallContent} {i : SlotId} (call : (s.ctx k).call = some c)
    (holder : (s.ctx k).holder = some i) (p : PortId) :
    { (refreshCopy k s).port p with callQueue := [] } = { s.port p with callQueue := [] } := by
  rw [refreshCopy_eq call holder, placeCall_port_rest, recounted, State.port_modRecord, State.port_setCtx]

theorem refreshCopy_mem {k : SignalId} {s : State} {c : CallContent} {i : SlotId} (call : (s.ctx k).call = some c)
    (holder : (s.ctx k).holder = some i) {p : PortId} (configured : (s.signalEntry k).configuredPort = some p) :
    (⟨k, (s.signalEntry k).cabinet, c⟩ : CallSlot) ∈ ((refreshCopy k s).port p).callQueue := by
  rw [refreshCopy_eq call holder]
  exact placeCall_mem k c (recounted k i s) p configured

/-! ## A lapse (R152) -/

/-- A record that is not eligible, at a signal without a holder, is left as it is by an evaluation (R121, R123). -/
theorem evaluate_ineligible {k : SignalId} {s : State} {i : SlotId} {x : RequestRecord} (free : (s.ctx k).holder = none)
    (hx : s.record i = some x) (ineligible : eligible k s x = false) :
    (evaluate k s).record i = some x ∧ ((evaluate k s).ctx k).holder ≠ some i := by
  have settled : (settleHolder k s).record i = some x ∧ ((settleHolder k s).ctx k).holder ≠ some i := by
    rw [settleHolder, holderOf_none free]
    dsimp only
    cases hc : candidate k s with
    | none => exact ⟨hx, by rw [takeCandidate, free]; nofun⟩
    | some c =>
      obtain ⟨hcr, heligible⟩ := candidate_some hc
      have other : i ≠ c.1 := by
        rintro rfl
        rw [← Option.some.inj (hx.symm.trans hcr), ineligible] at heligible
        cases heligible
      rw [takeCandidate, takeHolding_record, takeHolding_holder, if_neg other]
      exact ⟨hx, fun e => other (Option.some.inj e).symm⟩
  have accounts := accounts_serveHolder k (settleHolder k s)
  obtain ⟨q, hq, -, -, -, -, unheld⟩ := accounts.record i x settled.1
  refine ⟨(unheld settled.2 ▸ hq :), ?_⟩
  rw [evaluate_holder]
  exact settled.2

theorem released_lapsed (r : RequestRecord) (now : Time) (horizon : Nat) :
    (r.released now horizon).lapsed = r.lapsed := by
  unfold RequestRecord.released
  split
  · rfl
  · exact byHorizon_lapsed r now horizon

theorem released_account (r : RequestRecord) (now : Time) (horizon : Nat) :
    (r.released now horizon).account = r.account := by
  unfold RequestRecord.released
  split
  · rfl
  · exact byHorizon_account r now horizon

theorem eligible_of_lapsed {k : SignalId} {s : State} {r : RequestRecord} (h : r.lapsed = true) :
    eligible k s r = false := by
  rw [eligible, h, Bool.not_true, Bool.and_false]

/-- The holder of a call that lapses is LAPSED and holds no more, with its account as it was (R124, R152). -/
theorem lapse_record {k : SignalId} {s : State} {i : SlotId} {x : RequestRecord} (holder : (s.ctx k).holder = some i)
    (hx : s.record i = some x) :
    ((lapse k s).ctx k).holder ≠ some i ∧
      ∃ y, (lapse k s).record i = some y ∧ y.lapsed = true ∧ y.state ≠ .holding ∧ y.account = x.account := by
  have cancelled : ((generateCancel k s).ctx k).holder = some i := (generateCancel_holder k s).trans holder
  have marked : markLapsed k (generateCancel k s) =
      (generateCancel k s).modRecord i fun r => { r with lapsed := true } := by rw [markLapsed, cancelled]
  have gone : (giveUp k (markLapsed k (generateCancel k s))).record i = some (({ x with lapsed := true } :
      RequestRecord).released (markLapsed k (generateCancel k s)).clock
        ((markLapsed k (generateCancel k s)).horizonUnits k)) := by
    rw [giveUp_record (by rw [marked]; exact cancelled), if_pos rfl]
    rw [marked, State.record_modRecord_self, generateCancel_record, hx]
    rfl
  have lapsed := released_lapsed { x with lapsed := true } (markLapsed k (generateCancel k s)).clock
    ((markLapsed k (generateCancel k s)).horizonUnits k)
  obtain ⟨record, unheld⟩ := evaluate_ineligible (giveUp_holder k _).1 gone (eligible_of_lapsed lapsed)
  exact ⟨unheld, _, record, lapsed, released_state_ne _ _, released_account _ _ _⟩

/-! ## The refresh expiry (R149, R150) -/

theorem exec_refreshExpiry (k : SignalId) (s : State) :
    exec (.refreshExpiry k) s = .next (event (takeRefreshExpiry k) s) := rfl

theorem takeRefreshExpiry_early {k : SignalId} {s : State} (h : ¬ Due s (.refreshExpiry k)) : takeRefreshExpiry k s = s :=
  if_neg fun due => h ((refreshDue_iff s k).mp due)

theorem takeRefreshExpiry_due {k : SignalId} {s : State} (h : Due s (.refreshExpiry k)) :
    takeRefreshExpiry k s = refreshOrLapse k s :=
  if_pos ((refreshDue_iff s k).mpr h)

theorem refreshOrLapse_changed {k : SignalId} {s : State} (h : callUnchanged k s (evaluate k s) = false) :
    refreshOrLapse k s = evaluate k s :=
  if_neg (by rw [h]; exact Bool.false_ne_true)

theorem refreshOrLapse_below {k : SignalId} {s : State} (h : callUnchanged k s (evaluate k s) = true)
    (below : ((evaluate k s).ctx k).refreshCount < ((evaluate k s).planInEffect k).maxRefreshes.toNat) :
    refreshOrLapse k s = refreshCopy k (evaluate k s) :=
  (if_pos h).trans (if_pos below)

theorem refreshOrLapse_limit {k : SignalId} {s : State} (h : callUnchanged k s (evaluate k s) = true)
    (limit : ((evaluate k s).planInEffect k).maxRefreshes.toNat ≤ ((evaluate k s).ctx k).refreshCount) :
    refreshOrLapse k s = lapse k (evaluate k s) :=
  (if_pos h).trans (if_neg (Nat.not_lt.mpr limit))

/-- Settles O34: a due expiry is the evaluation, and then the copy below N, the lapse at N, or nothing for a changed call. -/
theorem refreshExpiryCopiesOrLapses : Obligations.RefreshExpiryCopiesOrLapses := by
  have due {k : SignalId} {h : Time} {s : State} (run : s.resetHeld = false) (timer : (s.ctx k).refreshTimer = some h)
      (reached : 0 ≤ timeDiff s.clock h) : exec (.refreshExpiry k) s = .next (finish (refreshOrLapse k s)) := by
    rw [exec_refreshExpiry, event_run _ s run, takeRefreshExpiry_due ⟨h, timer, reached⟩]
  refine ⟨?_, fun k h s run timer reached changed => ?_, fun k s run early => ?_⟩
  · rintro k h s t c i x run timer reached rfl unchanged call holder hx
    refine ⟨fun below => ?_, fun limit => ?_⟩
    · have serves := serves_refreshCopy k (evaluate k s)
      refine ⟨refreshCopy k (evaluate k s), by rw [due run timer reached, refreshOrLapse_below unchanged below],
        ?_, serves.ctxOther, ?_, fun j hj => ?_, serves.keeps, serves.reports,
        refreshCopy_port_rest call holder, fun q => refreshCopy_mem call holder⟩
      · rw [refreshCopy_ctx call holder, (serves_evaluate k s).clock]
        rfl
      · rw [refreshCopy_record call holder, if_pos rfl, hx]
        rfl
      · rw [refreshCopy_record call holder, if_neg hj]
    · have serves := serves_lapse k (evaluate k s)
      obtain ⟨unheld, y, hy, lapsed, state, account⟩ := lapse_record holder hx
      obtain ⟨-, -, committed, count, lastCall⟩ := account_eq_iff.mp account
      exact ⟨lapse k (evaluate k s), y, by rw [due run timer reached, refreshOrLapse_limit unchanged limit], hy, lapsed,
        state, unheld, count, lastCall, committed, serves.ctxOther, serves.keeps, serves.reports⟩
  · rw [due run timer reached, refreshOrLapse_changed changed]
  · rw [exec_refreshExpiry, event_run _ s run, takeRefreshExpiry_early early]

end Sys2Proof.Machine
end

section
/-! The refresh count of a call in force: what it must be at one signal, and what an evaluation makes of it (R143, R146, R151,
R153). -/

namespace Sys2Proof.Machine

/-! ## The tally of a signal -/

/-- The refresh count in the record of a signal's holder. -/
def State.heldCount (s : State) (k : SignalId) : Option Nat :=
  (s.ctx k).holder.bind fun i => (s.record i).map RequestRecord.refreshCount

theorem State.heldCount_of_holder {s : State} {k : SignalId} {i : SlotId} (h : (s.ctx k).holder = some i) :
    s.heldCount k = (s.record i).map RequestRecord.refreshCount := by
  rw [State.heldCount, h, Option.bind_some]

theorem State.heldCount_of_unheld {s : State} {k : SignalId} (h : (s.ctx k).holder = none) : s.heldCount k = none := by
  rw [State.heldCount, h, Option.bind_none]

/-- The held count goes by the holder and the count in the record that holds. -/
theorem heldCount_congr {s t : State} {k : SignalId} (holder : (t.ctx k).holder = (s.ctx k).holder)
    (record : ∀ i, (s.ctx k).holder = some i →
      (t.record i).map RequestRecord.refreshCount = (s.record i).map RequestRecord.refreshCount) :
    t.heldCount k = s.heldCount k := by
  cases held : (s.ctx k).holder with
  | none => rw [State.heldCount_of_unheld held, State.heldCount_of_unheld (holder.trans held)]
  | some i => rw [State.heldCount_of_holder held, State.heldCount_of_holder (holder.trans held), record i held]

/-- A call is in force at a signal. -/
def Calls (k : SignalId) (s : State) : Prop := (s.ctx k).call.isSome = true

theorem not_calls {k : SignalId} {s : State} (h : (s.ctx k).call = none) : ¬ Calls k s := by
  rw [Calls, h]
  nofun

/-- The refresh count of a signal is at most N of its plan in effect. -/
def WithinLimit (k : SignalId) (s : State) : Prop :=
  (s.ctx k).refreshCount ≤ (s.planInEffect k).maxRefreshes.toNat

/-- While a call is in force its signal has been heard and no open load covers it, its holder's record has its refresh count
(R151), and unless the signal is listed that count is within N of the plan in effect (R153). -/
structure TallyOk (l : List SignalId) (k : SignalId) (s : State) : Prop where
  taken : (s.ctx k).taken = none ↔ (s.ctx k).freshness = .never
  heard : Calls k s → (s.ctx k).freshness ≠ .never
  uncovered : Calls k s → s.covered k = false
  counted : Calls k s → s.heldCount k = some (s.ctx k).refreshCount
  limit : k ∉ l → Calls k s → WithinLimit k s

/-- The values of a context that its tally depends on, beside its freshness. -/
def SignalContext.tallied (c : SignalContext) :
    Option (Half × Time) × Option CallContent × Nat × Option SlotId × PlanId :=
  (c.taken, c.call, c.refreshCount, c.holder, c.plan)

theorem tallied_eq {c d : SignalContext} (h : d.tallied = c.tallied) :
    d.taken = c.taken ∧ d.call = c.call ∧ d.refreshCount = c.refreshCount ∧ d.holder = c.holder ∧ d.plan = c.plan := by
  simpa only [SignalContext.tallied, Prod.mk.injEq] using h

/-- Without a call there is nothing to count. -/
theorem tallyOk_of_idle {k : SignalId} {s : State} (taken : (s.ctx k).taken = none ↔ (s.ctx k).freshness = .never)
    (idle : (s.ctx k).call = none) (l : List SignalId) : TallyOk l k s :=
  ⟨taken, fun on => absurd on (not_calls idle), fun on => absurd on (not_calls idle),
    fun on => absurd on (not_calls idle), fun _ on => absurd on (not_calls idle)⟩

theorem TallyOk.relist {l m : List SignalId} {k : SignalId} {s : State} (h : TallyOk l k s) (hlm : k ∈ l → k ∈ m) :
    TallyOk m k s :=
  ⟨h.taken, h.heard, h.uncovered, h.counted, fun hm => h.limit fun hl => hm (hlm hl)⟩

/-- A signal without a holder has no call. -/
theorem TallyOk.unheld {l : List SignalId} {k : SignalId} {s : State} (h : TallyOk l k s)
    (free : (s.ctx k).holder = none) : (s.ctx k).call = none := by
  by_contra on
  have counted := h.counted (Option.isSome_iff_ne_none.mpr on)
  rw [State.heldCount_of_unheld free] at counted
  cases counted

/-- A tally goes by the values of the context, the plan in effect, the cover of the open load and the held count. -/
theorem TallyOk.congr {l : List SignalId} {k : SignalId} {s t : State} (h : TallyOk l k s)
    (tallied : (t.ctx k).tallied = (s.ctx k).tallied)
    (freshness : (t.ctx k).freshness = .never ↔ (s.ctx k).freshness = .never)
    (plan : t.tables.planEntry k (s.ctx k).plan = s.tables.planEntry k (s.ctx k).plan)
    (covered : t.covered k = true → s.covered k = true) (held : t.heldCount k = s.heldCount k) : TallyOk l k t := by
  obtain ⟨taken, call, count, -, planId⟩ := tallied_eq tallied
  have before (on : Calls k t) : Calls k s := by rwa [Calls, call] at on
  have effect : t.planInEffect k = s.planInEffect k := by rw [State.planInEffect, planId, plan]; rfl
  refine ⟨by rw [taken, freshness, h.taken], fun on never => h.heard (before on) (freshness.mp never), fun on => ?_,
    fun on => by rw [held, count, h.counted (before on)], fun hk on => ?_⟩
  · by_contra hk
    rw [Bool.not_eq_false] at hk
    exact Bool.false_ne_true ((h.uncovered (before on)).symm.trans (covered hk))
  · rw [WithinLimit, count, effect]
    exact h.limit hk (before on)

/-- The tally of a context in the same configuration. -/
theorem TallyOk.same {l : List SignalId} {k : SignalId} {s t : State} (h : TallyOk l k s) (config : SameConfig s t)
    (tallied : (t.ctx k).tallied = (s.ctx k).tallied) (freshness : (t.ctx k).freshness = (s.ctx k).freshness)
    (held : t.heldCount k = s.heldCount k) : TallyOk l k t :=
  h.congr tallied (by rw [freshness]) (by rw [config.tables])
    (fun covered => by rwa [State.covered, config.load] at covered) held

theorem Serves.taken {k : SignalId} {s t : State} (h : Serves k s t) (j : SignalId) :
    (t.ctx j).taken = (s.ctx j).taken := by
  have e := congrArg SignalContext.taken (h.ctxUnserved j)
  exact e

/-- What serves a signal and leaves it without a call. -/
theorem TallyOk.calledOff {l m : List SignalId} {k : SignalId} {s t : State} (h : TallyOk l k s) (serves : Serves k s t)
    (idle : (t.ctx k).call = none) : TallyOk m k t := by
  exact tallyOk_of_idle (by rw [serves.taken, serves.freshness, h.taken]) idle m

/-! ## What an evaluation makes of a call (R137, R143) -/

/-- The call of a signal stands as it did: the same content and holder, and the same refresh counts. -/
def CallStands (k : SignalId) (s t : State) : Prop :=
  (t.ctx k).tallied = (s.ctx k).tallied ∧ t.heldCount k = s.heldCount k

/-- The call of a READY signal has been generated anew, with both refresh counts at 0 (R143). -/
def CallRenewed (k : SignalId) (s t : State) : Prop :=
  (s.ctx k).state = .ready ∧ (t.ctx k).refreshCount = 0 ∧ t.heldCount k = some 0

/-- A signal's holder is settled with its call as it was, or without a call (R123, R124). -/
theorem settleHolder_call {k : SignalId} {s : State} (holders : HoldersOk s)
    (unheld : (s.ctx k).holder = none → (s.ctx k).call = none) :
    ((settleHolder k s).ctx k).call = none ∨ settleHolder k s = s := by
  have taking (i : SlotId) (u : State) : ((takeHolding k i u).ctx k).call = (u.ctx k).call := by
    rw [takeHolding, State.ctx_setCtx_self]
  obtain ⟨free, e⟩ | ⟨i, r, -, ⟨-, e⟩ | ⟨-, e⟩ | ⟨j, q, -, -, e⟩⟩ := settleHolder_cases k s <;> rw [e]
  · have idle := unheld (holders.holderOf_none free)
    cases candidate k s with
    | none => exact .inl idle
    | some x => exact .inl ((taking x.1 s).trans idle)
  · exact .inr rfl
  · exact .inl (giveUp_holder k s).2
  · exact .inl ((taking j (giveUp k s)).trans (giveUp_holder k s).2)

theorem recordOutcome_heldCount (k : SignalId) (i : SlotId) (o : ServiceOutcome × Bool) (s : State) :
    (recordOutcome i o s).heldCount k = s.heldCount k := by
  refine heldCount_congr rfl fun j _ => ?_
  rw [recordOutcome, State.record_modRecord]
  split
  · rw [Option.map_map]
    rfl
  · rfl

theorem generateCall_counts {k : SignalId} {s : State} {i : SlotId} {r q : RequestRecord}
    (held : (s.ctx k).holder = some i) (hq : s.record i = some q) (action : CallAction) (n : Nat) (pf : Bool) :
    ((generateCall k i r action n pf s).ctx k).refreshCount = 0 ∧
      (generateCall k i r action n pf s).heldCount k = some 0 := by
  have ctx : (generateCall k i r action n pf s).ctx k = (s.ctx k).withCall (callContent (s.planInEffect k) r action n pf)
      (n - r.committed) (later s.clock (s.planInEffect k).refreshDelay) := by
    rw [generateCall_eq, placeCall_ctx, charged_ctx]
  have record : (generateCall k i r action n pf s).record i = some (q.withCall action n) := by
    rw [generateCall, placeCall_record, State.record_modRecord_self, State.record_setCtx, hq]
    rfl
  rw [State.heldCount_of_holder (by rw [ctx]; exact held), ctx, record]
  exact ⟨rfl, rfl⟩

theorem serveHolder_call (k : SignalId) (s : State) :
    ((serveHolder k s).ctx k).call = none ∨ CallRenewed k s (serveHolder k s) ∨ CallStands k s (serveHolder k s) := by
  unfold serveHolder
  split
  · exact .inr (.inr ⟨rfl, rfl⟩)
  · next i r found =>
    obtain ⟨held, hr⟩ := holderOf_eq_some found
    split
    · exact .inr (.inr ⟨rfl, rfl⟩)
    · next o outcome =>
      have stands : CallStands k s (recordOutcome i o s) := ⟨rfl, recordOutcome_heldCount k i o s⟩
      cases asks : o.1.asks with
      | none =>
        rw [actOnOutcome_withdraws asks]
        exact .inl (generateCancel_call k _)
      | some x =>
        rw [actOnOutcome_asks asks]
        split
        · exact .inr (.inr stands)
        · obtain ⟨ready, -⟩ := holderOutcome_asks outcome asks
          have recorded : (recordOutcome i o s).record i =
              some { r with lastOutcome := some o.1, partialFlag := o.2 } := by
            rw [recordOutcome, State.record_modRecord_self, hr]
            rfl
          exact .inr (.inl ⟨ready, generateCall_counts (s := recordOutcome i o s) held recorded _ _ _⟩)

/-- An evaluation leaves no call, a call generated anew at a READY signal, or the call that it found. -/
theorem evaluate_call {k : SignalId} {s : State} (holders : HoldersOk s)
    (unheld : (s.ctx k).holder = none → (s.ctx k).call = none) :
    ((evaluate k s).ctx k).call = none ∨ CallRenewed k s (evaluate k s) ∨ CallStands k s (evaluate k s) := by
  have served := serveHolder_call k (settleHolder k s)
  obtain idle | same := settleHolder_call holders unheld
  · obtain off | ⟨ready, counts⟩ | ⟨tallied, -⟩ := served
    · exact .inl off
    · exact .inr (.inl ⟨(serves_settleHolder k s).state k ▸ ready, counts⟩)
    · obtain ⟨-, call, -⟩ := tallied_eq tallied
      exact .inl (call.trans idle)
  · rw [same] at served
    rw [evaluate, same]
    exact served

/-- An evaluation keeps the tally of its signal. -/
theorem TallyOk.evaluate {l : List SignalId} {k : SignalId} {s : State} (h : TallyOk l k s) (holders : HoldersOk s)
    (derived : (s.ctx k).state = serviceState k s) : TallyOk l k (evaluate k s) := by
  have serves := serves_evaluate k s
  obtain idle | ⟨ready, zero, held⟩ | ⟨tallied, held⟩ := evaluate_call holders h.unheld
  · exact h.calledOff serves idle
  · obtain ⟨heard, uncovered⟩ := serviceState_ready (derived.symm.trans ready)
    refine ⟨by rw [serves.taken, serves.freshness, h.taken], fun _ => by rwa [serves.freshness],
      fun _ => by rwa [serves.covered], fun _ => by rw [held, zero], fun _ _ => ?_⟩
    rw [WithinLimit, zero]
    exact Nat.zero_le _
  · exact h.same serves.keeps tallied (serves.freshness k) held

/-- A call that an evaluation has changed has been counted from 0 (R143, R153). -/
theorem evaluate_changed {l : List SignalId} {k : SignalId} {s : State} (h : TallyOk l k s) (holders : HoldersOk s)
    (changed : callUnchanged k s (evaluate k s) = false) (on : Calls k (evaluate k s)) :
    ((evaluate k s).ctx k).refreshCount = 0 := by
  obtain idle | ⟨-, zero, -⟩ | ⟨tallied, -⟩ := evaluate_call holders h.unheld
  · exact absurd on (not_calls idle)
  · exact zero
  · obtain ⟨-, call, -, holder, -⟩ := tallied_eq tallied
    rw [callUnchanged, on, call, holder, beq_self_eq_true, beq_self_eq_true] at changed
    cases changed

/-- A refresh copy below N raises both refresh counts, to N at most (R150, R151). -/
theorem TallyOk.refreshCopy {l : List SignalId} {k : SignalId} {s : State} (h : TallyOk l k s)
    (below : (s.ctx k).refreshCount < (s.planInEffect k).maxRefreshes.toNat) : TallyOk l k (refreshCopy k s) := by
  cases hc : (s.ctx k).call with
  | none => rwa [refreshCopy_idle hc]
  | some c =>
    have on : Calls k s := by rw [Calls, hc]; rfl
    cases held : (s.ctx k).holder with
    | none => rw [h.unheld held] at hc; cases hc
    | some i =>
      have serves := serves_refreshCopy k s
      have ctx := refreshCopy_ctx hc held
      have counted := h.counted on
      rw [State.heldCount_of_holder held] at counted
      obtain ⟨r, hr, count⟩ := Option.map_eq_some_iff.mp counted
      refine ⟨by rw [ctx]; exact h.taken, fun _ => by rw [ctx]; exact h.heard on,
        fun _ => by rw [serves.covered]; exact h.uncovered on, fun _ => ?_, fun _ _ => ?_⟩
      · rw [State.heldCount_of_holder (by rw [ctx]; exact held), refreshCopy_record hc held, if_pos rfl, hr, ctx, ← count]
        rfl
      · rw [WithinLimit, serves.planInEffect, ctx]
        exact below

end Sys2Proof.Machine
end

section
/-! Refresh counts through the operations of the blocks: each keeps every signal's tally, but for the limit of signals whose
plan in effect has just changed (R153). -/

namespace Sys2Proof.Machine

/-! ## The tallies of all signals -/

/-- The derived values, an open load's index, the holders and every tally are as the rules give them, but for the limits of
the listed signals. -/
structure TalliesOk (l : List SignalId) (s : State) : Prop where
  derived : Derived s
  started : LoadStarted s
  holders : HoldersOk s
  tally : ∀ k, TallyOk l k s

/-- A turn of an event, when the holders and the tallies stand after it. -/
theorem TalliesOk.turn {l m : List SignalId} {s t : State} (h : TalliesOk l s) (turn : Turn s t) (holders : HoldersOk t)
    (tally : ∀ k, TallyOk m k t) : TalliesOk m t :=
  ⟨turn.derived h.derived, turn.loadStarted h.started, holders, tally⟩

/-- A change of the records that keeps the refresh count of every holder. -/
theorem TalliesOk.sameCtx {l : List SignalId} {s t : State} (h : TalliesOk l s) (config : SameConfig s t)
    (ctx : ∀ k, t.ctx k = s.ctx k) (holders : HoldersOk t)
    (count : ∀ k i, (s.ctx k).holder = some i →
      (t.record i).map RequestRecord.refreshCount = (s.record i).map RequestRecord.refreshCount) : TalliesOk l t :=
  h.turn (.same config ctx) holders fun k => (h.tally k).same config (by rw [ctx]) (by rw [ctx])
    (heldCount_congr (by rw [ctx]) (count k))

theorem TalliesOk.sameService {l : List SignalId} {s t : State} (h : TalliesOk l s) (same : SameService s t) :
    TalliesOk l t :=
  h.sameCtx same.toSameConfig same.ctx (h.holders.congr (fun k => by rw [same.ctx]) fun i => by rw [same.record])
    fun _ i _ => by rw [same.record]

/-! ## Service of one signal (R119 to R153) -/

/-- A change of a signal's outcome, call and counts leaves the records of the other signals. -/
theorem Accounts.serviced {k : SignalId} {s t : State} (accounts : Accounts k s t) (serves : Serves k s t) :
    Serviced k s t where
  toServes := serves
  holders h := h.accounts serves accounts
  record_left holders i r hr := by
    obtain ⟨q, hq, unserved, -, state, entry, unheld⟩ := accounts.record i r hr
    exact ⟨q, hq, fun placed => placed.record_congr unserved state entry,
      fun other => unheld fun held => other (holders.holder_signal held hr)⟩

/-- The tallies of the other signals are left by what serves one signal (R120). -/
theorem TallyOk.beside {l : List SignalId} {j k : SignalId} {s t : State} (h : TallyOk l j s) (holders : HoldersOk s)
    (serviced : Serviced k s t) (hj : j ≠ k) : TallyOk l j t := by
  have ctx := serviced.ctxOther j hj
  refine h.same serviced.toServes.keeps (by rw [ctx]) (by rw [ctx]) (heldCount_congr (by rw [ctx]) fun i held => ?_)
  obtain ⟨r, hr, signal, -⟩ := holders.holder held
  obtain ⟨q, hq, -, left⟩ := serviced.record_left holders i r hr
  rw [hq, hr, left fun e => hj (signal.symm.trans e)]

/-- What serves one signal and keeps its tally; a signal whose limit holds again is no longer listed. -/
theorem TalliesOk.serviced {l m : List SignalId} {k : SignalId} {s t : State} (h : TalliesOk l s)
    (serviced : Serviced k s t) (own : TallyOk m k t) (hlm : ∀ j ∈ l, j = k ∨ j ∈ m) : TalliesOk m t := by
  obtain ⟨states, mode⟩ := h.derived
  have serves := serviced.toServes
  refine ⟨⟨fun j => by rw [serves.state, serves.serviceState, states j], corridorMode_kept serves.keeps mode⟩,
    h.started.of_load serves.load, serviced.holders h.holders, fun j => ?_⟩
  by_cases hj : j = k
  · exact hj ▸ own
  · exact ((h.tally j).beside h.holders serviced hj).relist fun hl => (hlm j hl).resolve_left hj

section
variable {l : List SignalId} {s : State} (k : SignalId)

theorem TalliesOk.evaluate (h : TalliesOk l s) : TalliesOk l (evaluate k s) :=
  h.serviced (serviced_evaluate k s) ((h.tally k).evaluate h.holders (h.derived.1 k)) fun _ => .inr

theorem TalliesOk.evaluateAll (h : TalliesOk l s) (m : List SignalId) : TalliesOk l (evaluateAll m s) :=
  List.foldlRecOn (motive := TalliesOk l) _ _ h fun _ hu k _ => hu.evaluate k

/-- A CANCEL leaves nothing to count, so its signal is no longer listed (R146). -/
theorem TalliesOk.cancel {m : List SignalId} (h : TalliesOk l s) (hlm : ∀ j ∈ l, j = k ∨ j ∈ m) :
    TalliesOk m (generateCancel k s) :=
  h.serviced (serviced_generateCancel k s)
    ((h.tally k).calledOff (serves_generateCancel k s) (generateCancel_call k s)) hlm

theorem markLapsed_ctx (s : State) (j : SignalId) : (markLapsed k s).ctx j = s.ctx j := by
  unfold markLapsed
  split <;> rfl

/-- A lapse withdraws the call, so its signal is no longer listed (R152). -/
theorem TalliesOk.lapse {m : List SignalId} (h : TalliesOk l s) (hlm : ∀ j ∈ l, j = k ∨ j ∈ m) :
    TalliesOk m (lapse k s) := by
  have cancelled := h.cancel k hlm
  have marked : TalliesOk m (markLapsed k (Machine.generateCancel k s)) :=
    cancelled.serviced (serviced_markLapsed k _)
      ((cancelled.tally k).calledOff (serviced_markLapsed k _).toServes
        (by rw [markLapsed_ctx]; exact generateCancel_call k s)) fun _ => .inr
  have released : TalliesOk m (Machine.giveUp k (markLapsed k (Machine.generateCancel k s))) :=
    marked.serviced (serviced_giveUp k _) ((marked.tally k).calledOff (serves_giveUp k _) (giveUp_holder k _).2)
      fun _ => .inr
  rw [lapse_eq]
  exact released.evaluate k

theorem TalliesOk.takeRefreshExpiry (h : TalliesOk l s) : TalliesOk l (takeRefreshExpiry k s) := by
  have evaluated := h.evaluate k
  unfold Machine.takeRefreshExpiry refreshOrLapse
  dsimp only
  split
  · split
    · split
      · next below =>
        exact evaluated.serviced ((accounts_refreshCopy k _).serviced (serves_refreshCopy k _))
          ((evaluated.tally k).refreshCopy below) fun _ => .inr
      · exact evaluated.lapse k fun _ => .inr
    · exact evaluated
  · exact h

end

/-- The limit of a listed signal holds again. -/
theorem TalliesOk.settled {k : SignalId} {s : State} (h : TalliesOk [k] s) (limit : Calls k s → WithinLimit k s) :
    TalliesOk [] s := by
  refine ⟨h.derived, h.started, h.holders, fun j => ?_⟩
  by_cases hj : j = k
  · subst hj
    obtain ⟨taken, heard, uncovered, counted, -⟩ := h.tally j
    exact ⟨taken, heard, uncovered, counted, fun _ => limit⟩
  · exact (h.tally j).relist fun mem => absurd (List.mem_singleton.mp mem) hj

/-! ## Status frames and freshness (R101, R103, R105, R153) -/

theorem recompute_tallied (k j : SignalId) (s : State) :
    ((recompute k s).ctx j).tallied = (s.ctx j).tallied ∧ ((recompute k s).ctx j).freshness = (s.ctx j).freshness := by
  rw [recompute_ctx]
  split <;> exact ⟨rfl, rfl⟩

theorem recompute_heldCount (k j : SignalId) (s : State) : (recompute k s).heldCount j = s.heldCount j :=
  heldCount_congr (recompute_called k j s).2 fun i _ => by rw [recompute_record]

theorem TallyOk.recompute {l : List SignalId} {j : SignalId} {s : State} (h : TallyOk l j s) (k : SignalId) :
    TallyOk l j (recompute k s) :=
  h.same (recompute_keeps k s) (recompute_tallied k j s).1 (recompute_tallied k j s).2 (recompute_heldCount k j s)

theorem cleared_count (x : RequestRecord) (ch : StatusChange) : (x.cleared ch).refreshCount = x.refreshCount := by
  cases ch <;> rfl

theorem followed_count (x : RequestRecord) (k : SignalId) (p : PlanId) (f : SignalStatus) (s : State) (i : SlotId) :
    (x.followed k p f s i).refreshCount = x.refreshCount := by
  obtain ⟨-, -, -, count, -⟩ := account_eq_iff.mp (replanned_account (x.cleared (statusChange (s.ctx k) p f.position))
    (decide (p ≠ (s.ctx k).plan)) s.clock ((statusHeard k p f s).horizonUnits k))
  exact count.trans (cleared_count x _)

/-- A status frame writes no refresh count into a record (R101). -/
theorem statusTaken_count (k : SignalId) (p : PlanId) (f : SignalStatus) (s : State) (i : SlotId) :
    ((statusTaken k p f s).record i).map RequestRecord.refreshCount = (s.record i).map RequestRecord.refreshCount := by
  rw [statusTaken_record, Option.map_map]
  refine congrArg (fun g => (s.record i).map g) (funext fun r => ?_)
  rw [Function.comp_apply]
  split
  · exact followed_count r k p f s i
  · rfl

theorem withStatus_counts (c : SignalContext) (ch : StatusChange) (f : SignalStatus) (p : PlanId) (now : Time)
    (timeout : Nat) : (c.withStatus ch f p now timeout).refreshCount = c.refreshCount := by
  cases ch <;> rfl

/-- A status frame that is no change of plan select finds the plan in effect as it selects it, once the signal has been heard
(R104, R105). -/
theorem plan_of_unselected {c : SignalContext} {p : PlanId} {position : Half} (taken : c.taken = none ↔ c.freshness = .never)
    (heard : c.freshness ≠ .never) (unselected : statusChange c p position ≠ .planSelect) : p = c.plan := by
  obtain ⟨⟨q, t⟩, taken⟩ := Option.ne_none_iff_exists'.mp (mt taken.mp heard)
  by_contra selected
  rw [statusChange_heard heard taken, if_pos selected] at unselected
  exact unselected rfl

/-- The signal that takes a status frame is listed when the frame changes its plan select (R105, R153). -/
theorem TallyOk.statusTaken {l m : List SignalId} {k : SignalId} {s : State} (h : TallyOk l k s) (p : PlanId)
    (f : SignalStatus) (listed : k ∉ m → k ∉ l ∧ statusChange (s.ctx k) p f.position ≠ .planSelect) :
    TallyOk m k (statusTaken k p f s) := by
  have keeps := statusTaken_keeps k p f s
  have ctx := statusTaken_ctx_self k p f s
  obtain ⟨-, call⟩ := withStatus_kept (s.ctx k) (statusChange (s.ctx k) p f.position) f p s.clock (statusTimeout s)
  have before (on : Calls k (Machine.statusTaken k p f s)) : Calls k s := by rwa [Calls, ctx, call] at on
  have held : (Machine.statusTaken k p f s).heldCount k = s.heldCount k :=
    heldCount_congr (by rw [ctx, withStatus_holder]) fun i _ => statusTaken_count k p f s i
  refine ⟨by rw [ctx]; exact ⟨nofun, nofun⟩, fun _ => by rw [ctx]; nofun, fun on => ?_, fun on => ?_, fun hk on => ?_⟩
  · rw [State.covered, keeps.load]
    exact h.uncovered (before on)
  · rw [held, ctx, withStatus_counts]
    exact h.counted (before on)
  · obtain ⟨bounded, unselected⟩ := listed hk
    have plan := plan_of_unselected h.taken (h.heard (before on)) unselected
    have limit := h.limit bounded (before on)
    rw [WithinLimit, State.planInEffect, ctx, withStatus_counts, keeps.tables]
    rw [WithinLimit, State.planInEffect, ← plan] at limit
    exact limit

theorem TalliesOk.heard {l m : List SignalId} {s : State} (h : TalliesOk l s) (k : SignalId) (p : PlanId)
    (f : SignalStatus) (hlm : l ⊆ m)
    (listed : k ∉ m → statusChange (s.ctx k) p f.position ≠ .planSelect) :
    TalliesOk m (Machine.recompute k (statusTaken k p f s)) := by
  refine h.turn (.heard k p f s) (holdersOk_statusTaken h.holders) fun j => ?_
  refine TallyOk.recompute ?_ k
  by_cases hj : j = k
  · subst hj
    exact (h.tally j).statusTaken p f fun hm => ⟨fun hl => hm (hlm hl), listed hm⟩
  · have ctx := statusTaken_ctx_ne hj p f s
    exact ((h.tally j).relist fun hl => hlm hl).same (statusTaken_keeps k p f s) (by rw [ctx]) (by rw [ctx])
      (heldCount_congr (by rw [ctx]) fun i _ => statusTaken_count k p f s i)

/-- A call that a change of plan select has left above the new N lapses (R105, R153). -/
theorem TalliesOk.takeStatus {s : State} (h : TalliesOk [] s) (k : SignalId) (p : PlanId) (f : SignalStatus) :
    TalliesOk [] (takeStatus k p f s) := by
  rw [takeStatus_eq, lapseAboveLimit]
  by_cases selected : statusChange (s.ctx k) p f.position = .planSelect
  · have heard : TalliesOk [k] (Machine.recompute k (Machine.statusTaken k p f s)) :=
      h.heard k p f (List.nil_subset _) fun hk => absurd List.mem_cons_self hk
    have evaluated := heard.evaluate k
    split
    · exact evaluated.lapse k fun j hj => .inl (List.mem_singleton.mp hj)
    · next within =>
      refine evaluated.settled fun on => ?_
      cases unchanged : callUnchanged k (Machine.recompute k (Machine.statusTaken k p f s))
          (Machine.evaluate k (Machine.recompute k (Machine.statusTaken k p f s))) with
      | true => exact Nat.not_lt.mp fun above => within ⟨selected, unchanged, above⟩
      | false =>
        rw [WithinLimit, evaluate_changed (heard.tally k) heard.holders unchanged on]
        exact Nat.zero_le _
  · rw [if_neg fun lapses => selected lapses.1]
    exact (h.heard k p f (List.Subset.refl _) fun _ => selected).evaluate k

theorem TalliesOk.handStatus {s : State} (h : TalliesOk [] s) (p : PortId) (src : Byte) (f : SignalStatus) :
    TalliesOk [] (handStatus p src f s) := by
  refine List.foldlRecOn (motive := TalliesOk []) _ _ h fun u hu k _ => ?_
  unfold offerStatus
  split
  · exact hu
  · exact hu.takeStatus k _ f

theorem TallyOk.stale {l : List SignalId} {j k : SignalId} {s : State} {t : Time} (h : TallyOk l j s)
    (fresh : (s.ctx k).freshness = .fresh t) : TallyOk l j (s.setCtx k { s.ctx k with freshness := .stale }) := by
  by_cases hj : j = k
  · subst hj
    have ctx := State.ctx_setCtx_self s j { s.ctx j with freshness := .stale }
    refine h.congr (by rw [ctx]; rfl) ?_ rfl id (heldCount_congr (by rw [ctx]) fun _ _ => rfl)
    rw [ctx, fresh]
    exact ⟨nofun, nofun⟩
  · have ctx := State.ctx_setCtx_ne s { s.ctx k with freshness := .stale } hj
    exact h.same (setCtx_keeps k _ s) (by rw [ctx]) (by rw [ctx]) (heldCount_congr (by rw [ctx]) fun _ _ => rfl)

theorem TalliesOk.takeFreshnessExpiry {l : List SignalId} {s : State} (h : TalliesOk l s) (k : SignalId) :
    TalliesOk l (takeFreshnessExpiry k s) := by
  unfold Machine.takeFreshnessExpiry
  split
  · next due =>
    obtain ⟨t, fresh, -⟩ := (freshnessDue_iff s k).mp due
    exact (h.turn (.expired fresh) (holdersOk_expired h.holders k)
      fun j => ((h.tally j).stale fresh).recompute k).evaluate k
  · exact h

/-! ## Closures and the timers of a record (R62, R75, R78) -/

/-- A closure leaves the values of a context whose holder is not the closing record. -/
theorem closeRecord_tallied {i : SlotId} {k : SignalId} {s : State} (reason : ClosureReason)
    (unheld : (s.ctx k).holder ≠ some i) : ((closeRecord i reason s).ctx k).tallied = (s.ctx k).tallied := by
  cases hr : s.record i with
  | none => rw [closeRecord_free i reason s hr]
  | some r =>
    by_cases hk : k = r.signal
    · subst hk
      rw [closeRecord_eq hr, (recompute_tallied _ _ _).1]
      unfold struckOut
      dsimp only
      rw [State.ctx_setCtx_self, ctx_writeReport, State.ctx_setRecord, decide_eq_false unheld]
      rfl
    · rw [closeRecord_ctx_ne i reason s r k hr hk]

/-- A closing holder's call has been withdrawn (R78). -/
theorem closeRecord_idle {i : SlotId} {k : SignalId} {s : State} (holders : HoldersOk s) (reason : ClosureReason)
    (held : (s.ctx k).holder = some i) : ((closeRecord i reason s).ctx k).call = none := by
  obtain ⟨r, hr, rfl, -⟩ := holders.holder held
  have called : ((closeRecord i reason s).ctx r.signal).called = ((heldCancelled i r s).ctx r.signal).called := by
    rw [closeRecord_eq hr, (recompute_called _ _ _).1, struckOut_called]
  rw [heldCancelled, decide_eq_true held, if_pos rfl] at called
  exact (congrArg Prod.fst called).trans (generateCancel_call r.signal s)

theorem TallyOk.closeRecord {l : List SignalId} {k : SignalId} {s : State} (h : TallyOk l k s) (holders : HoldersOk s)
    (i : SlotId) (reason : ClosureReason) : TallyOk l k (closeRecord i reason s) := by
  have lasting := closeRecord_lasting i reason s k
  have taken : ((Machine.closeRecord i reason s).ctx k).taken = (s.ctx k).taken :=
    (congrArg SignalContext.taken lasting :)
  have freshness : ((Machine.closeRecord i reason s).ctx k).freshness = (s.ctx k).freshness :=
    (congrArg SignalContext.freshness lasting :)
  by_cases held : (s.ctx k).holder = some i
  · exact tallyOk_of_idle (by rw [taken, freshness, h.taken]) (closeRecord_idle holders reason held) l
  · have tallied := closeRecord_tallied reason held
    obtain ⟨-, -, -, holder, -⟩ := tallied_eq tallied
    refine h.same (closeRecord_keeps i reason s) tallied freshness (heldCount_congr holder fun j hj => ?_)
    rw [closeRecord_other i j reason s fun e => held (e ▸ hj)]

theorem TalliesOk.closeRecord {l : List SignalId} {s : State} (h : TalliesOk l s) (i : SlotId) (reason : ClosureReason) :
    TalliesOk l (closeRecord i reason s) :=
  h.turn (.closed i reason s) ((matched_closeRecord i reason s).holders h.holders)
    fun k => (h.tally k).closeRecord h.holders i reason

theorem TalliesOk.closeAll {l : List SignalId} {s : State} (h : TalliesOk l s) (slots : List SlotId)
    (reason : ClosureReason) : TalliesOk l (closeAll slots reason s) :=
  List.foldlRecOn (motive := TalliesOk l) _ _ h fun _ hu i _ => hu.closeRecord i reason

/-- A record written over another with its refresh count. -/
theorem TalliesOk.setRecord_same {l : List SignalId} {s : State} (h : TalliesOk l s) {i : SlotId} {r q : RequestRecord}
    (hr : s.record i = some r) (count : q.refreshCount = r.refreshCount) (holders : HoldersOk (s.setRecord i (some q))) :
    TalliesOk l (s.setRecord i (some q)) := by
  refine h.sameCtx (setRecord_keeps i _ s) (fun _ => rfl) holders fun _ j _ => ?_
  rw [State.record_setRecord]
  split
  · next e => rw [e, hr, Option.map_some, Option.map_some, count]
  · rfl

/-- A record written into a free slot, which holds nowhere (R63). -/
theorem TalliesOk.setRecord_free {l : List SignalId} {s : State} (h : TalliesOk l s) {i : SlotId} (free : s.record i = none)
    {q : RequestRecord} (state : q.state ≠ .holding) : TalliesOk l (s.setRecord i (some q)) := by
  refine h.sameCtx (setRecord_keeps i _ s) (fun _ => rfl) (holdersOk_setRecord_free h.holders free state)
    fun k j held => ?_
  rw [State.record_setRecord, if_neg]
  rintro rfl
  exact h.holders.holder_free free k held

theorem TalliesOk.takeHorizonEntry {l : List SignalId} {s : State} (h : TalliesOk l s) (i : SlotId) :
    TalliesOk l (takeHorizonEntry i s) := by
  unfold Machine.takeHorizonEntry
  split
  · exact h
  · next r hr =>
    split
    · next due =>
      have unheld := h.holders.holder_ne hr (by rw [due.1]; nofun) (by rw [due.1]; nofun) r.signal
      have woken := h.setRecord_same (q := { r with state := .waiting, horizonEntry := none }) hr rfl
        (holdersOk_setRecord_same h.holders hr rfl (iff_of_false nofun unheld))
      exact woken.evaluate r.signal
    · exact h

theorem TalliesOk.takeAgeExpiry {l : List SignalId} {s : State} (h : TalliesOk l s) (i : SlotId) :
    TalliesOk l (takeAgeExpiry i s) := by
  unfold Machine.takeAgeExpiry
  split
  · exact h
  · split
    · exact (h.closeRecord i _).evaluate _
    · exact h

theorem TalliesOk.takeProjectionExpiry {l : List SignalId} {s : State} (h : TalliesOk l s) (i : SlotId) :
    TalliesOk l (takeProjectionExpiry i s) := by
  unfold Machine.takeProjectionExpiry
  split
  · exact h
  · split
    · exact (h.closeRecord i _).evaluate _
    · exact h

end Sys2Proof.Machine
end

section
/-! Refresh counts through a bus report, through a load and through the management requests. -/

namespace Sys2Proof.Machine

/-! ## Bus reports (R29 to R37, R64 to R71) -/

theorem TalliesOk.attemptProjection {l : List SignalId} {s : State} (h : TalliesOk l s) (i : SlotId) (doors : Bool) :
    TalliesOk l (attemptProjection i doors s).1 := by
  obtain e | ⟨r, next, k, d, j, -, -, free, e⟩ := attemptProjection_cases i doors s <;> rw [e]
  · exact h
  · exact h.setRecord_free (State.freeSlot_free free) (q := projectedRecord r next k d doors s) nofun

/-- A record is created in a free slot and makes its projection attempt (R64). -/
theorem TalliesOk.create {l : List SignalId} {s : State} (h : TalliesOk l s) {i : SlotId} (free : s.record i = none)
    (t : TakenReport) (k : SignalId) (z : ZoneEntry) (route : Fin 32) :
    TalliesOk l (Machine.attemptProjection i t.doorsOpen (createRecord i t k z route s)).1 := by
  have state : (createdRecord t k z route s).state ≠ .holding := by
    obtain armed | waiting := createdRecord_state t k z route s
    · rw [armed]; nofun
    · rw [waiting]; nofun
  rw [createRecord_eq]
  exact (h.setRecord_free free state).attemptProjection i _

/-- A converted record keeps its refresh count (R65). -/
theorem TalliesOk.convertRecord {l : List SignalId} {s : State} (h : TalliesOk l s) {i : SlotId} {r : RequestRecord}
    (hr : s.record i = some r) (t : TakenReport) (z : ZoneEntry) : TalliesOk l (convertRecord i r t z s) := by
  have holders := (matched_convertRecord t z hr).holders h.holders
  obtain ⟨-, -, -, count, -⟩ := account_eq_iff.mp (convertedRecord_rest i r t z s).2
  rw [convertRecord_eq] at holders ⊢
  exact h.setRecord_same hr count holders

theorem TalliesOk.checkIn {l : List SignalId} {s : State} (h : TalliesOk l s) (t : TakenReport) (k : SignalId)
    (z : ZoneEntry) (route : Fin 32) : TalliesOk l (checkIn t k z route s).1 := by
  cases hfound : s.findRecord t.bus k with
  | some x =>
    obtain ⟨i, r⟩ := x
    by_cases hp : r.state = .projected
    · rw [checkIn_projected hfound hp]
      exact (h.convertRecord (State.findRecord_some hfound).1 t z).attemptProjection i _
    · rw [checkIn_present hfound hp]
      exact h
  | none =>
    cases hi : s.freeSlot with
    | some i =>
      rw [checkIn_new hfound hi]
      exact h.create (State.freeSlot_free hi) t k z route
    | none =>
      rw [checkIn_full hfound hi]
      obtain ⟨x, -, e⟩ | e | ⟨b, e⟩ := checkInFull_cases t k z route s <;> rw [e]
      · exact (h.closeRecord x.1 .displaced).create (closeRecord_slot x.1 .displaced s) t k z route
      · exact h
      · exact h.sameService (sameService_writeReport b s)

theorem TalliesOk.matchZone {l : List SignalId} {s : State} (h : TalliesOk l s) (t : TakenReport) (route : Fin 32) :
    TalliesOk l (matchZone t route s).1 := by
  unfold Machine.matchZone
  split
  · exact h.closeAll _ _
  · split
    · exact h
    · unfold inZone
      split
      · split
        · exact h
        · exact h.closeAll _ _
      · split
        · exact h.checkIn t _ _ route
        · exact h

/-- An update writes no refresh count into a record (R34, R70, R71). -/
theorem TalliesOk.updateRecords {l : List SignalId} {s : State} (h : TalliesOk l s) (t : TakenReport) :
    TalliesOk l (updateRecords t s).1 := by
  have only := onlyRecords_updateRecords t s
  refine h.sameCtx only.keeps only.ctx (holdersOk_updateRecords h.holders t) fun k i _ => ?_
  rw [updateRecords_record, Option.map_map]
  refine congrArg (fun g => (s.record i).map g) (funext fun r => ?_)
  obtain ⟨-, -, -, account⟩ := updated_rest r t s
  obtain ⟨-, -, -, count, -⟩ := account_eq_iff.mp account
  exact count

theorem TalliesOk.evaluateTouched {l : List SignalId} {s : State} (h : TalliesOk l s) (touched : List SignalId) :
    TalliesOk l (evaluateTouched touched s) := by
  obtain ⟨west, east, e⟩ := evaluateTouched_eq touched s
  rw [e]
  exact (h.evaluateAll _).sameService ⟨by constructor <;> rfl, fun _ => rfl, fun _ => rfl⟩

theorem TalliesOk.takeBusReport {l : List SignalId} {s : State} (h : TalliesOk l s) (r : BusReport) :
    TalliesOk l (takeBusReport r s) := by
  obtain e | ⟨t, route, -, -, e⟩ := takeBusReport_cases r s <;> rw [e]
  · exact h
  · unfold actOnReport
    dsimp only
    split
    · exact (h.closeAll _ _).evaluateTouched _
    · exact ((h.matchZone t route).updateRecords t).evaluateTouched _

/-! ## A load is opened, goes on and ends (chapter 9) -/

/-- The records that a TABLE OPEN leaves are those of the signals that it does not cover, and so are the holders (R116). -/
theorem holdersOk_openLoad {s : State} (h : HoldersOk s) (id : TableId) (start expected : Nat) (p : PortId) :
    HoldersOk (openLoad id start expected p s) := by
  refine (holdersOk_iff _).mpr ⟨fun k i held => ?_, fun i r hr holding => ?_⟩
  · rw [openLoad_ctx] at held
    split at held
    · cases held
    · next uncovered =>
      obtain ⟨r, hr, rfl, state⟩ := h.holder held
      exact ⟨r, by rw [openLoad_record, hr, Option.filter_some, if_pos (by simpa using uncovered)], rfl, state⟩
  · rw [openLoad_record, Option.filter_eq_some_iff] at hr
    obtain ⟨hr, uncovered⟩ := hr
    rw [openLoad_ctx, if_neg (by simpa using uncovered)]
    exact h.holding hr holding

/-- A TABLE OPEN withdraws the calls of the signals that it covers (R116, R163). -/
theorem TalliesOk.openLoad {l : List SignalId} {s : State} (h : TalliesOk l s) (closed : s.load = none) (id : TableId)
    (start expected : Nat) (p : PortId) : TalliesOk l (openLoad id start expected p s) := by
  refine h.turn (.opened id start expected p closed) (holdersOk_openLoad h.holders id start expected p) fun k => ?_
  have ctx := openLoad_ctx id start expected p s k
  have tally := h.tally k
  cases hk : (openContext id start expected p).covers k with
  | true =>
    rw [hk, if_pos rfl] at ctx
    exact tallyOk_of_idle (by rw [ctx]; exact tally.taken) (by rw [ctx]; rfl) l
  | false =>
    rw [hk, if_neg Bool.false_ne_true] at ctx
    have tables : (Machine.openLoad id start expected p s).tables = s.tables :=
      (suspended_keeps id start expected p s).tables
    refine tally.congr (by rw [ctx]) (by rw [ctx]) (by rw [tables]) (fun covered => ?_)
      (heldCount_congr (by rw [ctx]) fun i held => ?_)
    · rw [openLoad_covered, hk] at covered
      cases covered
    · obtain ⟨r, hr, rfl, -⟩ := h.holders.holder held
      rw [openLoad_record, hr, Option.filter_some, hk]
      rfl

theorem TalliesOk.moved {l : List SignalId} {s : State} (h : TalliesOk l s) {c d : LoadContext} (load : s.load = some c)
    (goes : GoesOn c d) : TalliesOk l { s with load := some d } :=
  h.turn (.moved load goes) h.holders fun k =>
    (h.tally k).congr rfl Iff.rfl rfl (fun covered => covered_moved load goes k ▸ covered) rfl

/-- A stored entry is another signal's, or one of a covered signal that has no call. -/
theorem TallyOk.stored {m : List SignalId} {k : SignalId} {l : LoadContext} {bytes : List Byte} {s t : State}
    (h : TallyOk m k s) (stored : EntryStored l bytes s t) (started : LoadStarted s)
    (record : ∀ i, t.record i = s.record i) : TallyOk m k t := by
  have ctx := stored.ctx k
  by_cases writes : l.writesTo k
  · refine tallyOk_of_idle (by rw [ctx]; exact h.taken) ?_ m
    by_contra on
    rw [ctx] at on
    have uncovered := h.uncovered (Option.isSome_iff_ne_none.mpr on)
    rw [stored.coveredOwn started writes] at uncovered
    cases uncovered
  · exact h.congr (by rw [ctx]) (by rw [ctx]) (stored.planEntry writes _) (fun covered => stored.covered k ▸ covered)
      (heldCount_congr (by rw [ctx]) fun i _ => by rw [record])

theorem TalliesOk.recomputeOne {l : List SignalId} {k : SignalId} {s : State} (h : TalliesOk l (recompute k s)) :
    TalliesOk l (recomputeOne k s) := by
  unfold Machine.recomputeOne
  dsimp only
  split
  · exact h
  · exact h.evaluate k

theorem HoldersOk.same {s t : State} (h : HoldersOk s) (ctx : ∀ k, t.ctx k = s.ctx k)
    (record : ∀ i, t.record i = s.record i) : HoldersOk t :=
  h.congr (fun k => by rw [ctx]) fun i => by rw [record]

section
variable {m : List SignalId} {l : LoadContext} {bytes : List Byte} {s t : State}

/-- An entry that is no signal's own. -/
theorem TalliesOk.storedElse (h : TalliesOk m s) (stored : EntryStored l bytes s t) (record : ∀ i, t.record i = s.record i)
    (others : ∀ k, ¬ l.writesTo k) : TalliesOk m t :=
  h.turn (.storedElse stored others) (h.holders.same stored.ctx record)
    fun k => (h.tally k).stored stored h.started record

/-- A signal's own entry, after which its service state is recomputed (R112). -/
theorem TalliesOk.storedFor (h : TalliesOk m s) {k : SignalId} (stored : EntryStored l bytes s t)
    (record : ∀ i, t.record i = s.record i) (writes : l.writesTo k) : TalliesOk m (Machine.recomputeOne k t) :=
  TalliesOk.recomputeOne (h.turn (.storedFor stored writes)
    (holdersOk_recompute (h.holders.same stored.ctx record) k)
    fun j => ((h.tally j).stored stored h.started record).recompute k)

end

theorem dropMovedCall_record (k : SignalId) (before : Option PortId) (s : State) (i : SlotId) :
    (dropMovedCall k before s).record i = s.record i := by
  unfold dropMovedCall
  split
  · rfl
  · split
    · rfl
    · exact State.record_setPort _ _ _ _

/-- A stored entry is followed by the recomputation of the signal whose own it is, if it is any signal's (R112, R165). -/
theorem storeEntry_cases {l : LoadContext} {s : State} (load : s.load = some l) (inRange : l.writeIndex ≤ l.rangeEnd)
    (bytes : List Byte) : ∃ t, EntryStored l bytes s t ∧ (∀ i, t.record i = s.record i) ∧
      ((∃ k, l.writesTo k ∧ storeEntry l.table l.writeIndex bytes s = recomputeOne k t) ∨
        ((∀ k, ¬ l.writesTo k) ∧ storeEntry l.table l.writeIndex bytes s = t)) := by
  have stored : EntryStored l bytes s { s with tables := s.tables.storeEntry l.table l.writeIndex bytes } :=
    ⟨load, inRange, SameConfig.refl _, fun _ => rfl⟩
  cases ht : l.table <;> rw [ht] at stored
  case signal =>
    unfold Machine.storeEntry
    dsimp only
    split
    · next hk =>
      refine ⟨_, stored, fun _ => rfl, .inr ⟨fun k writes => ?_, rfl⟩⟩
      obtain ⟨-, e⟩ | ⟨e, -⟩ := writes
      · exact absurd k.isLt (Nat.not_lt.mpr (e ▸ indexBelow_none hk))
      · cases ht.symm.trans e
    · next k hk =>
      refine ⟨dropMovedCall k (s.signalEntry k).configuredPort
        { s with tables := s.tables.storeEntry .signal l.writeIndex bytes }, ⟨load, inRange, ?_, ?_⟩,
        dropMovedCall_record k _ _, .inl ⟨k, .inl ⟨ht, (indexBelow_some hk).symm⟩, rfl⟩⟩
      · rw [ht]
        exact dropMovedCall_keeps k _ _
      · exact dropMovedCall_ctx k _ _
  case plan =>
    unfold Machine.storeEntry
    dsimp only
    split
    · next hk =>
      refine ⟨_, stored, fun _ => rfl, .inr ⟨fun k writes => ?_, rfl⟩⟩
      obtain ⟨e, -⟩ | ⟨-, e⟩ := writes
      · cases ht.symm.trans e
      · exact absurd k.isLt (Nat.not_lt.mpr (e ▸ indexBelow_none hk))
    · next k hk => exact ⟨_, stored, fun _ => rfl, .inl ⟨k, .inr ⟨ht, (indexBelow_some hk).symm⟩, rfl⟩⟩
  all_goals
    refine ⟨_, stored, fun _ => rfl, .inr ⟨fun k writes => ?_, rfl⟩⟩
    obtain ⟨e, -⟩ | ⟨e, -⟩ := writes <;> cases ht.symm.trans e

theorem TalliesOk.storeEntry {m : List SignalId} {l : LoadContext} {s : State} (h : TalliesOk m s)
    (load : s.load = some l) (inRange : l.writeIndex ≤ l.rangeEnd) (bytes : List Byte) :
    TalliesOk m (storeEntry l.table l.writeIndex bytes s) := by
  obtain ⟨t, stored, record, ⟨k, writes, e⟩ | ⟨others, e⟩⟩ := storeEntry_cases load inRange bytes <;> rw [e]
  · exact h.storedFor stored record writes
  · exact h.storedElse stored record others

theorem TalliesOk.assemble {m : List SignalId} (fuel : Nat) {l c : LoadContext} {s : State} (h : TalliesOk m s)
    (load : s.load = some l) (goes : GoesOn l c) (fits : c.fits) : TalliesOk m (assemble fuel c s) := by
  have moved := h.moved load goes
  induction fuel generalizing l c s with
  | zero => exact moved
  | succ fuel ih =>
    unfold Machine.assemble
    split
    · exact moved
    · next whole =>
      have loaded := (storeEntry_keeps c.table c.writeIndex (c.buffer.take c.table.entrySize)
        { s with load := some c }).load
      have stored := moved.storeEntry rfl (fits.inRange (Nat.not_lt.mp whole)) (c.buffer.take c.table.entrySize)
      exact ih stored loaded (goesOn_advanced c) fits.advanced (stored.moved loaded (goesOn_advanced c))

/-- The end of a load leaves no signal covered (R168, R170). -/
theorem TalliesOk.loadEnded {m : List SignalId} {l : LoadContext} {s : State} (h : TalliesOk m s) (v : Parity)
    (w : Validity) (load : s.load = some l) (ends : EndsAs l.table w s) :
    TalliesOk m (recomputeAndEvaluate (endLoad v l.table w s)) := by
  have ctx (k : SignalId) := (recomputeAll_all_ctx k (endLoad v l.table w s)).trans (by rw [endLoad_ctx])
  have record (i : SlotId) : (recomputeAll allSignals (endLoad v l.table w s)).record i = s.record i := by
    rw [recomputeAll_record, endLoad_record]
  have keeps := (works_recomputeAll allSignals (endLoad v l.table w s)).toSameConfig
  rw [recomputeAndEvaluate_eq]
  refine TalliesOk.evaluateAll (h.turn (.ended v w load ends) ?_ fun k => ?_) _
  · exact holdersOk_recomputeAll (h.holders.same (endLoad_ctx v _ w s) (endLoad_record v _ w s)) allSignals
  · refine (h.tally k).congr (by rw [ctx]; rfl) (by rw [ctx]) ?_ (fun covered => ?_)
      (heldCount_congr (by rw [ctx]) fun i _ => by rw [record])
    · rw [keeps.tables, (endLoad_keeps v _ w s).1]
    · rw [State.covered, keeps.load] at covered
      cases covered

/-! ## Management requests (chapters 9 and 10) -/

theorem TalliesOk.needLength {m : List SignalId} {s : State} (h : TalliesOk m s) (kind : Byte) (n : Nat)
    (payload : List Byte) {act : State → State × Answer} (hact : TalliesOk m (act s).1) :
    TalliesOk m (needLength kind n payload act s).1 :=
  needLength_cases (P := fun x => TalliesOk m x.1) kind n payload act s h hact

theorem TalliesOk.actDisable {m : List SignalId} {s : State} (h : TalliesOk m s) (code : Byte) (b : Bool) (signal : Byte) :
    TalliesOk m (actDisable code b signal s).1 := by
  unfold Machine.actDisable
  split
  · exact h
  · next k _ =>
    dsimp only
    split
    · exact h
    · have holders : HoldersOk (s.setDisabled k b) := h.holders.same (fun _ => rfl) fun _ => rfl
      have flagged (j : SignalId) : TallyOk m j (s.setDisabled k b) := (h.tally j).congr rfl Iff.rfl rfl id rfl
      exact TalliesOk.evaluate k (h.turn (.flagged k b s) (holdersOk_recompute holders k) fun j => (flagged j).recompute k)

theorem TalliesOk.observed {m : List SignalId} {s : State} (h : TalliesOk m s) (b : Bool) :
    TalliesOk m (Machine.evaluateAll allSignals { s with observe := b }) :=
  (h.turn (.observed b s) (h.holders.same (fun _ => rfl) fun _ => rfl)
    fun j => (h.tally j).congr rfl Iff.rfl rfl id rfl).evaluateAll allSignals

theorem TalliesOk.corridorReset {m : List SignalId} {s : State} (h : TalliesOk m s) : TalliesOk m (corridorReset s) := by
  refine h.turn (.emptied s) (HoldersTrue.corridorReset s).1 fun k => ?_
  have ctx := corridorReset_ctx s k
  exact tallyOk_of_idle (by rw [ctx]; exact ⟨fun _ => rfl, fun _ => rfl⟩) (by rw [ctx]; rfl) m

theorem TalliesOk.actControl {m : List SignalId} {s : State} (h : TalliesOk m s) (payload : List Byte) :
    TalliesOk m (actControl payload s).1 := by
  refine h.needLength _ _ _ ?_
  dsimp only
  split
  · exact h.actDisable _ _ _
  split
  · exact h.actDisable _ _ _
  split
  · unfold actObserveOn
    dsimp only
    split
    · exact h
    · have cancelled : TalliesOk m (cancelAll s) :=
        List.foldlRecOn (motive := TalliesOk m) _ _ h fun _ hu k _ => hu.cancel k fun _ => .inr
      exact cancelled.observed true
  split
  · unfold actObserveOff
    dsimp only
    split
    · exact h.observed false
    · exact h
  split
  · exact h.corridorReset
  · exact h

theorem TalliesOk.actTableOpen {m : List SignalId} {s : State} (h : TalliesOk m s) (p : PortId) (payload : List Byte) :
    TalliesOk m (actTableOpen p payload s).1 := by
  refine h.needLength _ _ _ ?_
  dsimp only
  split
  · exact h
  · next closed =>
    split
    · exact h
    · split
      · exact h
      · exact h.openLoad (Option.not_isSome_iff_eq_none.mp closed) _ _ _ p

theorem TalliesOk.actTableWrite {m : List SignalId} {s : State} (h : TalliesOk m s) (p : PortId) (payload : List Byte) :
    TalliesOk m (actTableWrite p payload s).1 := by
  unfold Machine.actTableWrite
  split
  · exact h
  split
  · exact h
  · next l hl =>
    split
    · exact h
    · next fits =>
      rw [overruns_iff] at fits
      refine h.assemble _ (loadFrom_load hl) ⟨rfl, rfl, rfl, id⟩ ?_
      rw [LoadContext.fits, List.length_append]
      exact Nat.not_lt.mp fits

theorem TalliesOk.actTableSeek {m : List SignalId} {s : State} (h : TalliesOk m s) (p : PortId) (payload : List Byte) :
    TalliesOk m (actTableSeek p payload s).1 := by
  refine h.needLength _ _ _ ?_
  split
  · exact h
  · next l hl =>
    dsimp only
    split
    · exact h
    · next inside =>
      exact h.moved (d := { l with writeIndex := (byteAt payload 0).toNat, buffer := [] }) (loadFrom_load hl)
        ⟨rfl, rfl, rfl, fun _ => Nat.not_lt.mp (not_or.mp inside).1⟩

theorem TalliesOk.actTableClose {m : List SignalId} {s : State} (h : TalliesOk m s) (p : PortId) (payload : List Byte) :
    TalliesOk m (actTableClose p payload s).1 := by
  refine h.needLength _ _ _ ?_
  split
  · exact h
  · next l hl =>
    split
    · exact h
    split
    · exact h
    split
    · exact h
    · next passed =>
      dsimp only
      rw [closeLoad_eq]
      exact h.loadEnded _ _ (loadFrom_load hl) (.inr ⟨rfl, passed⟩)

theorem TalliesOk.actTableAbandon {m : List SignalId} {s : State} (h : TalliesOk m s) (payload : List Byte) :
    TalliesOk m (actTableAbandon payload s).1 := by
  refine h.needLength _ _ _ ?_
  split
  · exact h
  · next l hl =>
    dsimp only
    rw [abandonLoad_eq]
    exact h.loadEnded _ _ hl (.inl rfl)

theorem TalliesOk.actReadReports {m : List SignalId} {s : State} (h : TalliesOk m s) (payload : List Byte) :
    TalliesOk m (actReadReports payload s).1 := by
  refine h.needLength _ _ _ ?_
  dsimp only
  split
  · exact h
  · exact h.sameService ⟨by constructor <;> rfl, fun _ => rfl, fun _ => rfl⟩

theorem TalliesOk.actRequest {m : List SignalId} {s : State} (h : TalliesOk m s) (p : PortId) (kind : Byte)
    (payload : List Byte) : TalliesOk m (actRequest p kind payload s).1 := by
  have unchanged {t : State} (e : t = s) : TalliesOk m t := e ▸ h
  exact actRequest_cases (P := fun _ x => TalliesOk m x.1) p kind payload s
    (unchanged (actQueryStatus_state payload s)) (unchanged (actQuerySignal_state payload s))
    (unchanged (actQueryRequests_state payload s)) (h.actReadReports payload) (h.actControl payload)
    (h.actTableOpen p payload) (h.actTableWrite p payload) (h.actTableSeek p payload) (h.actTableClose p payload)
    (h.actTableAbandon payload) (unchanged (actTableRead_state payload s)) fun _ => h

/-! ## Every step -/

theorem tallies_kept : ServiceKeeps (TalliesOk []) where
  same same h := h.sameService same
  report r _ h := h.takeBusReport r
  status p src f _ h := h.handStatus p src f
  request p kind payload _ h := h.actRequest p kind payload
  freshness k _ h := h.takeFreshnessExpiry k
  horizon i _ h := h.takeHorizonEntry i
  age i _ h := h.takeAgeExpiry i
  projection i _ h := h.takeProjectionExpiry i
  refresh k _ h := h.takeRefreshExpiry k

theorem tallies_afterReset (s : State) (held : Bool) (own : Option (BitVec 6)) : TalliesOk [] (afterReset s held own) := by
  have silent := silent_afterReset s held own
  refine ⟨derived_afterReset s held own, loadStarted_of_none silent.load,
    (holdersTrue_of_none (fun k => ?_) silent.record).1, fun k => tallyOk_of_idle ?_ ?_ []⟩ <;> rw [silent.ctx]
  · rfl
  · exact ⟨fun _ => rfl, fun _ => rfl⟩
  · rfl

/-- The input sequence, the clock and the count of free choices are not what a tally depends on. -/
theorem TalliesOk.setCourse {s : State} (h : TalliesOk [] s) (pending : List Instr) (clock : Time) (freeCount : Nat) :
    TalliesOk [] { s with pending := pending, clock := clock, freeCount := freeCount } :=
  ⟨h.derived, h.started, h.holders.same (fun _ => rfl) fun _ => rfl, fun k => (h.tally k).congr rfl Iff.rfl rfl id rfl⟩

/-- A call in force belongs to a holder of a READY signal, which has been heard and is not covered (R111, R137, R148). -/
theorem talliesOk_of_ok {s : State} (derived : Derived s) (load : LoadOk s) (taken : TakenOk s) (holders : HoldersOk s)
    (calls : CallsOk s) (counts : RefreshCountsOk s) : TalliesOk [] s := by
  have gates {k : SignalId} (on : Calls k s) : (s.ctx k).freshness ≠ .never ∧ s.covered k = false := by
    obtain ⟨-, ready, -⟩ := (calls k).1 on
    exact serviceState_ready ((derived.1 k).symm.trans ready)
  refine ⟨derived, load.started, holders, fun k =>
    ⟨taken k, fun on => (gates on).1, fun on => (gates on).2, fun on => ?_, fun _ on => (counts k on).1⟩⟩
  obtain ⟨held, -⟩ := (calls k).1 on
  obtain ⟨i, hi⟩ := Option.isSome_iff_exists.mp held
  obtain ⟨r, hr, -⟩ := holders.holder hi
  rw [State.heldCount_of_holder hi, hr, ← (counts k on).2 (i, r) ((s.mem_records (i, r)).mpr hr) hi]
  rfl

theorem TalliesOk.refreshCountsOk {s : State} (h : TalliesOk [] s) : RefreshCountsOk s := by
  refine fun k on => ⟨(h.tally k).limit List.not_mem_nil on, fun x hx held => ?_⟩
  have counted := (h.tally k).counted on
  rw [State.heldCount_of_holder held, (s.mem_records x).mp hx] at counted
  exact Option.some.inj counted

/-- Settles O53: a call is generated with both counts at 0, a refresh copy raises them below N alone, a call that a change of
plan select leaves above the new N lapses, and an entry of the plan changes only while its signal has no call. -/
theorem refreshCountsStayBounded : Obligations.RefreshCountsStayBounded := by
  rintro s t ⟨states, mode, -⟩ load taken holders calls counts ht
  have kept := tallies_kept.step tallies_afterReset (fun s l h => h.setCourse l s.clock s.freeCount)
    (fun s x h => h.setCourse s.pending x s.freeCount) (fun s n h => h.setCourse s.pending s.clock n)
    (talliesOk_of_ok ⟨states, mode⟩ load taken holders calls counts) ht
  exact kept.refreshCountsOk

end Sys2Proof.Machine
end
